-- ==== Sys2Proof/Word.lean ====
section
/-!
DEFINITION. The word types of the Galcip 412: what the manual treats as bits is a bit vector, what it
numbers is a Fin, and what it counts or orders is a Nat (R197, 00_scope.md "Identifiers").
-/

namespace Sys2Proof

/-- A byte of a connection (R198), and a character of an entry, body or reply text. -/
abbrev Byte := BitVec 8
/-- A station number, 0 to 15 (R189). -/
abbrev Station := Fin 16
/-- A station set: bit n stands for station n (R197). -/
abbrev StationSet := BitVec 16
/-- A zone, 0 to 7. -/
abbrev Zone := Fin 8
/-- A zone set: bit n stands for zone n (R197). -/
abbrev ZoneSet := BitVec 8
/-- An air frame number: 16 bits, wrapping (R123). -/
abbrev FrameNo := BitVec 16
/-- A period number: 16 bits, wrapping (R174). -/
abbrev Period := BitVec 16
/-- A receipt serial: 16 bits, wrapping (R105). -/
abbrev Serial := BitVec 16
/-- A note serial: 8 bits, wrapping (R24). -/
abbrev NoteSerial := BitVec 8
/-- A tag of a page (R111) or of a request (R83): 8 bits, wrapping. -/
abbrev Tag := BitVec 8
/-- A pager address, 0 to 2,097,151 (R1). -/
abbrev PagerAddr := BitVec 21
/-- An intake line, 0 to 3. -/
abbrev LineNo := Fin 4
/-- A call context of a line, 0 to 15. -/
abbrev CtxNo := Fin 16
/-- A 16-bit count that saturates at 65535 (R36, R79, R139, R160, R187). -/
abbrev Count := BitVec 16
/-- A unit total: 48 bits, wrapping (R172). -/
abbrev Total := BitVec 48

end Sys2Proof
end

