-- ==== Sys2Proof/Syntax.lean ====
section
/-!
DEFINITION. The commands of the station: one constructor of Instr for each row of spec/opcode_table.json,
with the operands its rule gives the event. A row that is an outside event carries what the outside
supplies (bytes, levels, addresses); a row that is a step of the station's own names the item it is for.
-/

namespace Sys2Proof

/-- Priority of a message (R84, R103). -/
inductive Priority where
  | urgent | normal
deriving DecidableEq, Repr

/-- Pager class (R1). -/
inductive PagerClass where
  | numeric | alpha | twoWay
deriving DecidableEq, Repr

/-- A field group of an amend (R11, R85). -/
inductive Group where
  | tariff (t : Fin 8)
  | plan (p : Fin 8)
  | zones (z : ZoneSet)
  | pagerClass (k : PagerClass)
  | quota (q : Option (BitVec 32))
  | threshold (n : Option (BitVec 32))
  | clearLimit
deriving DecidableEq, Repr

/-- A parsed request: kind and fields (R83, R84). -/
inductive Request where
  | submit (sub : Nat) (priority : Priority) (body : List Byte)
  | cancel (station : Station) (serial : Serial)
  | query (station : Station) (serial : Serial)
  | enrol (sub : Nat) (addr : PagerAddr) (pagerClass : PagerClass) (tariff plan : Fin 8)
      (zones : ZoneSet) (quota threshold : Option (BitVec 32))
  | amend (sub : Nat) (groups : List Group)
  | suspend (sub : Nat)
  | resume (sub : Nat)
  | withdraw (sub : Nat)
  | meterRead (sub : Nat)
  | periodClose
  | status (clear : Bool)
deriving DecidableEq, Repr

/-- Who brings a request to this station (section 5.4): a call context of an intake line, whose
closed entry reads as this request (R73, R83), or a peer whose FORWARD with this request tag is taken
(R28). -/
inductive Requester where
  | context (line : LineNo) (ctx : CtxNo)
  | peer (station : Station) (tag : Tag)
deriving DecidableEq, Repr

/-- The commands, in the order of spec/opcode_table.json. -/
inductive Instr where
  /-- POWER_ON (R188): with the levels of the reset line and of the supply at that moment. -/
  | powerOn (resetAsserted supplyValid : Bool)
  /-- RESET_LINE_ASSERTED (R188). -/
  | resetLineAsserted
  /-- RESET_LINE_RELEASED (R188, R189): with the strap pins as they read at that moment. -/
  | resetLineReleased (straps : BitVec 4)
  /-- CONFIGURATION_READ_COMPLETE (R190): with the bytes the memory gave. -/
  | configurationReadComplete (bytes : List Byte)
  /-- OFFICE_MARK_BUS (R20): with the number of the air frame that the mark begins. -/
  | officeMarkBus (frame : FrameNo)
  /-- OFFICE_MARK_AIRTIME (R123). -/
  | officeMarkAirtime
  /-- AIR_FRAME_START (R115): the starting frame number, and the order in which the waits that end
  at this start are taken (R155 allows any; serials not named follow in store order). -/
  | airFrameStart (frame : FrameNo) (order : List Serial)
  /-- WAIT_END (R156): the last count of the wait of one message. -/
  | waitEnd (serial : Serial)
  /-- HOLD_END (R157): the last count of the hold of one message. -/
  | holdEnd (serial : Serial)
  /-- MESSAGE_EXPIRY (R116): the expiry test of one message. -/
  | messageExpiry (serial : Serial)
  /-- OWED_NOTICE_OFFERS (R170). -/
  | owedNoticeOffers
  /-- REPORT_ENTRY_AGED (R142): with the number of the air frame that starts. -/
  | reportEntryAged (frame : FrameNo)
  /-- JOINING_END (R49). -/
  | joiningEnd
  /-- ROUND_FRAME_SEND (R21). -/
  | roundFrameSend
  /-- ADOPTION (R46). -/
  | adoption
  /-- WINDOW_READING (R22): the peer whose window ends, and the bytes heard in it. -/
  | windowReading (peer : Station) (heard : List Byte)
  /-- SILENT_VIEW (R38): the count that reaches S on a NOTHING reading of a peer. -/
  | silentView (peer : Station)
  /-- NOTE_FAILURE (R27): the note to a peer, by its serial. -/
  | noteFailure (peer : Station) (serial : NoteSerial)
  /-- ROUND_END (R20). -/
  | roundEnd
  /-- REQUEST_OVERALL_LIMIT (R92): the last count of one pending entry. -/
  | requestOverallLimit (tag : Tag)
  /-- ANSWER_LIMIT (R92): the last count of one pending entry. -/
  | answerLimit (tag : Tag)
  /-- DEFERRAL_END (R91): the last count of one pending entry. -/
  | deferralEnd (tag : Tag)
  /-- BUDDY_WAIT_END (R50): the last count of the buddy wait. -/
  | buddyWaitEnd
  /-- RETURN_RETRY_DELAY_END (R53): the last count of the retry delay. -/
  | returnRetryDelayEnd
  /-- MIRROR_RESTART_WAIT_END (R58): the last count of RESTART WAIT. -/
  | mirrorRestartWaitEnd
  /-- RETURN_WALK_VISIT (R54). -/
  | returnWalkVisit
  /-- RETURN_WALK_STANDBY_VISIT (R55). -/
  | returnWalkStandbyVisit
  /-- MIRROR_WALK_STEP (R59). -/
  | mirrorWalkStep
  /-- FORWARD_REOFFER (R90). -/
  | forwardReoffer
  /-- CHARACTER_RECEIVED (R63): value, mark bit, parity bit as received (not looked at with parity
  NONE), and whether the stop bit was at the mark level. -/
  | characterReceived (line : LineNo) (value : Byte) (mark parityBit stopBit : Bool)
  /-- BREAK (R67). -/
  | lineBreak (line : LineNo)
  /-- MARK_SELECT (R70): the assembler takes a mark character 0x00 to 0x0F. -/
  | markSelect (line : LineNo)
  /-- MARK_ABANDON (R70): the assembler takes a mark character 0x80 to 0x8F. -/
  | markAbandon (line : LineNo)
  /-- ORPHAN_MARK (R70): the assembler takes a mark character of any other value. -/
  | orphanMark (line : LineNo)
  /-- DATA_CHARACTER (R72): the assembler takes a data character other than the terminator. -/
  | dataCharacter (line : LineNo)
  /-- TERMINATOR (R73): the assembler meets a terminator. -/
  | terminator (line : LineNo)
  /-- REPLY_TRANSMIT_START (R75). -/
  | replyTransmitStart (line : LineNo)
  /-- REPLY_SENT (R75). -/
  | replySent (line : LineNo)
  /-- HELD_REPLY_OFFER (R101). -/
  | heldReplyOffer (line : LineNo)
  /-- SUBMIT (R94). -/
  | submit (requester : Requester) (sub : Nat) (priority : Priority) (body : List Byte)
  /-- CANCEL (R117). -/
  | cancel (requester : Requester) (station : Station) (serial : Serial)
  /-- QUERY (R95). -/
  | query (requester : Requester) (station : Station) (serial : Serial)
  /-- ENROL (R7). -/
  | enrol (requester : Requester) (sub : Nat) (addr : PagerAddr) (pagerClass : PagerClass)
      (tariff plan : Fin 8) (zones : ZoneSet) (quota threshold : Option (BitVec 32))
  /-- AMEND (R11). -/
  | amend (requester : Requester) (sub : Nat) (groups : List Group)
  /-- SUSPEND (R9). -/
  | suspend (requester : Requester) (sub : Nat)
  /-- RESUME (R9). -/
  | resume (requester : Requester) (sub : Nat)
  /-- WITHDRAW (R184). -/
  | withdraw (requester : Requester) (sub : Nat)
  /-- METER_READ (R97). -/
  | meterRead (requester : Requester) (sub : Nat)
  /-- PERIOD_CLOSE (R176): brought by a call context of a line, since it is local to the
  station. -/
  | periodClose (line : LineNo) (ctx : CtxNo)
  /-- STATUS (R99): brought by a call context of a line, since it is local to the
  station. -/
  | status (line : LineNo) (ctx : CtxNo)
  /-- STATUS_CLEAR (R99): brought by a call context of a line, since it is local to the
  station. -/
  | statusClear (line : LineNo) (ctx : CtxNo)
  /-- REPORT_RECEIVED (R146). -/
  | reportReceived (addr : PagerAddr) (tag : Tag)
  /-- REPORT_FULL (R148). -/
  | reportFull (addr : PagerAddr) (tag : Tag)
  /-- REPORT_READY (R149). -/
  | reportReady (addr : PagerAddr)
  /-- REPORT_REGISTER (R150). -/
  | reportRegister (addr : PagerAddr) (zone : Zone)
  /-- BAD_REPORT (R140): with the bytes taken as a report. -/
  | badReport (bytes : List Byte)
  /-- REPORT_GAP (R202): with the bytes received before the gap. -/
  | reportGap (bytes : List Byte)
  /-- SLOT_START (R136): with the slot of the frame in progress. -/
  | slotStart (slot : Fin 32)
  /-- PAGE_COMPLETION (R134): the page of one message. -/
  | pageCompletion (serial : Serial)
  /-- DRAIN_VISIT (R180). -/
  | drainVisit
  /-- BILLING_BLOCK_START (R186): with the level of the accept input. -/
  | billingBlockStart (accept : Bool)
  /-- BILLING_BLOCK_SENT (R185). -/
  | billingBlockSent
  /-- SUPPLY_BELOW_VALID_LEVEL (R188). -/
  | supplyBelowValidLevel
  /-- SUPPLY_VALID (R188): with the strap pins as they read when HELD ends. -/
  | supplyValid (straps : BitVec 4)
deriving DecidableEq, Repr

end Sys2Proof
end

