-- ==== Sys2Proof/Decode.lean ====
section
/-!
DEFINITION. The commands that a word spells. No row of the command table gives bits, so no word spells a
command (log 1).
-/

namespace Sys2Proof

/-- The command of a word, numbered as the table numbers bits: none for every word. -/
def decodeTableWord (_nbits _w : Nat) : Option Instr := none

end Sys2Proof
end

