-- ==== Sys2Proof/Config.lean ====
section
/-!
DEFINITION. What every Galcip 412 has fixed: the capacities, limits and delays its rules give. The
settings that differ from office to office are the configuration image, which is state (R191). The
manual leaves no value of the machine undefined, so there is no free value here.
-/

namespace Sys2Proof.Config

/-- Records of the active table (R4), and entries of the standby table (R13). -/
def tableCap : Nat := 1024
/-- Message entries (R103). -/
def entryCap : Nat := 512
/-- Blocks of the body pool (R104). -/
def blockCap : Nat := 1024
/-- Characters of a body block (R104). -/
def blockChars : Nat := 40
/-- Entries of the outcome list (R119). -/
def outcomeCap : Nat := 64
/-- Notes of the outbox (R24). -/
def outboxCap : Nat := 32
/-- Serials remembered of each peer, and notes in flight to one addressee (R25, R29). -/
def takeMemoryCap : Nat := 16
/-- Sends of a note before it fails (R26). -/
def sendLimit : Nat := 8
/-- Takes of one round frame (R31). -/
def takesPerFrame : Nat := 8
/-- Notes of one round frame (R25). -/
def notesPerFrame : Nat := 4
/-- Bytes of a round frame, at most (R198). -/
def frameBytes : Nat := 472
/-- Claims of one station for one target frame (R125). -/
def claimCap : Nat := 8
/-- Slots of an air frame (R123). -/
def slotCount : Nat := 32
/-- Entries of the pending request table (R82). -/
def pendingCap : Nat := 16
/-- Entries of the route cache (R88). -/
def cacheCap : Nat := 8
/-- Characters of a receive FIFO (R64). -/
def fifoCap : Nat := 8
/-- Count of the receive FIFO at which the ready output falls (R65). -/
def fifoHigh : Nat := 6
/-- Count of the receive FIFO at which the ready output rises (R65). -/
def fifoLow : Nat := 2
/-- Replies of a reply queue (R74). -/
def replyCap : Nat := 8
/-- Characters of an assembly buffer (R71). -/
def bufferCap : Nat := 240
/-- Entries of the recent report list (R142). -/
def recentCap : Nat := 16
/-- Blocks of the billing queue (R185). -/
def billingCap : Nat := 4
/-- Entries of a billing block (R181). -/
def blockEntries : Nat := 16
/-- Deferrals of a request (R91). -/
def deferralCap : Nat := 4
/-- Round ends of a deferral (R91). -/
def deferralRounds : Nat := 4
/-- Round ends to the answer limit (R92). -/
def answerRounds : Nat := 12
/-- Round ends to the overall limit (R92). -/
def overallRounds : Nat := 24
/-- Round ends without a LIVE buddy before a RECLAIMING station enters LIVE (R50). -/
def buddyRounds : Nat := 8
/-- Round ends of the return walk's retry delay and of RESTART WAIT (R56, R60). -/
def retryRounds : Nat := 16
/-- Current and closed units hold at most this (R167). -/
def unitLimit : Nat := 2 ^ 40 - 1
/-- Carry units hold at most this (R182). -/
def carryLimit : Nat := 2 ^ 48 - 1
/-- Subscriber numbers lie below this (R1). -/
def subscriberLimit : Nat := 10000000
/-- Bytes of the configuration image (R204). -/
def imageBytes : Nat := 511

end Sys2Proof.Config
end

