-- ==== Sys2Proof/Machine/State.lean ====
section
/-!
DEFINITION. The state of the station as plain data, one structure for each of the eleven blocks of
00_scope.md ("Block diagram") and the queue of commands; its value right after reset; the reasons a step
can stop.
-/

namespace Sys2Proof.Machine

/-! ### Start-up Controller (chapter 11) -/

/-- Controller states (R188, R190). `second` tells the second read of the image. -/
inductive Phase where
  | held
  | reading (second : Bool)
  | closed
  | refused
deriving DecidableEq, Repr

/-- Role of a line (R62). -/
inductive Role where
  | caller | operator
deriving DecidableEq, Repr

/-- Parity of a line (R62). -/
inductive Parity where
  | none | even | odd
deriving DecidableEq, Repr

/-- Settings of a line; the speed is in bits per second (R62). -/
structure LineSettings where
  role : Role
  parity : Parity
  speed : Nat
deriving DecidableEq, Repr

/-- A used entry of the range table (R191). -/
structure Range where
  low : Nat
  high : Nat
  home : Station
deriving DecidableEq, Repr

/-- A tariff class (R162). -/
structure Tariff where
  base : Nat
  perSegment : Nat
  fee : Nat
deriving DecidableEq, Repr

/-- Zone selector of a step (R151). -/
inductive Selector where
  | all | home | last
  | explicit (zones : ZoneSet)
deriving DecidableEq, Repr

/-- A step of a plan (R151); `ends` is the exit END. -/
structure Step where
  selector : Selector
  repeats : Nat
  gap : Nat
  ends : Bool
deriving DecidableEq, Repr

/-- A retry plan (R151). -/
structure Plan where
  steps : List Step
  rounds : Nat
  roundGap : Nat
  hold : Nat
deriving DecidableEq, Repr

/-- The configuration image (R191). -/
structure Image where
  office : BitVec 16
  roster : StationSet
  ranges : List Range
  lines : Vector LineSettings 4
  tariffs : Vector Tariff 8
  validUrgent : Nat
  validNormal : Nat
  plans : Vector Plan 8
  silence : Nat
  quorum : Nat
  width : Nat
  notice : List Byte
  billingSpeed : Nat
  check : BitVec 16
deriving DecidableEq, Repr

/-- What the station does at the configuration port, in time order: the level of select, and a byte on data
out (R190, R204). -/
inductive PortAct where
  | select (level : Bool)
  | send (byte : Byte)
deriving DecidableEq, Repr

/-- `port` holds what the port has been given since power-on or the reset line. -/
structure Startup where
  phase : Phase
  resetAsserted : Bool
  supplyValid : Bool
  station : Station
  image : Option Image
  port : List PortAct
deriving DecidableEq, Repr

/-! ### Intake Unit (chapter 4) -/

/-- An entry of a receive FIFO (R64). -/
structure FifoEntry where
  value : Byte
  mark : Bool
  lossFollows : Bool
deriving DecidableEq, Repr

/-- The refusal word of a DAMAGED context (R71). -/
inductive Damage where
  | damaged | tooLong
deriving DecidableEq, Repr

/-- Context states (R71); the refusal word is present only in DAMAGED. -/
inductive CtxState where
  | idle | collecting
  | damaged (word : Damage)
  | awaiting
deriving DecidableEq, Repr

/-- A call context (R71). -/
structure Context where
  state : CtxState
  buffer : List Byte
  gen : BitVec 8
deriving DecidableEq, Repr

/-- A reply of a reply queue (R74). -/
structure LineReply where
  ctx : CtxNo
  gen : BitVec 8
  text : List Byte
deriving DecidableEq, Repr

/-- A character on a line's wire: value, mark bit, and the parity bit of a line with parity EVEN or ODD
(R62). -/
structure LineChar where
  value : Byte
  mark : Bool
  parity : Option Bool
deriving DecidableEq, Repr

/-- One intake line. `sending` is what the transmitter sends for the oldest reply (R75). -/
structure Line where
  fifo : List FifoEntry
  ready : Bool
  current : Option CtxNo
  ctxs : Vector Context 16
  replies : List LineReply
  sending : Option (List LineChar)
  overrun : Count
  parityFraming : Count
  damagedEntries : Count
  orphans : Count
deriving DecidableEq, Repr

structure Intake where
  lines : Vector Line 4
  waiting : List LineNo
deriving DecidableEq, Repr

/-! ### Request Unit (chapter 5) -/

/-- Route of a request (R82, R86, R87). -/
inductive Route where
  | home (h : Station)
  | receipt (k : Station)
  | here
deriving DecidableEq, Repr

/-- Result of an execution (R90). -/
inductive Result where
  | reply (text : List Byte)
  | notYet
  | moved (m : Station)
deriving DecidableEq, Repr

/-- States of a pending entry (R82). -/
inductive PendState where
  | localHere
  | sending
  | awaiting
  | deferred
  | holding (text : List Byte)
deriving DecidableEq, Repr

/-- An entry of the pending request table (R82). `request` is absent where the parse refused it. -/
structure PendEntry where
  line : LineNo
  ctx : CtxNo
  gen : BitVec 8
  role : Role
  text : List Byte
  request : Option Request
  tag : Tag
  route : Route
  target : Option Station
  state : PendState
  deferrals : Nat
  rounds : Nat
  wait : Nat
deriving DecidableEq, Repr

/-- `pend` is kept in the order of the hand-offs; `holdOrder` in the order of entering HOLDING REPLY. -/
structure Requests where
  pend : List PendEntry
  holdOrder : List Tag
  tagCounter : Tag
  cache : List (Nat × Station)
deriving DecidableEq, Repr

/-! ### Subscriber Table (chapter 1) -/

/-- Service states (R1). -/
inductive Service where
  | active | suspended | barred
deriving DecidableEq, Repr

/-- Origin of a record (R1). -/
inductive Origin where
  | home | adopted
deriving DecidableEq, Repr

/-- The administrative fields that a standby copy and a mirror note carry (R1, R13, R200). -/
structure Admin where
  sub : Nat
  addr : PagerAddr
  pagerClass : PagerClass
  tariff : Fin 8
  plan : Fin 8
  zones : ZoneSet
  service : Service
  quota : Option (BitVec 32)
  threshold : Option (BitVec 32)
deriving DecidableEq, Repr

/-- The meter fields of a record (R161). -/
structure MeterFields where
  current : Nat
  closed : Nat
  carry : Nat
  reserved : Nat
  period : Period
  limit : Bool
  sent : Bool
  owed : Bool
deriving DecidableEq, Repr

/-- A record of the active table (R1, R2). -/
structure Record where
  admin : Admin
  origin : Origin
  home : Station
  returning : Bool
  nextTag : Tag
  queue : List Serial
  lastZone : Option Zone
  meter : MeterFields
deriving DecidableEq, Repr

/-- Marks of a standby record, at most one of them set (R13). -/
inductive StandbyMark where
  | plain | unadopted | returned
deriving DecidableEq, Repr

/-- A standby record (R13). -/
structure StandbyRec where
  admin : Admin
  nextTag : Tag
  mark : StandbyMark
deriving DecidableEq, Repr

/-- Holder of the walk grant (R18). -/
inductive Grant where
  | nobody | drain | ret
deriving DecidableEq, Repr

/-- The drain walk (R17, R179); the position is absent before the first visit. -/
inductive DrainWalk where
  | idle
  | running (pos : Option Nat)
deriving DecidableEq, Repr

/-- Phases of a RUNNING return walk (section 3.5). -/
inductive ReturnPhase where
  | adopted | revisit | standby | ending
deriving DecidableEq, Repr

/-- The return walk (R17). -/
inductive ReturnWalk where
  | idle
  | waiting
  | running (phase : ReturnPhase) (pos : Option Nat)
deriving DecidableEq, Repr

/-- The mirror walk (R17, R59): `first` while its next note carries refresh start, `ended` once
MIRROR END has been handed. -/
inductive MirrorWalk where
  | idle
  | running (pos : Option Nat) (first ended : Bool)
  | restartWait (left : Nat)
deriving DecidableEq, Repr

/-- Both tables are kept in ascending subscriber number. -/
structure Subscribers where
  active : List Record
  standby : List StandbyRec
  standbyComplete : Bool
  grant : Grant
  drain : DrainWalk
  ret : ReturnWalk
  mirror : MirrorWalk
deriving DecidableEq, Repr

/-! ### Message Store (chapter 6) -/

/-- Origin of a message (R103). -/
inductive MsgOrigin where
  | caller | notice
deriving DecidableEq, Repr

/-- Delivery states (R110). -/
inductive MsgState where
  | waiting | ready | claimed | loaded | awaitAck | paused | held
deriving DecidableEq, Repr

/-- Outcomes (R110, R119). -/
inductive Outcome where
  | delivered | unconfirmed | expired | cancelled
deriving DecidableEq, Repr

/-- Pending outcomes of a committed message (R118). -/
inductive PendingOutcome where
  | cancel | delivered
deriving DecidableEq, Repr

/-- The ladder context (R153). -/
structure Ladder where
  step : Nat
  inner : Nat
  outer : Nat
  wait : Nat
deriving DecidableEq, Repr

/-- A message entry (R103); `blocks` are the characters of the body blocks it holds (R104). -/
structure Message where
  serial : Serial
  sub : Nat
  priority : Priority
  origin : MsgOrigin
  blocks : List (List Byte)
  tag : Option Tag
  state : MsgState
  target : Option FrameNo
  ladder : Option Ladder
  expiry : FrameNo
  reserved : Nat
  transmissions : Nat
  pending : Option PendingOutcome
deriving DecidableEq, Repr

/-- `messages` are the entries that are not free; `frame` is the starting frame number last taken. -/
structure Store where
  messages : List Message
  serial : Serial
  urgent : List Serial
  normal : List Serial
  outcomes : List (Serial × Outcome)
  frame : FrameNo
deriving DecidableEq, Repr

/-! ### Airtime Unit (chapter 7) -/

/-- A claim (R125); a peer's claim and an empty claim hold no message. -/
structure Claim where
  target : FrameNo
  urgent : Bool
  slots : Nat
  number : Nat
  message : Option Serial
deriving DecidableEq, Repr

/-- The holder of a slot (R130). -/
structure SlotOwner where
  station : Station
  number : Nat
  urgent : Bool
deriving DecidableEq, Repr

/-- The slot map of one frame (R130). -/
structure SlotMap where
  frame : FrameNo
  slots : List (Option SlotOwner)
deriving DecidableEq, Repr

/-- A page of the slot buffer (R132). -/
structure Page where
  message : Serial
  target : FrameNo
  number : Nat
  first : Nat
  slots : Nat
  addr : PagerAddr
  tag : Tag
  zones : ZoneSet
  body : List Byte
  committed : Bool
  sent : Nat
deriving DecidableEq, Repr

/-- A slot that is driven: its number and its bytes (R136). -/
structure DrivenSlot where
  slot : Fin 32
  bytes : List Byte
deriving DecidableEq, Repr

/-- `feed` is the slot under way; it is absent while the air feed is undriven. -/
structure Airtime where
  frame : FrameNo
  begun : Bool
  claims : List Claim
  peerClaims : Vector (List Claim) 16
  maps : List SlotMap
  buffer : List Page
  abstain : List FrameNo
  feed : Option DrivenSlot
  claimsLost : Count
  forfeits : Count
  framesAbstained : Count
deriving DecidableEq, Repr

/-! ### Return Unit (chapter 8) -/

/-- The content of a return report (R140, R142). -/
inductive Report where
  | received (addr : PagerAddr) (tag : Tag)
  | full (addr : PagerAddr) (tag : Tag)
  | ready (addr : PagerAddr)
  | register (addr : PagerAddr) (zone : Zone)
deriving DecidableEq, Repr

/-- An entry of the recent report list (R142). -/
structure RecentReport where
  report : Report
  frame : FrameNo
deriving DecidableEq, Repr

structure Returns where
  recent : List RecentReport
  badChecks : Count
  suppressed : Count
  foreign : Count
  stale : Count
  late : Count
deriving DecidableEq, Repr

/-! ### Meter Unit (chapter 9) -/

/-- The five unit totals (R172). -/
structure Meters where
  charged : Total
  billed : Total
  unmetered : Total
  returnedIn : Total
  returnedOut : Total
deriving DecidableEq, Repr

/-! ### Billing Unit (chapter 10) -/

/-- An entry of the block under formation (R180). -/
structure FormEntry where
  sub : Nat
  total : Nat
  adopted : Bool
  final : Bool
deriving DecidableEq, Repr

/-- An entry of a formed block (R183). -/
structure BlockEntry where
  sub : Nat
  field : BitVec 16
  limited : Bool
  adopted : Bool
  final : Bool
deriving DecidableEq, Repr

/-- A billing block with its header (R183). -/
structure Block where
  station : Station
  period : Period
  number : BitVec 16
  scale : Nat
  entries : List BlockEntry
deriving DecidableEq, Repr

/-- Pause of the drain walk for queue room: after a full block, or at the walk's end (R181). -/
inductive Pause where
  | none | full | last
deriving DecidableEq, Repr

structure Billing where
  period : Period
  pendingClose : Option Period
  peers : Vector (Option (Period × Bool)) 16
  forming : List FormEntry
  pause : Pause
  counter : BitVec 16
  counted : Option Period
  queue : List Block
  sending : Option (List Byte)
  blocksSent : Count
  entriesLimited : Count
deriving DecidableEq, Repr

/-! ### Custody Unit (chapter 3) -/

/-- The station state while it is in the office (R48); also the sender state of a frame. -/
inductive Member where
  | joining | reclaiming | live
deriving DecidableEq, Repr

/-- Views of the office map (R37). -/
inductive View where
  | joining | reclaiming | live | silent | failed | foreign
deriving DecidableEq, Repr

/-- An entry of the office map (R37). View, silent count and silence list of the station's own entry
are not used: its view is the station state. -/
structure MapEntry where
  station : Station
  view : View
  silent : BitVec 8
  custodian : Option Station
  silence : StationSet
deriving DecidableEq, Repr

/-- Progress of a declaration (R44, R45). -/
inductive Declaration where
  | none | pending | declaring
deriving DecidableEq, Repr

/-- Progress of the JOINING rounds (R49). -/
inductive JoinPhase where
  | before
  | running (frame : FrameNo)
  | complete (frame : FrameNo)
deriving DecidableEq, Repr

/-- What was heard of a peer in the JOINING rounds (R49): whether a LIVE and a JOINING frame, and the
numbers of the latest VALID frame. -/
structure JoinHeard where
  station : Station
  sawLive : Bool
  sawJoining : Bool
  frame : FrameNo
  period : Period
deriving DecidableEq, Repr

structure Custody where
  state : Member
  map : List MapEntry
  custody : StationSet
  declaration : Declaration
  join : JoinPhase
  heard : List JoinHeard
  buddyWait : Nat
  returnTaken : Bool
  returnEndTaken : Bool
  retryDelay : Option Nat
deriving DecidableEq, Repr

/-! ### Bus Unit (chapter 2) -/

/-- Content of a note (section 2.3, R200). A FORWARD carries the entry text. -/
inductive NoteBody where
  | forward (tag : Tag) (text : List Byte)
  | answer (tag : Tag) (result : Result)
  | ret (admin : Admin) (nextTag : Tag) (lastZone : Option Zone) (meter : MeterFields)
  | retEnd
  | mirror (refresh : Bool) (admin : Admin) (nextTag : Tag)
  | mirrorRemove (sub : Nat)
  | mirrorEnd (refresh : Bool)
deriving DecidableEq, Repr

/-- The walk a note belongs to (R24). -/
inductive NoteWalk where
  | none | ret | mirror
deriving DecidableEq, Repr

/-- A note of the outbox (R24). `awaiting` tells AWAITING TAKE from DUE. `stale` is set on a FORWARD
AWAITING TAKE whose custodian changed, or whose receipt station was viewed FAILED, since it was sent
(R26, R32). -/
structure Note where
  dest : Station
  body : NoteBody
  serial : Option NoteSerial
  awaiting : Bool
  sends : Nat
  route : Route
  held : Bool
  stale : Bool
  walk : NoteWalk
deriving DecidableEq, Repr

/-- The round position while rounds run (R19, R20); `left` are the stations whose windows of this round are
still to come, in ascending number. -/
structure RoundPos where
  frame : FrameNo
  index : Fin 4
  left : List Station
deriving DecidableEq, Repr

/-- `mark` is the number of the air frame begun by the latest office mark that the Bus Unit has taken (R20,
R194). -/
structure Bus where
  mark : FrameNo
  round : Option RoundPos
  noted : Bool
  outbox : List Note
  counters : Vector NoteSerial 16
  memory : Vector (List NoteSerial) 16
  takes : List (Station × NoteSerial)
  lastSender : Vector (Option Member) 16
  frameOut : List Byte
  damaged : Count
  foreign : Count
  resent : Count
  failed : Count
  lateAnswers : Count
deriving DecidableEq, Repr

/-! ### The station and its queue of commands -/

/-- Everything the spec gives the station. -/
structure Stn where
  ctl : Startup
  intake : Intake
  req : Requests
  subs : Subscribers
  store : Store
  air : Airtime
  ret : Returns
  meter : Meters
  bill : Billing
  bus : Bus
  cust : Custody
deriving DecidableEq, Repr

structure State where
  stn : Stn
  pending : List Instr
deriving DecidableEq, Repr

/-- No step of this block ends in a fault: the spec names no condition that stops the station. -/
inductive Fault where
deriving DecidableEq, Repr

/-- Why a step is refused. -/
inductive Refusal where
  /-- Raised by exec alone, for a command that has no meaning yet. Safe: nothing is claimed of it. -/
  | notModelled (mnemonic : String)
deriving DecidableEq, Repr

/-! ### Reset (R188) -/

/-- A call context after reset (R71). -/
def Context.reset : Context := { state := .idle, buffer := [], gen := 0 }

/-- A line after reset: receiver idle, ready output deasserted (R62, R65, R188). -/
def Line.reset : Line :=
  { fifo := [], ready := false, current := none, ctxs := Vector.replicate 16 Context.reset,
    replies := [], sending := none, overrun := 0, parityFraming := 0, damagedEntries := 0,
    orphans := 0 }

/-- The station after power-on or assertion of the reset line, with the reset line still asserted and
the supply valid (R188; DESIGN CHOICE, log 2, for the two levels and the station number). -/
def Stn.reset : Stn :=
  { ctl := { phase := .held, resetAsserted := true, supplyValid := true, station := 0, image := none,
             port := [] },
    intake := { lines := Vector.replicate 4 Line.reset, waiting := [] },
    req := { pend := [], holdOrder := [], tagCounter := 0, cache := [] },
    subs := { active := [], standby := [], standbyComplete := false, grant := .nobody,
              drain := .idle, ret := .idle, mirror := .idle },
    store := { messages := [], serial := 0, urgent := [], normal := [], outcomes := [], frame := 0 },
    air := { frame := 0, begun := false, claims := [], peerClaims := Vector.replicate 16 [],
             maps := [], buffer := [], abstain := [], feed := none, claimsLost := 0, forfeits := 0,
             framesAbstained := 0 },
    ret := { recent := [], badChecks := 0, suppressed := 0, foreign := 0, stale := 0, late := 0 },
    meter := { charged := 0, billed := 0, unmetered := 0, returnedIn := 0, returnedOut := 0 },
    bill := { period := 0, pendingClose := none, peers := Vector.replicate 16 none, forming := [],
              pause := .none, counter := 0, counted := none, queue := [], sending := none,
              blocksSent := 0, entriesLimited := 0 },
    bus := { mark := 0, round := none, noted := false, outbox := [], counters := Vector.replicate 16 0,
             memory := Vector.replicate 16 [], takes := [], lastSender := Vector.replicate 16 none,
             frameOut := [], damaged := 0, foreign := 0, resent := 0, failed := 0, lateAnswers := 0 },
    cust := { state := .joining, map := [], custody := 0, declaration := .none, join := .before,
              heard := [], buddyWait := 0, returnTaken := false, returnEndTaken := false,
              retryDelay := none } }

/-- The machine right after reset, with no command waiting. -/
def State.reset : State := { stn := Stn.reset, pending := [] }

end Sys2Proof.Machine
end

