-- ==== Sys2Proof/Machine/Flags.lean ====
section
/-!
DEFINITION. Counts, marks and wrapping comparisons: the saturating counts, station sets, and the
"later than" of frames and periods.
-/

namespace Sys2Proof.Machine

/-- A 16-bit count goes up by one and holds 65535 (R36, R79, R139, R160, R187). -/
def satInc (c : Count) : Count := if c = 65535#16 then c else c + 1

/-- Station k is in the set (R197). -/
def inSet (m : StationSet) (k : Station) : Bool := m.getLsbD k.val

/-- The set with station k. -/
def setAdd (m : StationSet) (k : Station) : StationSet := m ||| (1#16 <<< k.val)

/-- The set without station k. -/
def setDel (m : StationSet) (k : Station) : StationSet := m &&& ~~~(1#16 <<< k.val)

/-- The stations of a set in ascending number. -/
def members (m : StationSet) : List Station := (List.finRange 16).filter (inSet m)

/-- Period (or 16-bit number) a is later than b: a − b modulo 65536 is 1 to 32767 (R168, R174). -/
def later (a b : BitVec 16) : Bool := decide (1 ≤ (a - b).toNat ∧ (a - b).toNat ≤ 32767)

/-- Frame f is e or a later frame (R113, R115). -/
def reached (f e : FrameNo) : Bool := decide ((f - e).toNat < 32768)

/-- Units as they enter a 48-bit total (R172). -/
def units (n : Nat) : Total := BitVec.ofNat 48 n

/-- An addition to a field that holds at most `cap` (R167, R182): the new value and the excess. -/
def addCapped (cap a b : Nat) : Nat × Nat := if a + b ≤ cap then (a + b, 0) else (cap, a + b - cap)

/-- A change made to the elements of a list that meet a test. -/
def updWhere {α : Type} (p : α → Bool) (f : α → α) (l : List α) : List α :=
  l.map fun x => if p x then f x else x

/-- The first of the values c, c + 1, … that is not in use, looking at `fuel` of them (R83, R105). -/
def firstFree {w : Nat} : Nat → BitVec w → List (BitVec w) → BitVec w
  | 0, c, _ => c
  | fuel + 1, c, used => if used.contains c then firstFree fuel (c + 1) used else c

end Sys2Proof.Machine
end

