-- ==== Sys2Proof/Machine/Ops.lean ====
section
/-!
DEFINITION. The named operations over the station's registers: the image, the office map, the tables,
the messages, the pending entries, the outbox with the FORWARD notes that wait for a place, and the hand of
a mirror note.
-/

namespace Sys2Proof.Machine

/-! ### Image and roster -/

/-- An image with nothing in it, read by no rule before the close. -/
def Image.blank : Image :=
  { office := 0, roster := 0, ranges := [], lines := Vector.replicate 4 ⟨.caller, .none, 9600⟩,
    tariffs := Vector.replicate 8 ⟨0, 0, 0⟩, validUrgent := 1, validNormal := 1,
    plans := Vector.replicate 8 ⟨[], 1, 0, 1⟩, silence := 2, quorum := 1, width := 0, notice := [],
    billingSpeed := 9600, check := 0 }

/-- The configuration image every block reads (R193, R195). -/
def Stn.img (s : Stn) : Image := s.ctl.image.getD Image.blank

/-- This station's number (R189). -/
def Stn.self (s : Stn) : Station := s.ctl.station

/-- The roster in ascending station number (R19). -/
def Stn.roster (s : Stn) : List Station := members s.img.roster

/-- The next roster station after k in ascending number, cyclically: k's buddy (R16). -/
def buddyOf (roster : StationSet) (k : Station) : Station :=
  (((List.finRange 16).map fun i => k + 1 + i).find? (inSet roster)).getD k

/-- The roster station before k, cyclically: k's ward (R16). -/
def wardOf (roster : StationSet) (k : Station) : Station :=
  (((List.finRange 16).map fun i => k - 1 - i).find? (inSet roster)).getD k

/-- This station's buddy (R16). -/
def Stn.buddy (s : Stn) : Station := buddyOf s.img.roster s.self

/-- This station's ward (R16). -/
def Stn.ward (s : Stn) : Station := wardOf s.img.roster s.self

/-- The settings of a line: the image's, or speed 9600 and parity NONE while OFFLINE (R62). -/
def Stn.lineSettings (s : Stn) (l : LineNo) : LineSettings :=
  if s.ctl.phase = .closed then s.img.lines.get l else ⟨.caller, .none, 9600⟩

/-- The home station whose range holds a subscriber number (R86). -/
def Stn.homeOf (s : Stn) (sub : Nat) : Option Station :=
  (s.img.ranges.find? fun r => decide (r.low ≤ sub ∧ sub ≤ r.high)).map (·.home)

/-! ### Office map -/

/-- The view that goes with a station state (R37). -/
def Member.view : Member → View
  | .joining => .joining
  | .reclaiming => .reclaiming
  | .live => .live

/-- The map entry of station k. -/
def Stn.entry? (s : Stn) (k : Station) : Option MapEntry :=
  s.cust.map.find? fun e => decide (e.station = k)

/-- The view of station k; the own entry's view is the station state (R37). A station outside the
roster has no entry and counts as FAILED. -/
def Stn.view (s : Stn) (k : Station) : View :=
  if k = s.self then s.cust.state.view else ((s.entry? k).map (·.view)).getD .failed

/-- custodian[k] (R37); none is NONE. -/
def Stn.custodian (s : Stn) (k : Station) : Option Station := (s.entry? k).bind (·.custodian)

/-- A change to station k's entry. -/
def Stn.updEntry (s : Stn) (k : Station) (f : MapEntry → MapEntry) : Stn :=
  { s with cust.map := updWhere (fun e => decide (e.station = k)) f s.cust.map }

/-- The view is JOINING, RECLAIMING or LIVE. -/
def View.heard : View → Bool
  | .joining | .reclaiming | .live => true
  | _ => false

/-- The view is SILENT or FAILED. -/
def View.down : View → Bool
  | .silent | .failed => true
  | _ => false

/-- The silence list of this station's frames (R37). -/
def Stn.silenceList (s : Stn) : StationSet :=
  (s.roster.filter fun k => decide (k ≠ s.self) && (s.view k).down).foldl setAdd 0

/-- The service alarm output (R61, R188): asserted unless the station is in the office with every
custodian known. -/
def Stn.alarm (s : Stn) : Bool :=
  match s.ctl.phase with
  | .closed => s.cust.map.any fun e => decide (e.custodian = none)
  | _ => true

/-- The configuration port's select is asserted while the image is read (R190). -/
def Stn.configSelect (s : Stn) : Bool :=
  match s.ctl.phase with
  | .reading _ => true
  | _ => false

/-! ### Tables -/

/-- The active record of a subscriber number (R4). -/
def Stn.rec? (s : Stn) (sub : Nat) : Option Record :=
  s.subs.active.find? fun r => decide (r.admin.sub = sub)

/-- The active record of a pager address (R6). -/
def Stn.recAt? (s : Stn) (addr : PagerAddr) : Option Record :=
  s.subs.active.find? fun r => decide (r.admin.addr = addr)

/-- The standby record of a subscriber number (R13). -/
def Stn.standby? (s : Stn) (sub : Nat) : Option StandbyRec :=
  s.subs.standby.find? fun r => decide (r.admin.sub = sub)

/-- A change to a subscriber's active record. -/
def Stn.updRec (s : Stn) (sub : Nat) (f : Record → Record) : Stn :=
  { s with subs.active := updWhere (fun r => decide (r.admin.sub = sub)) f s.subs.active }

/-- A change to a subscriber's standby record. -/
def Stn.updStandby (s : Stn) (sub : Nat) (f : StandbyRec → StandbyRec) : Stn :=
  { s with subs.standby := updWhere (fun r => decide (r.admin.sub = sub)) f s.subs.standby }

/-- Insertion in ascending key. -/
def insertBy {α : Type} (key : α → Nat) (x : α) : List α → List α
  | [] => [x]
  | y :: ys => if key x ≤ key y then x :: y :: ys else y :: insertBy key x ys

/-- A record enters the active table. -/
def Stn.insertRec (s : Stn) (r : Record) : Stn :=
  { s with subs.active := insertBy (·.admin.sub) r s.subs.active }

/-- A record leaves the active table, and its pager-address index entry with it (R8). -/
def Stn.removeRec (s : Stn) (sub : Nat) : Stn :=
  { s with subs.active := s.subs.active.filter fun r => decide (r.admin.sub ≠ sub) }

/-- The next record of a walk: the lowest number above the position that meets the selection (R17). -/
def nextAbove {α : Type} (key : α → Nat) (sel : α → Bool) (pos : Option Nat) (l : List α) : Option α :=
  l.find? fun x => sel x && (match pos with
    | none => true
    | some p => decide (p < key x))

/-- The meter fields of a new record (R3). -/
def MeterFields.zero (p : Period) : MeterFields :=
  { current := 0, closed := 0, carry := 0, reserved := 0, period := p, limit := false, sent := false,
    owed := false }

/-- The units U of a record: current plus closed plus carry (R54, R171). -/
def MeterFields.total (m : MeterFields) : Nat := m.current + m.closed + m.carry

/-! ### Messages -/

/-- The message that holds a receipt serial. -/
def Stn.msg? (s : Stn) (serial : Serial) : Option Message :=
  s.store.messages.find? fun m => decide (m.serial = serial)

/-- A change to a message. -/
def Stn.updMsg (s : Stn) (serial : Serial) (f : Message → Message) : Stn :=
  { s with store.messages := updWhere (fun m => decide (m.serial = serial)) f s.store.messages }

/-- Blocks of the body pool that are free (R104). -/
def Stn.freeBlocks (s : Stn) : Nat :=
  Config.blockCap - (s.store.messages.map (·.blocks.length)).sum

/-- Message entries that are free (R103). -/
def Stn.freeEntries (s : Stn) : Nat := Config.entryCap - s.store.messages.length

/-- The plan a record follows (R151). -/
def Stn.planOf (s : Stn) (r : Record) : Plan := s.img.plans.get r.admin.plan

/-- The tariff class a record is charged by (R162). -/
def Stn.tariffOf (s : Stn) (r : Record) : Tariff := s.img.tariffs.get r.admin.tariff

/-! ### Outbox -/

/-- A place of the outbox is free (R24). -/
def Stn.outboxFree (s : Stn) : Bool := decide (s.bus.outbox.length < Config.outboxCap)

/-- A note as it enters the outbox: DUE, serial absent, send count 0 (R24). -/
def Note.fresh (dest : Station) (body : NoteBody) (route : Route) (walk : NoteWalk) : Note :=
  { dest := dest, body := body, serial := none, awaiting := false, sends := 0, route := route,
    held := false, stale := false, walk := walk }

/-- A note enters the outbox behind every older note. -/
def Stn.pushNote (s : Stn) (n : Note) : Stn := { s with bus.outbox := s.bus.outbox ++ [n] }

/-- MIRROR, MIRROR REMOVE and MIRROR END. -/
def NoteBody.isMirror : NoteBody → Bool
  | .mirror .. | .mirrorRemove _ | .mirrorEnd _ => true
  | _ => false

/-- RETURN and RETURN END. -/
def NoteBody.isReturn : NoteBody → Bool
  | .ret .. | .retEnd => true
  | _ => false

/-- FORWARD. -/
def NoteBody.isForward : NoteBody → Bool
  | .forward .. => true
  | _ => false

/-! ### Pending entries and their FORWARD notes -/

/-- The live entry that holds a request tag (R83). -/
def Stn.pend? (s : Stn) (tag : Tag) : Option PendEntry :=
  s.req.pend.find? fun e => decide (e.tag = tag)

/-- A change to an entry. -/
def Stn.updPend (s : Stn) (tag : Tag) (f : PendEntry → PendEntry) : Stn :=
  { s with req.pend := updWhere (fun e => decide (e.tag = tag)) f s.req.pend }

/-- The FORWARD of an entry is in the outbox. -/
def isForwardOf (tag : Tag) (n : Note) : Bool :=
  match n.body with
  | .forward t _ => decide (t = tag)
  | _ => false

/-- The FORWARD of an entry is in the outbox. -/
def Stn.hasForward (s : Stn) (tag : Tag) : Bool := s.bus.outbox.any (isForwardOf tag)

/-- An entry in SENDING with no note (R90). -/
def Stn.waitsForPlace (s : Stn) (e : PendEntry) : Bool :=
  decide (e.state = .sending) && !s.hasForward e.tag

/-- An entry waits in SENDING for an outbox place, which goes to it first (R24). -/
def Stn.forwardWaits (s : Stn) : Bool := s.req.pend.any s.waitsForPlace

/-- An entry that waits in SENDING with no note offers its FORWARD, which enters a free place; held under a
SILENT or FOREIGN view (R24, R33, R90). The spec does not say how a home-routed FORWARD enters whose cached
addressee is viewed FAILED: it enters DUE and unheld (DESIGN CHOICE, log 17). No receipt-routed entry waits
for a station viewed FAILED: the change of view has finished it (`Stn.loseReceipts`). -/
def Stn.offerOne (s : Stn) (e : PendEntry) : Stn :=
  match e.target with
  | some m =>
    if s.waitsForPlace e && s.outboxFree then
      let n := Note.fresh m (.forward e.tag e.text) e.route .none
      s.pushNote { n with held := decide (s.view m = .silent ∨ s.view m = .foreign) }
    else s
  | none => s

/-- The entries that wait in SENDING offer their FORWARDs in the order of their hand-offs (R24, R90). -/
def Stn.offerWaiting (s : Stn) : Stn := s.req.pend.foldl Stn.offerOne s

/-- The outbox places freed since `before` go to the entries that wait in SENDING (R24). -/
def Stn.givePlaces (s before : Stn) : Stn :=
  if s.bus.outbox.length < before.bus.outbox.length then s.offerWaiting else s

/-- When the entries that wait in SENDING are given the places that an event frees (R24). -/
inductive Places where
  /-- Any event but the one below: as soon as the place is free. -/
  | atOnce
  /-- The handling of a VALID frame (R23): when that handling ends. -/
  | atEnd
deriving DecidableEq, Repr

/-- The outbox places freed since `before`, inside an event whose places go as `w` says (R24). -/
def Stn.givePlacesAt (w : Places) (s before : Stn) : Stn :=
  match w with
  | .atOnce => s.givePlaces before
  | .atEnd => s

/-! ### Notes of administrative changes -/

/-- The mirror walk enters RESTART WAIT; a RUNNING walk is aborted first and its notes removed
(R27, R60). -/
def Stn.mirrorToRestart (s : Stn) : Stn :=
  match s.subs.mirror with
  | .running .. =>
    { s with bus.outbox := s.bus.outbox.filter (fun n => !n.body.isMirror),
             subs.mirror := .restartWait Config.retryRounds }
  | _ => { s with subs.mirror := .restartWait Config.retryRounds }

/-- An administrative change hands its note to the buddy (R12, R24). -/
def Stn.handChange (s : Stn) (body : NoteBody) : Stn :=
  if (s.view s.buddy).down then s
  else if s.outboxFree then s.pushNote (Note.fresh s.buddy body .here .none)
  else s.mirrorToRestart

/-- The MIRROR note of a HOME record's change; an ADOPTED record sends none (R12). -/
def Stn.handMirror (s : Stn) (sub : Nat) : Stn :=
  match s.rec? sub with
  | some r =>
    match r.origin with
    | .home => s.handChange (.mirror false r.admin r.nextTag)
    | .adopted => s
  | none => s

end Sys2Proof.Machine
end

