-- ==== Sys2Proof/Machine/Store.lean ====
section
/-!
DEFINITION. The Message Store's entries, queues and ready lists (R103 to R109), and the acceptance of
a message or a notice (R106, R107).
-/

namespace Sys2Proof.Machine

/-- A body cut into blocks of 40 characters, the last one shorter (R104); `fuel` bounds the blocks. -/
def cutBlocks : Nat → List Byte → List (List Byte)
  | 0, _ => []
  | _ + 1, [] => []
  | fuel + 1, b :: bs =>
    (b :: bs).take Config.blockChars :: cutBlocks fuel ((b :: bs).drop Config.blockChars)

/-- The body blocks of a message (R104). -/
def blocksOf (body : List Byte) : List (List Byte) := cutBlocks body.length body

/-- ceil(body length ÷ 40): blocks of a body, slots of its page (R104). -/
def segments (body : List Byte) : Nat :=
  (body.length + (Config.blockChars - 1)) / Config.blockChars

/-- The store has room for a body (R106). -/
def Stn.hasRoom (s : Stn) (body : List Byte) : Bool :=
  decide (1 ≤ s.freeEntries ∧ segments body ≤ s.freeBlocks)

/-- The serials in use: of messages present and of the outcome list (R105). -/
def Stn.serialsUsed (s : Stn) : List Serial :=
  s.store.messages.map (·.serial) ++ s.store.outcomes.map (·.1)

/-- The serial the next acceptance takes (R105). -/
def Stn.nextSerial (s : Stn) : Serial :=
  firstFree (Config.entryCap + Config.outcomeCap + 1) s.store.serial s.serialsUsed

/-- A serial joins the tail of the ready list of a priority (R109). -/
def Stn.joinReady (s : Stn) (p : Priority) (serial : Serial) : Stn :=
  match p with
  | .urgent => { s with store.urgent := s.store.urgent ++ [serial] }
  | .normal => { s with store.normal := s.store.normal ++ [serial] }

/-- A serial leaves the ready lists (R109). -/
def Stn.leaveReady (s : Stn) (serial : Serial) : Stn :=
  { s with store.urgent := s.store.urgent.filter (· ≠ serial),
           store.normal := s.store.normal.filter (· ≠ serial) }

/-- A message becomes READY at the tail of its list (R109). -/
def Stn.makeReady (s : Stn) (serial : Serial) : Stn :=
  match s.msg? serial with
  | some m => (s.updMsg serial fun m => { m with state := .ready, target := none }).joinReady m.priority serial
  | none => s

/-- The message is URGENT. -/
def Stn.isUrgent (s : Stn) (serial : Serial) : Bool :=
  match s.msg? serial with
  | some m => decide (m.priority = .urgent)
  | none => false

/-- A message placed in its subscriber's queue at acceptance (R108). -/
def Stn.placeInQueue (s : Stn) (sub : Nat) (p : Priority) (serial : Serial) : Stn :=
  match s.rec? sub with
  | none => s
  | some r =>
    match r.queue with
    | [] => (s.updRec sub fun r => { r with queue := [serial] }).makeReady serial
    | head :: rest =>
      match p, s.msg? head with
      | .normal, _ => s.updRec sub fun r => { r with queue := head :: rest ++ [serial] }
      | .urgent, some h =>
        if h.priority = .normal ∧ h.tag = none then
          (((s.updRec sub fun r => { r with queue := serial :: head :: rest }).leaveReady head).updMsg
            head fun m => { m with state := .waiting }).makeReady serial
        else
          s.updRec sub fun r =>
            { r with queue := head :: (rest.takeWhile s.isUrgent ++ serial :: rest.dropWhile s.isUrgent) }
      | .urgent, none => s.updRec sub fun r => { r with queue := head :: rest ++ [serial] }

/-- Validity of a priority (R103). -/
def Stn.validity (s : Stn) : Priority → Nat
  | .urgent => s.img.validUrgent
  | .normal => s.img.validNormal

/-- The store takes a message: entry, blocks, serial, fields, place in the queue (R106 steps 1 and 2). -/
def Stn.acceptMessage (s : Stn) (sub : Nat) (p : Priority) (origin : MsgOrigin) (body : List Byte)
    (reserved : Nat) : Stn :=
  let serial := s.nextSerial
  let m : Message :=
    { serial := serial, sub := sub, priority := p, origin := origin, blocks := blocksOf body,
      tag := none, state := .waiting, target := none, ladder := none,
      expiry := s.air.frame + BitVec.ofNat 16 (s.validity p), reserved := reserved,
      transmissions := 0, pending := none }
  ({ s with store.messages := s.store.messages ++ [m], store.serial := serial + 1 }).placeInQueue sub p
    serial

/-- The creation of a notice; none when the store lacks an entry or a block (R107). -/
def Stn.createNotice (s : Stn) (sub : Nat) : Option Stn :=
  if s.hasRoom s.img.notice then some (s.acceptMessage sub .normal .notice s.img.notice 0) else none

end Sys2Proof.Machine
end

