-- ==== Sys2Proof/Machine/Meter.lean ====
section
/-!
DEFINITION. The Meter Unit (chapter 9): the quota test, roll, reservation, settlement and notices.
-/

namespace Sys2Proof.Machine

/-- The quota is satisfied (R9). -/
def Record.quotaMet (r : Record) : Bool :=
  match r.admin.quota with
  | none => true
  | some q => decide (r.meter.current + r.meter.reserved ≤ q.toNat)

/-- Full charge of a caller's message (R162). -/
def Tariff.fullCharge (t : Tariff) (segs : Nat) : Nat := t.base + t.perSegment * segs

/-- A change to the meter fields of a record. -/
def Stn.updMeter (s : Stn) (sub : Nat) (f : MeterFields → MeterFields) : Stn :=
  s.updRec sub fun r => { r with meter := f r.meter }

/-- Units are added to the unmetered total (R172). -/
def Stn.writeOff (s : Stn) (n : Nat) : Stn :=
  { s with meter.unmetered := s.meter.unmetered + units n }

/-- The service state of a record changes, with the MIRROR note of a HOME record (R9, R10). -/
def Stn.setService (s : Stn) (sub : Nat) (v : Service) : Stn :=
  (s.updRec sub fun r => { r with admin.service := v }).handMirror sub

/-- The meter fields after a roll into period p (R168 steps 1 to 4). -/
def MeterFields.rolled (m : MeterFields) (p : Period) : MeterFields :=
  let (closed, excess) := addCapped Config.unitLimit m.closed m.current
  { m with closed := closed, current := 0, period := p, sent := false, owed := false,
           limit := m.limit || decide (0 < excess) }

/-- Units a roll loses to the limit (R167). -/
def MeterFields.rollExcess (m : MeterFields) : Nat := (addCapped Config.unitLimit m.closed m.current).2

/-- The quota test after a roll: a BARRED record whose quota is met becomes ACTIVE (R10). -/
def Stn.rollTest (s : Stn) (sub : Nat) : Stn :=
  match s.rec? sub with
  | some r => if r.admin.service = .barred ∧ r.quotaMet = true then s.setService sub .active else s
  | none => s

/-- The roll of a record whose period is older than the station's (R168). -/
def Stn.roll (s : Stn) (sub : Nat) : Stn :=
  match s.rec? sub with
  | some r =>
    if later s.bill.period r.meter.period then
      ((s.updMeter sub fun m => m.rolled s.bill.period).writeOff r.meter.rollExcess).rollTest sub
    else s
  | none => s

/-- The notice test of R169. -/
def Record.callsNotice (r : Record) : Bool :=
  match r.admin.quota, r.admin.threshold with
  | some q, some t =>
    !r.meter.sent && decide (q.toNat ≤ r.meter.current + r.meter.reserved + t.toNat)
  | _, _ => false

/-- The offer of a notice to the store: created and marked sent, or owed (R169, R170). -/
def Stn.offerNotice (s : Stn) (sub : Nat) : Stn :=
  match s.createNotice sub with
  | some s' => s'.updMeter sub fun m => { m with sent := true, owed := false }
  | none => s.updMeter sub fun m => { m with owed := true }

/-- The notice test after a reservation or a settlement (R169). -/
def Stn.noticeTest (s : Stn) (sub : Nat) : Stn :=
  match s.rec? sub with
  | some r =>
    if r.callsNotice then
      if r.returning then s.updMeter sub fun m => { m with owed := true } else s.offerNotice sub
    else s
  | none => s

/-- The reservation of an accepted message (R164). -/
def Stn.reserve (s : Stn) (sub : Nat) (charge : Nat) : Stn :=
  (s.updMeter sub fun m => { m with reserved := m.reserved + charge }).noticeTest sub

/-- The actual charge of a settlement (R166). -/
def actualCharge (fee : Nat) (origin : MsgOrigin) (reserved : Nat) (o : Outcome) (transmissions : Nat) :
    Nat :=
  match origin with
  | .notice => 0
  | .caller =>
    match o with
    | .delivered | .unconfirmed => reserved
    | .expired | .cancelled => if 0 < transmissions then min fee reserved else 0

/-- Steps 2 and 3 of a settlement on the meter fields: release, then the charge under the limit of
R167. -/
def MeterFields.charged (m : MeterFields) (reserved a : Nat) : MeterFields :=
  let (current, excess) := addCapped Config.unitLimit m.current a
  { m with reserved := m.reserved - reserved, current := current,
           limit := m.limit || decide (0 < excess) }

/-- The settlement of a final outcome (R165). -/
def Stn.settle (s : Stn) (sub : Nat) (origin : MsgOrigin) (reserved : Nat) (o : Outcome)
    (transmissions : Nat) : Stn :=
  let s1 := s.roll sub
  match s1.rec? sub with
  | some r =>
    let a := actualCharge (s1.tariffOf r).fee origin reserved o transmissions
    let s2 := s1.updMeter sub fun m => m.charged reserved a
    let s3 := { s2 with meter.charged := s2.meter.charged + units a }
    (s3.writeOff (addCapped Config.unitLimit r.meter.current a).2).noticeTest sub
  | none => s1

/-- Results of the acceptance check (R163). -/
inductive Check where
  | admitted | suspended | barred | quota
deriving DecidableEq, Repr

/-- The acceptance check of a submission (R163). -/
def Record.check (r : Record) (charge : Nat) : Check :=
  match r.admin.service with
  | .suspended => .suspended
  | .barred => .barred
  | .active =>
    match r.admin.quota with
    | some q => if q.toNat < r.meter.current + r.meter.reserved + charge then .quota else .admitted
    | none => .admitted

/-- The owed notices of an air-frame start, in ascending subscriber number, until one is refused
(R170). -/
def Stn.offerOwed : List Nat → Stn → Stn
  | [], s => s
  | sub :: rest, s =>
    match s.createNotice sub with
    | some s' => Stn.offerOwed rest (s'.updMeter sub fun m => { m with sent := true, owed := false })
    | none => s

/-- The records whose notice is owed and not held back by the returning mark (R170). -/
def Stn.owedSubs (s : Stn) : List Nat :=
  (s.subs.active.filter fun r => r.meter.owed && !r.returning).map (·.admin.sub)

/-- OWED_NOTICE_OFFERS (R170). -/
def execOwedNoticeOffers (s : State) : Host.Outcome State Fault Refusal :=
  .next (if s.stn.ctl.phase = .closed then { s with stn := Stn.offerOwed s.stn.owedSubs s.stn } else s)

end Sys2Proof.Machine
end

