-- ==== Sys2Proof/Machine/Delivery.lean ====
section
/-!
DEFINITION. The delivery of a message: the retry ladder (R151 to R159), final outcomes (R114), waits and
holds (R155 to R157), expiry (R115, R116), cancellation (R117) and the completion of a page (R113, R134).
-/

namespace Sys2Proof.Machine

/-! ### The ladder -/

/-- A plan's step; a plan of a valid image has one wherever a ladder within the plan stands. -/
def Plan.stepAt (p : Plan) (n : Nat) : Step := (p.steps[n]?).getD ⟨.home, 1, 1, true⟩

/-- The step is the last of a round: its exit is END, or it is the plan's last (R151). -/
def Plan.lastOfRound (p : Plan) (n : Nat) : Bool :=
  (p.stepAt n).ends || decide (p.steps.length ≤ n + 1)

/-- The ladder context brought within the plan as it now stands (R152). -/
def Ladder.within (l : Ladder) (p : Plan) : Ladder :=
  let step := min l.step (p.steps.length - 1)
  { l with step := step, inner := min l.inner (p.stepAt step).repeats, outer := min l.outer p.rounds }

/-- The ladder at the first claim (R153). -/
def Plan.start (p : Plan) : Ladder :=
  { step := 0, inner := (p.stepAt 0).repeats, outer := p.rounds, wait := 0 }

/-- A round start (R153). -/
def Ladder.roundStart (l : Ladder) (p : Plan) : Ladder :=
  { l with step := 0, inner := (p.stepAt 0).repeats, wait := 0 }

/-- What the end of a wait leads to (R156, R159). -/
inductive WaitResult where
  | ready (l : Ladder)
  | roundGap (l : Ladder)
  | exhausted
deriving DecidableEq, Repr

/-- The end of a wait (R156). `inGap` tells a PAUSED message in its round gap; `register` tells a wait
cut short by a REGISTER, for which the round gap counts as 0 (R150). -/
def Ladder.endWait (l0 : Ladder) (p : Plan) (inGap register : Bool) : WaitResult :=
  let l := l0.within p
  if inGap then .ready (l.roundStart p)
  else if 1 < l.inner then .ready { l with inner := l.inner - 1, wait := 0 }
  else if !(p.stepAt l.step).ends && decide (l.step + 1 < p.steps.length) then
    .ready { l with step := l.step + 1, inner := (p.stepAt (l.step + 1)).repeats, wait := 0 }
  else if 1 < l.outer then
    if 0 < p.roundGap ∧ register = false then
      .roundGap { l with inner := 0, outer := l.outer - 1, wait := p.roundGap }
    else .ready ({ l with outer := l.outer - 1 }.roundStart p)
  else .exhausted

/-- The end of a hold (R157). -/
def Ladder.endHold (l0 : Ladder) (p : Plan) : Ladder :=
  let l := l0.within p
  if l.inner = 0 then l.roundStart p else { l with inner := (p.stepAt l.step).repeats, wait := 0 }

/-- This transmission is the last of the ladder (R154). -/
def Ladder.isLast (l : Ladder) (p : Plan) : Bool :=
  decide (l.inner ≤ 1) && p.lastOfRound l.step && decide (l.outer ≤ 1)

/-- The zone set of a page (R158). -/
def Selector.zones (sel : Selector) (r : Record) : ZoneSet :=
  match sel with
  | .all => 0xFF#8
  | .home => r.admin.zones
  | .last => match r.lastZone with
    | some z => 1#8 <<< z.val
    | none => r.admin.zones
  | .explicit z => z

/-! ### Commitment, claims and pages of a message -/

/-- A LOADED message is committed from the start of its target frame: the store has taken that start, or
the Airtime Unit has committed its page (R113, R133). -/
def Stn.committed (s : Stn) (m : Message) : Bool :=
  decide (m.state = .loaded) &&
    ((match m.target with
      | some t => reached s.store.frame t
      | none => false) ||
     s.air.buffer.any fun p => decide (p.message = m.serial) && p.committed)

/-- The claim of a message becomes empty (R125). -/
def Stn.emptyClaim (s : Stn) (serial : Serial) : Stn :=
  let claims := updWhere (fun c => decide (c.message = some serial))
    (fun c => { c with message := none }) s.air.claims
  { s with air.claims := claims }

/-- The page of a message leaves the slot buffer (R135). -/
def Stn.removePage (s : Stn) (serial : Serial) : Stn :=
  { s with air.buffer := s.air.buffer.filter fun p => decide (p.message ≠ serial) }

/-- A message leaves flight: its claim empties, its page is removed, or it leaves its ready list
(R114 step 1). -/
def Stn.leaveFlight (s : Stn) (m : Message) : Stn :=
  match m.state with
  | .claimed => s.emptyClaim m.serial
  | .loaded => s.removePage m.serial
  | .ready => s.leaveReady m.serial
  | _ => s

/-! ### Final outcomes -/

/-- The outcome list with a new entry; the oldest of 64 leaves (R119). -/
def addOutcome (l : List (Serial × Outcome)) (serial : Serial) (o : Outcome) : List (Serial × Outcome) :=
  (if Config.outcomeCap ≤ l.length then l.drop (l.length + 1 - Config.outcomeCap) else l) ++ [(serial, o)]

/-- A WAITING head becomes READY (R114 step 5). -/
def Stn.promoteHead (s : Stn) (sub : Nat) : Stn :=
  match (s.rec? sub).bind fun r => r.queue.head? with
  | some head =>
    match s.msg? head with
    | some m => if m.state = .waiting then s.makeReady head else s
    | none => s
  | none => s

/-- A message takes its final outcome, in the five steps of R114. -/
def Stn.finalOutcome (s : Stn) (serial : Serial) (o : Outcome) : Stn :=
  match s.msg? serial with
  | none => s
  | some m =>
    let s1 := s.leaveFlight m
    let s2 := s1.updRec m.sub fun r => { r with queue := r.queue.filter (· ≠ serial) }
    let s3 := { s2 with
      store.messages := s2.store.messages.filter (fun x => decide (x.serial ≠ serial)),
      store.outcomes := addOutcome s2.store.outcomes serial o }
    (s3.settle m.sub m.origin m.reserved o m.transmissions).promoteHead m.sub

/-! ### Waits and holds -/

/-- The record of a message. -/
def Stn.msgRec? (s : Stn) (serial : Serial) : Option (Message × Record) :=
  match s.msg? serial with
  | some m => (s.rec? m.sub).map fun r => (m, r)
  | none => none

/-- A message becomes READY with this ladder (R156, R157). -/
def Stn.readyWith (s : Stn) (serial : Serial) (l : Ladder) : Stn :=
  (s.updMsg serial fun m => { m with ladder := some l }).makeReady serial

/-- The end of an AWAIT_ACK or PAUSED wait (R156, R159). -/
def Stn.endWait (s : Stn) (serial : Serial) (register : Bool) : Stn :=
  match s.msgRec? serial with
  | none => s
  | some (m, r) =>
    match m.ladder with
    | none => s
    | some l =>
      match l.endWait (s.planOf r) (decide (m.state = .paused ∧ l.inner = 0)) register with
      | .ready l' => s.readyWith serial l'
      | .roundGap l' => s.updMsg serial fun m => { m with state := .paused, ladder := some l' }
      | .exhausted => s.finalOutcome serial (if m.state = .awaitAck then .expired else .unconfirmed)

/-- The end of a hold (R157). -/
def Stn.endHold (s : Stn) (serial : Serial) : Stn :=
  match s.msgRec? serial with
  | none => s
  | some (m, r) =>
    match m.ladder with
    | none => s
    | some l => s.readyWith serial (l.endHold (s.planOf r))

/-- The message waits or is held (R155). -/
def Message.counting (m : Message) : Bool :=
  decide (m.state = .awaitAck ∨ m.state = .paused ∨ m.state = .held)

/-- Frames left in a message's wait or hold. -/
def Message.waitLeft (m : Message) : Nat := (m.ladder.map (·.wait)).getD 0

/-- One wait or hold that ends by its count (R155). -/
def Stn.endCount (s : Stn) (serial : Serial) : Stn :=
  match s.msg? serial with
  | none => s
  | some m =>
    match m.state with
    | .awaitAck | .paused => s.endWait serial false
    | .held => s.endHold serial
    | _ => s

/-- Every wait and hold is counted down by one frame (R155). -/
def Stn.countDown (s : Stn) : Stn :=
  let messages := updWhere Message.counting
    (fun m => { m with ladder := m.ladder.map fun l => { l with wait := l.wait - 1 } })
    s.store.messages
  { s with store.messages := messages }

/-- The messages whose wait or hold has run out (R155). -/
def Stn.runOut (s : Stn) : List Serial :=
  (s.store.messages.filter fun m => m.counting && decide (m.waitLeft = 0)).map (·.serial)

/-- The order in which the waits of one start are taken: as given first, the others in store order. -/
def takenOrder (given due : List Serial) : List Serial :=
  given.dedup.filter (due.contains ·) ++ due.filter (!given.contains ·)

/-! ### Expiry and cancel -/

/-- The expiry of one message whose turn in the test of air frame F comes (R116). -/
def Stn.expire (s : Stn) (f : FrameNo) (serial : Serial) : Stn :=
  match s.msg? serial with
  | none => s
  | some m =>
    if reached f m.expiry then
      match m.state with
      | .awaitAck => s
      | .loaded => if s.committed m then s else s.finalOutcome serial .expired
      | _ => s.finalOutcome serial .expired
    else s

/-- The messages in the order of the expiry test: subscribers ascending, queues from the head (R115). -/
def Stn.testOrder (s : Stn) : List Serial := s.subs.active.flatMap (·.queue)

/-- The store's work at an air-frame start (R113, R115). The messages tested for expiry are those stored when the
test begins: a limit notice that a settlement creates during the test (R114) is first tested at the next start. R115
does not say which it is, and the notice can be due already where the validity is 1 frame (DESIGN CHOICE, log 8). -/
def Stn.airFrameStart (s : Stn) (f : FrameNo) (order : List Serial) : Stn :=
  let s1 := { s with store.frame := f }.countDown
  let s2 := (takenOrder order s1.runOut).foldl Stn.endCount s1
  s2.testOrder.foldl (fun s m => s.expire f m) s2

/-- Decisions of a cancel (R117). -/
inductive CancelResult where
  | cancelled
  | tooLate (o : Outcome)
  | absent
deriving DecidableEq, Repr

/-- The outcome held in the outcome list for a serial (R119). -/
def Stn.outcome? (s : Stn) (serial : Serial) : Option Outcome :=
  (s.store.outcomes.find? fun e => decide (e.1 = serial)).map (·.2)

/-- A cancel at the store: its effect and its decision (R117). -/
def Stn.cancel (s : Stn) (serial : Serial) : Stn × CancelResult :=
  match s.msg? serial with
  | some m =>
    if s.committed m then
      match m.pending with
      | none => (s.updMsg serial fun m => { m with pending := some .cancel }, .cancelled)
      | some .cancel => (s, .cancelled)
      | some .delivered => (s, .tooLate .delivered)
    else (s.finalOutcome serial .cancelled, .cancelled)
  | none =>
    match s.outcome? serial with
    | some o => (s, .tooLate o)
    | none => (s, .absent)

/-! ### Page completion -/

/-- The ladder at a page completion without a pending outcome (R154). -/
def Stn.advance (s : Stn) (serial : Serial) : Stn :=
  match s.msgRec? serial with
  | none => s
  | some (m, r) =>
    match m.ladder with
    | none => s
    | some l0 =>
      let p := s.planOf r
      let l := l0.within p
      let l' := { l with wait := (p.stepAt l.step).gap }
      if r.admin.pagerClass = .twoWay then
        s.updMsg serial fun m => { m with state := .awaitAck, ladder := some l' }
      else if l.isLast p then s.finalOutcome serial .unconfirmed
      else s.updMsg serial fun m => { m with state := .paused, ladder := some l' }

/-- The completion of a page at the store (R113). The page has left the slot buffer. -/
def Stn.complete (s : Stn) (serial : Serial) : Stn :=
  match s.msg? serial with
  | none => s
  | some m =>
    let s1 := s.updMsg serial fun m => { m with transmissions := m.transmissions + 1, target := none }
    match m.pending with
    | some .cancel => s1.finalOutcome serial .cancelled
    | some .delivered => s1.finalOutcome serial .delivered
    | none => s1.advance serial

/-- A page completes: it leaves the slot buffer and the store takes the completion (R134). -/
def Stn.completePage (s : Stn) (serial : Serial) : Stn := (s.removePage serial).complete serial

/-- The last slot of a page's run ends: the air feed is released where that slot is the one driven (R123,
R136). -/
def Stn.endRun (s : Stn) (p : Page) : Stn :=
  { s with air.feed := s.air.feed.filter fun x => decide (x.slot.val + 1 ≠ p.first + p.slots) }

/-! ### The commands -/

/-- AIR_FRAME_START (R115). -/
def execAirFrameStart (f : FrameNo) (order : List Serial) (s : State) : Host.Outcome State Fault Refusal :=
  .next (if s.stn.ctl.phase = .closed then
      { s with stn := (s.stn.airFrameStart f order).givePlaces s.stn }
    else s)

/-- WAIT_END (R155, R156): the last count of a message's wait. A wait with more than one frame left has
not run out. -/
def execWaitEnd (serial : Serial) (s : State) : Host.Outcome State Fault Refusal :=
  .next (match s.stn.msg? serial with
    | some m =>
      if (m.state = .awaitAck ∨ m.state = .paused) ∧ m.waitLeft ≤ 1 then
        { s with stn := (s.stn.endWait serial false).givePlaces s.stn }
      else s
    | none => s)

/-- HOLD_END (R155, R157): the last count of a message's hold. -/
def execHoldEnd (serial : Serial) (s : State) : Host.Outcome State Fault Refusal :=
  .next (match s.stn.msg? serial with
    | some m =>
      if m.state = .held ∧ m.waitLeft ≤ 1 then { s with stn := s.stn.endHold serial } else s
    | none => s)

/-- MESSAGE_EXPIRY (R116): the expiry test of one message at the air-frame start last taken by the
store. -/
def execMessageExpiry (serial : Serial) (s : State) : Host.Outcome State Fault Refusal :=
  .next { s with stn := (s.stn.expire s.stn.store.frame serial).givePlaces s.stn }

/-- PAGE_COMPLETION (R134): the page's slots have been sent, or its frame is over. -/
def execPageCompletion (serial : Serial) (s : State) : Host.Outcome State Fault Refusal :=
  .next (match s.stn.air.buffer.find? fun p => decide (p.message = serial) with
    | some p =>
      if p.committed ∧ (p.slots ≤ p.sent ∨ p.target ≠ s.stn.air.frame) then
        { s with stn := ((s.stn.endRun p).completePage serial).givePlaces s.stn }
      else s
    | none => s)

end Sys2Proof.Machine
end

