-- ==== Sys2Proof/Machine/Operands.lean ====
section
/-!
DEFINITION. The operand forms of the commands that come as text: the forms of entries and their parse
(R83 to R85), the entry text of a request, and the texts of the replies (R94 to R99, R205).
-/

namespace Sys2Proof.Machine

/-! ### Characters and numbers -/

/-- The characters of a text. -/
def str (x : String) : List Byte := x.toList.map fun c => BitVec.ofNat 8 c.toNat

/-- The field separator `/`. -/
def slash : Byte := 0x2F#8

/-- A printable character (R72). -/
def printable (b : Byte) : Bool := decide (0x20 ≤ b.toNat ∧ b.toNat ≤ 0x7E)

/-- The value of a decimal digit. -/
def decDigit? (b : Byte) : Option Nat :=
  if 0x30 ≤ b.toNat ∧ b.toNat ≤ 0x39 then some (b.toNat - 0x30) else none

/-- The value of a hexadecimal digit, in either case (R84). -/
def hexDigit? (b : Byte) : Option Nat :=
  if 0x30 ≤ b.toNat ∧ b.toNat ≤ 0x39 then some (b.toNat - 0x30)
  else if 0x41 ≤ b.toNat ∧ b.toNat ≤ 0x46 then some (b.toNat - 0x41 + 10)
  else if 0x61 ≤ b.toNat ∧ b.toNat ≤ 0x66 then some (b.toNat - 0x61 + 10)
  else none

/-- The value of decimal digits read after `acc`. -/
def decFrom : Nat → List Byte → Option Nat
  | acc, [] => some acc
  | acc, b :: bs =>
    match decDigit? b with
    | some d => decFrom (10 * acc + d) bs
    | none => none

/-- The value of `lo` to `hi` decimal digits, at most `cap`. -/
def decField? (lo hi cap : Nat) (bs : List Byte) : Option Nat :=
  if lo ≤ bs.length ∧ bs.length ≤ hi then
    match decFrom 0 bs with
    | some n => if n ≤ cap then some n else none
    | none => none
  else none

/-- The character of a decimal digit. -/
def decChar (d : Nat) : Byte := BitVec.ofNat 8 (0x30 + d)

/-- The character of a hexadecimal digit, upper case. -/
def hexChar (d : Nat) : Byte := if d < 10 then BitVec.ofNat 8 (0x30 + d) else BitVec.ofNat 8 (0x37 + d)

/-- Decimal digits of a number in a fixed width, with leading zeros. -/
def decPad : Nat → Nat → List Byte
  | 0, _ => []
  | w + 1, n => decChar (n / 10 ^ w % 10) :: decPad w n

/-- Digits of a number without leading zeros, lowest first; `fuel` bounds their count. -/
def decRev : Nat → Nat → List Byte
  | 0, _ => []
  | fuel + 1, n => decChar (n % 10) :: (if n < 10 then [] else decRev fuel (n / 10))

/-- A number in decimal without leading zeros (R205). -/
def dec (n : Nat) : List Byte := (decRev 20 n).reverse

/-- A receipt `h-nnnnn` (R205). -/
def receiptText (k : Station) (serial : Serial) : List Byte :=
  hexChar k.val :: 0x2D#8 :: decPad 5 serial.toNat

/-- Fields joined by `/`. -/
def joinFields : List (List Byte) → List Byte
  | [] => []
  | [f] => f
  | f :: fs => f ++ slash :: joinFields fs

/-- The fields of a text between its separators. -/
def splitFields : List Byte → List (List Byte)
  | [] => [[]]
  | b :: bs =>
    if b = slash then [] :: splitFields bs
    else
      match splitFields bs with
      | f :: fs => (b :: f) :: fs
      | [] => [[b]]

/-! ### Refusal words and replies -/

/-- The words of `X/` replies (section 5.4, "Refusal words"). -/
inductive Word where
  | badSyntax | notPermitted | badBody | unknownSubscriber | noService | unknownReceipt | suspended
  | barred | quota | storeFull | existing | tableFull | subscriberBusy | drainBusy | billingBusy
  | officeBusy | retry | damaged | tooLong | offline
deriving DecidableEq, Repr

def Word.text : Word → List Byte
  | .badSyntax => str "SYNTAX"
  | .notPermitted => str "NOT PERMITTED"
  | .badBody => str "BAD BODY"
  | .unknownSubscriber => str "UNKNOWN SUBSCRIBER"
  | .noService => str "NO SERVICE"
  | .unknownReceipt => str "UNKNOWN RECEIPT"
  | .suspended => str "SUSPENDED"
  | .barred => str "BARRED"
  | .quota => str "QUOTA"
  | .storeFull => str "STORE FULL"
  | .existing => str "EXISTS"
  | .tableFull => str "TABLE FULL"
  | .subscriberBusy => str "SUBSCRIBER BUSY"
  | .drainBusy => str "DRAIN BUSY"
  | .billingBusy => str "BILLING BUSY"
  | .officeBusy => str "OFFICE BUSY"
  | .retry => str "RETRY"
  | .damaged => str "DAMAGED"
  | .tooLong => str "TOO LONG"
  | .offline => str "OFFLINE"

/-- The reply `X/`word. -/
def refusal (w : Word) : List Byte := str "X/" ++ w.text

/-- The reply `O`. -/
def replyO : List Byte := str "O"

/-- The reply `K/`receipt (R94). -/
def replyK (k : Station) (serial : Serial) : List Byte := str "K/" ++ receiptText k serial

def Outcome.text : Outcome → List Byte
  | .delivered => str "DELIVERED"
  | .unconfirmed => str "UNCONFIRMED"
  | .expired => str "EXPIRED"
  | .cancelled => str "CANCELLED"

/-- The word of a message's state (R95). -/
def MsgState.text : MsgState → List Byte
  | .waiting | .ready => str "QUEUED"
  | .claimed | .loaded => str "IN AIR"
  | .awaitAck | .paused => str "AWAITING"
  | .held => str "HELD"

/-- The reply `D/`receipt`/`word (R95). -/
def replyD (k : Station) (serial : Serial) (word : List Byte) : List Byte :=
  str "D/" ++ receiptText k serial ++ slash :: word

/-- The reply `X/TOO LATE/`word (R95). -/
def replyTooLate (o : Outcome) : List Byte := str "X/TOO LATE/" ++ o.text

/-- `1` or `0`. -/
def bitText (b : Bool) : List Byte := if b then str "1" else str "0"

/-- A quota field, `-` when absent. -/
def quotaText : Option (BitVec 32) → List Byte
  | some q => dec q.toNat
  | none => str "-"

/-- The reply `V/` of a meter read (R97, R205). -/
def replyV (quota : Option (BitVec 32)) (m : MeterFields) : List Byte :=
  str "V/" ++ joinFields [dec m.current, dec m.reserved, quotaText quota, dec m.carry,
    dec m.period.toNat, bitText m.limit]

def Member.text : Member → List Byte
  | .joining => str "JOINING"
  | .reclaiming => str "RECLAIMING"
  | .live => str "LIVE"

def View.text : View → List Byte
  | .joining => str "JOINING"
  | .reclaiming => str "RECLAIMING"
  | .live => str "LIVE"
  | .silent => str "SILENT"
  | .failed => str "FAILED"
  | .foreign => str "FOREIGN"

/-! ### The forms of fields (R84, R85) -/

/-- A subscriber number: exactly 7 decimal digits. -/
def subField? (bs : List Byte) : Option Nat := decField? 7 7 9999999 bs

def priorityField? (bs : List Byte) : Option Priority :=
  if bs = str "U" then some .urgent else if bs = str "N" then some .normal else none

def classField? (bs : List Byte) : Option PagerClass :=
  if bs = str "N" then some .numeric
  else if bs = str "A" then some .alpha
  else if bs = str "T" then some .twoWay
  else none

/-- A tariff or a plan: one decimal digit 0 to 7. -/
def eighthField? (bs : List Byte) : Option (Fin 8) :=
  (decField? 1 1 7 bs).map (Fin.ofNat 8)

/-- A zone set: exactly 2 hexadecimal digits, not 00. -/
def zonesField? : List Byte → Option ZoneSet
  | [a, b] =>
    match hexDigit? a, hexDigit? b with
    | some x, some y => if 16 * x + y = 0 then none else some (BitVec.ofNat 8 (16 * x + y))
    | _, _ => none
  | _ => none

/-- A quota or threshold: 1 to 10 decimal digits, or `-`. -/
def limitField? (bs : List Byte) : Option (Option (BitVec 32)) :=
  if bs = str "-" then some none
  else (decField? 1 10 4294967295 bs).map fun n => some (BitVec.ofNat 32 n)

def addrField? (bs : List Byte) : Option PagerAddr :=
  (decField? 1 7 2097151 bs).map (BitVec.ofNat 21)

/-- A receipt: one hexadecimal digit, `-`, exactly 5 decimal digits. -/
def receiptField? : List Byte → Option (Station × Serial)
  | h :: d :: ds =>
    if d = 0x2D#8 then
      match hexDigit? h, decField? 5 5 65535 ds with
      | some k, some n => some (Fin.ofNat 16 k, BitVec.ofNat 16 n)
      | _, _ => none
    else none
  | _ => none

/-- A group of an amend (R85). -/
def groupField? : List Byte → Option Group
  | k :: e :: v =>
    if e = 0x3D#8 then
      if k = 0x54#8 then (eighthField? v).map .tariff
      else if k = 0x50#8 then (eighthField? v).map .plan
      else if k = 0x5A#8 then (zonesField? v).map .zones
      else if k = 0x4B#8 then (classField? v).map .pagerClass
      else if k = 0x4C#8 then (limitField? v).map .quota
      else if k = 0x4E#8 then (limitField? v).map .threshold
      else if k = 0x58#8 then if v = str "1" then some .clearLimit else none
      else none
    else none
  | _ => none

/-- All groups, or none when one breaks its form. -/
def groupFields? : List (List Byte) → Option (List Group)
  | [] => some []
  | f :: fs =>
    match groupField? f, groupFields? fs with
    | some g, some gs => some (g :: gs)
    | _, _ => none

/-! ### Parse (R83) -/

/-- Request kinds by their letter. -/
inductive Kind where
  | submit | cancel | query | enrol | amend | suspend | resume | withdraw | meterRead | periodClose
  | status
deriving DecidableEq, Repr

/-- The kind of an entry's first letter (chapter 5, table of request kinds). -/
def kindOf (b : Byte) : Option Kind :=
  if b = 0x53#8 then some .submit
  else if b = 0x43#8 then some .cancel
  else if b = 0x51#8 then some .query
  else if b = 0x45#8 then some .enrol
  else if b = 0x41#8 then some .amend
  else if b = 0x55#8 then some .suspend
  else if b = 0x52#8 then some .resume
  else if b = 0x57#8 then some .withdraw
  else if b = 0x4D#8 then some .meterRead
  else if b = 0x50#8 then some .periodClose
  else if b = 0x54#8 then some .status
  else none

/-- A caller's line may send submit, cancel and query alone (R83). -/
def Kind.permitted (k : Kind) (role : Role) : Bool :=
  match role with
  | .operator => true
  | .caller => match k with
    | .submit | .cancel | .query => true
    | _ => false

/-- The kind of a request. -/
def requestKind : Request → Kind
  | .submit .. => .submit
  | .cancel .. => .cancel
  | .query .. => .query
  | .enrol .. => .enrol
  | .amend .. => .amend
  | .suspend _ => .suspend
  | .resume _ => .resume
  | .withdraw _ => .withdraw
  | .meterRead _ => .meterRead
  | .periodClose => .periodClose
  | .status _ => .status

/-- A submit's fields, from the characters behind `S/`: the body is everything after the third
separator (R84). -/
def parseSubmit (rest : List Byte) : Except Word Request :=
  match rest.span (· ≠ slash) with
  | (subText, _ :: rest2) =>
    match rest2.span (· ≠ slash) with
    | (prioText, _ :: body) =>
      match subField? subText, priorityField? prioText with
      | some sub, some p =>
        if 1 ≤ body.length ∧ body.length ≤ 200 then .ok (.submit sub p body) else .error .badBody
      | _, _ => .error .badSyntax
    | _ => .error .badSyntax
  | _ => .error .badSyntax

/-- The refusal of a form that does not hold. -/
def orSyntax {α : Type} : Option α → Except Word α
  | some x => .ok x
  | none => .error .badSyntax

/-- An enrol's eight fields (R84). -/
def parseEnrol : List (List Byte) → Option Request
  | [s, a, k, t, p, z, q, n] =>
    match subField? s, addrField? a, classField? k, eighthField? t, eighthField? p, zonesField? z,
      limitField? q, limitField? n with
    | some sub, some addr, some cls, some tariff, some plan, some zones, some quota, some threshold =>
      some (.enrol sub addr cls tariff plan zones quota threshold)
    | _, _, _, _, _, _, _, _ => none
  | _ => none

/-- An amend's subscriber and its 1 to 8 groups (R85). -/
def parseAmend : List (List Byte) → Option Request
  | s :: groups =>
    if 1 ≤ groups.length ∧ groups.length ≤ 8 then
      match subField? s, groupFields? groups with
      | some sub, some gs => some (.amend sub gs)
      | _, _ => none
    else none
  | [] => none

/-- A request whose one field is a subscriber number. -/
def parseSub (make : Nat → Request) : List (List Byte) → Option Request
  | [s] => (subField? s).map make
  | _ => none

/-- A request whose one field is a receipt. -/
def parseReceipt (make : Station → Serial → Request) : List (List Byte) → Option Request
  | [f] => (receiptField? f).map fun r => make r.1 r.2
  | _ => none

/-- The fields of an entry of a kind; `rest` is absent when the entry ends after its letter (R84). -/
def parseFields (k : Kind) (rest : Option (List Byte)) : Except Word Request :=
  match k, rest with
  | .periodClose, none => .ok .periodClose
  | .status, none => .ok (.status false)
  | .status, some r => if r = str "C" then .ok (.status true) else .error .badSyntax
  | .submit, some r => parseSubmit r
  | .cancel, some r => orSyntax (parseReceipt .cancel (splitFields r))
  | .query, some r => orSyntax (parseReceipt .query (splitFields r))
  | .enrol, some r => orSyntax (parseEnrol (splitFields r))
  | .amend, some r => orSyntax (parseAmend (splitFields r))
  | .suspend, some r => orSyntax (parseSub .suspend (splitFields r))
  | .resume, some r => orSyntax (parseSub .resume (splitFields r))
  | .withdraw, some r => orSyntax (parseSub .withdraw (splitFields r))
  | .meterRead, some r => orSyntax (parseSub .meterRead (splitFields r))
  | _, _ => .error .badSyntax

/-- The parse of an entry on a line of a role: kind, permission, fields (R83). -/
def parseEntry (role : Role) (text : List Byte) : Except Word Request :=
  match text with
  | [] => .error .badSyntax
  | b :: bs =>
    match kindOf b with
    | none => .error .badSyntax
    | some k =>
      match bs with
      | [] =>
        if k = .periodClose ∨ k = .status then
          if k.permitted role then parseFields k none else .error .notPermitted
        else .error .badSyntax
      | c :: cs =>
        if c = slash then
          if k.permitted role then parseFields k (some cs) else .error .notPermitted
        else .error .badSyntax

/-! ### The entry text of a request (R84, R85) -/

def priorityText : Priority → List Byte
  | .urgent => str "U"
  | .normal => str "N"

def classText : PagerClass → List Byte
  | .numeric => str "N"
  | .alpha => str "A"
  | .twoWay => str "T"

/-- Two hexadecimal digits of a zone set. -/
def zonesText (z : ZoneSet) : List Byte := [hexChar (z.toNat / 16), hexChar (z.toNat % 16)]

def groupText : Group → List Byte
  | .tariff t => str "T=" ++ dec t.val
  | .plan p => str "P=" ++ dec p.val
  | .zones z => str "Z=" ++ zonesText z
  | .pagerClass k => str "K=" ++ classText k
  | .quota q => str "L=" ++ quotaText q
  | .threshold n => str "N=" ++ quotaText n
  | .clearLimit => str "X=1"

/-- The entry that reads as a request. -/
def requestText : Request → List Byte
  | .submit sub p body => str "S/" ++ decPad 7 sub ++ slash :: priorityText p ++ slash :: body
  | .cancel k n => str "C/" ++ receiptText k n
  | .query k n => str "Q/" ++ receiptText k n
  | .enrol sub addr cls t p z q n =>
    str "E/" ++ joinFields [decPad 7 sub, dec addr.toNat, classText cls, dec t.val, dec p.val,
      zonesText z, quotaText q, quotaText n]
  | .amend sub groups => str "A/" ++ joinFields (decPad 7 sub :: groups.map groupText)
  | .suspend sub => str "U/" ++ decPad 7 sub
  | .resume sub => str "R/" ++ decPad 7 sub
  | .withdraw sub => str "W/" ++ decPad 7 sub
  | .meterRead sub => str "M/" ++ decPad 7 sub
  | .periodClose => str "P"
  | .status false => str "T"
  | .status true => str "T/C"

end Sys2Proof.Machine
end

