-- ==== Sys2Proof/Machine/Formats.lean ====
section
/-!
DEFINITION. The byte layouts of chapter 12: the check computation, round frames and notes, page slots and
idle fill, return reports, billing blocks and the configuration image.
-/

namespace Sys2Proof.Machine

/-! ### Bytes and the check (R197, R198) -/

/-- A number in k bytes, high byte first (R197). -/
def be : Nat → Nat → List Byte
  | 0, _ => []
  | k + 1, n => BitVec.ofNat 8 (n / 256 ^ k) :: be k n

/-- The number that bytes give, high byte first. -/
def ofBytes (bs : List Byte) : Nat := bs.foldl (fun n b => 256 * n + b.toNat) 0

/-- One bit through the check register (R198). -/
def checkBit (r : Nat) (bit : Bool) : Nat :=
  if Nat.beq (r / 32768 % 2) (cond bit 1 0) then 2 * r % 65536 else Nat.xor (2 * r % 65536) 0x8005

/-- One byte through the check register, most significant bit first (R198). -/
def checkByte (r : Nat) (b : Byte) : Nat :=
  [7, 6, 5, 4, 3, 2, 1, 0].foldl (fun r i => checkBit r (b.getLsbD i)) r

/-- The 16-bit check over bytes (R198). -/
def check (bs : List Byte) : Nat := bs.foldl checkByte 0xFFFF

/-- Bytes followed by their check (R198). -/
def withCheck (bs : List Byte) : List Byte := bs ++ be 2 (check bs)

/-- The bytes before a check that matches them, or none (R198). -/
def checked? (bs : List Byte) : Option (List Byte) :=
  let body := bs.take (bs.length - 2)
  if 2 ≤ bs.length ∧ bs.drop (bs.length - 2) = be 2 (check body) then some body else none

/-- A number of k bytes from the front. -/
def getNum (k : Nat) (bs : List Byte) : Option (Nat × List Byte) :=
  if k ≤ bs.length then some (ofBytes (bs.take k), bs.drop k) else none

/-! ### Records in notes (R200) -/

def classCode : PagerClass → Nat
  | .numeric => 0
  | .alpha => 1
  | .twoWay => 2

def classOfCode : Nat → Option PagerClass
  | 0 => some .numeric
  | 1 => some .alpha
  | 2 => some .twoWay
  | _ => none

def serviceCode : Service → Nat
  | .active => 0
  | .suspended => 1
  | .barred => 2

def serviceOfCode : Nat → Option Service
  | 0 => some .active
  | 1 => some .suspended
  | 2 => some .barred
  | _ => none

/-- 1 or 0. -/
def bit (b : Bool) : Nat := cond b 1 0

/-- The record block up to the next tag; `marks` are the low three bits of the state byte (R200). -/
def recordBytes (a : Admin) (marks : Nat) (nextTag : Tag) : List Byte :=
  be 3 a.sub ++ be 3 a.addr.toNat ++
  [BitVec.ofNat 8 (64 * classCode a.pagerClass + 8 * a.tariff.val + a.plan.val), a.zones,
   BitVec.ofNat 8 (64 * serviceCode a.service + 32 * bit a.quota.isSome + 16 * bit a.threshold.isSome
     + marks)] ++
  be 4 ((a.quota.map (·.toNat)).getD 0) ++ be 4 ((a.threshold.map (·.toNat)).getD 0) ++ [nextTag]

/-- The record block read from the front: fields, low three bits of the state byte, next tag. None where
it breaks its layout (R200). Bytes of an absent quota or threshold that are not 0, which R200's list of format
breaks does not name, are passed over (DESIGN CHOICE, log 12). -/
def readRecord (bs : List Byte) : Option ((Admin × Nat × Tag) × List Byte) := do
  let (sub, bs) ← getNum 3 bs
  let (addr, bs) ← getNum 3 bs
  let (k, bs) ← getNum 1 bs
  let (zones, bs) ← getNum 1 bs
  let (st, bs) ← getNum 1 bs
  let (quota, bs) ← getNum 4 bs
  let (threshold, bs) ← getNum 4 bs
  let (tag, bs) ← getNum 1 bs
  let cls ← classOfCode (k / 64)
  let service ← serviceOfCode (st / 64)
  if sub < Config.subscriberLimit ∧ addr < 2097152 ∧ zones ≠ 0 ∧ st / 8 % 2 = 0 then
    some (({ sub := sub, addr := BitVec.ofNat 21 addr, pagerClass := cls, tariff := Fin.ofNat 8 (k / 8),
             plan := Fin.ofNat 8 k, zones := BitVec.ofNat 8 zones, service := service,
             quota := if st / 32 % 2 = 1 then some (BitVec.ofNat 32 quota) else none,
             threshold := if st / 16 % 2 = 1 then some (BitVec.ofNat 32 threshold) else none },
           st % 8, BitVec.ofNat 8 tag), bs)
  else none

/-! ### Notes (R200) -/

/-- A note as a frame carries it. -/
structure WireNote where
  dest : Station
  serial : NoteSerial
  body : NoteBody
deriving DecidableEq, Repr

def NoteBody.kindCode : NoteBody → Nat
  | .forward .. => 1
  | .answer .. => 2
  | .ret .. => 3
  | .retEnd => 4
  | .mirror .. => 5
  | .mirrorRemove _ => 6
  | .mirrorEnd _ => 7

/-- The bytes of a last zone: 0xFF when absent. -/
def lastZoneByte : Option Zone → Byte
  | some z => BitVec.ofNat 8 z.val
  | none => 0xFF#8

/-- The meter part of a RETURN, behind the next tag (R200). -/
def meterBytes (lastZone : Option Zone) (m : MeterFields) : List Byte :=
  lastZoneByte lastZone :: (be 5 m.current ++ be 5 m.closed ++ be 6 m.carry ++ be 5 m.reserved ++
    be 2 m.period.toNat)

/-- The content of a note (R200). -/
def NoteBody.content : NoteBody → List Byte
  | .forward tag text => tag :: text
  | .answer tag r => tag :: (match r with
    | .reply text => 0#8 :: text
    | .notYet => [1#8]
    | .moved m => [2#8, BitVec.ofNat 8 m.val])
  | .ret a tag zone m =>
    recordBytes a (4 * bit m.limit + 2 * bit m.sent + bit m.owed) tag ++ meterBytes zone m
  | .retEnd => []
  | .mirror refresh a tag => BitVec.ofNat 8 (bit refresh) :: recordBytes a 0 tag
  | .mirrorRemove sub => be 3 sub
  | .mirrorEnd refresh => [BitVec.ofNat 8 (bit refresh)]

/-- The bytes of a note in a frame (R200). -/
def WireNote.bytes (n : WireNote) : List Byte :=
  BitVec.ofNat 8 (16 * n.body.kindCode + n.dest.val) :: n.serial ::
    BitVec.ofNat 8 n.body.content.length :: n.body.content

/-- A last zone: 0 to 7, or 0xFF when absent. -/
def readZone (n : Nat) : Option (Option Zone) :=
  if n = 0xFF then some none else if n < 8 then some (some (Fin.ofNat 8 n)) else none

/-- A RETURN's content. -/
def readReturn (bs : List Byte) : Option NoteBody := do
  let ((a, marks, tag), bs) ← readRecord bs
  let (zone, bs) ← getNum 1 bs
  let (current, bs) ← getNum 5 bs
  let (closed, bs) ← getNum 5 bs
  let (carry, bs) ← getNum 6 bs
  let (reserved, bs) ← getNum 5 bs
  let (period, bs) ← getNum 2 bs
  let lastZone ← readZone zone
  if bs = [] then
    some (.ret a tag lastZone
      { current := current, closed := closed, carry := carry, reserved := reserved,
        period := BitVec.ofNat 16 period, limit := decide (marks / 4 % 2 = 1),
        sent := decide (marks / 2 % 2 = 1), owed := decide (marks % 2 = 1) })
  else none

/-- An ANSWER's content behind its tag. Behind result byte 0 any text is taken as the reply, an empty one and one
with none of the forms of a reply of R200 among them: the list of format breaks at R200's end names no such text
(DESIGN CHOICE, log 12). -/
def readResult : List Byte → Option Result
  | [] => none
  | r :: bs =>
    if r = 0#8 then some (.reply bs)
    else if r = 1#8 then (if bs = [] then some .notYet else none)
    else if r = 2#8 then
      match bs with
      | [m] => if m.toNat < 16 then some (.moved (Fin.ofNat 16 m.toNat)) else none
      | _ => none
    else none

/-- A flags byte whose bit 0 is refresh start. -/
def readRefresh (b : Byte) : Option Bool :=
  if b = 0#8 then some false else if b = 1#8 then some true else none

/-- The content of a note of a kind; none where it breaks the layout (R200). -/
def readContent (kind : Nat) (bs : List Byte) : Option NoteBody :=
  match kind with
  | 1 => match bs with
    | tag :: text => if 1 ≤ text.length ∧ text.length ≤ 212 then some (.forward tag text) else none
    | [] => none
  | 2 => match bs with
    | tag :: rest =>
      if bs.length ≤ 73 then (readResult rest).map (.answer tag) else none
    | [] => none
  | 3 => readReturn bs
  | 4 => if bs = [] then some .retEnd else none
  | 5 => match bs with
    | f :: rest =>
      match readRefresh f, readRecord rest with
      | some refresh, some ((a, marks, tag), []) =>
        if marks = 0 then some (.mirror refresh a tag) else none
      | _, _ => none
    | [] => none
  | 6 => match getNum 3 bs with
    | some (sub, []) => if sub < Config.subscriberLimit then some (.mirrorRemove sub) else none
    | _ => none
  | 7 => match bs with
    | [f] => (readRefresh f).map .mirrorEnd
    | _ => none
  | _ => none

/-- A note from the front of the bytes. -/
def readNote : List Byte → Option (WireNote × List Byte)
  | h :: serial :: len :: bs =>
    if len.toNat ≤ bs.length then
      (readContent (h.toNat / 16) (bs.take len.toNat)).map fun body =>
        ({ dest := Fin.ofNat 16 h.toNat, serial := serial, body := body }, bs.drop len.toNat)
    else none
  | _ => none

/-- A run of n notes. -/
def readNotes : Nat → List Byte → Option (List WireNote × List Byte)
  | 0, bs => some ([], bs)
  | n + 1, bs =>
    match readNote bs with
    | some (w, bs) => (readNotes n bs).map fun r => (w :: r.1, r.2)
    | none => none

/-! ### The round frame (R199) -/

/-- A round frame (R21). Claims carry no message on the bus. -/
structure RoundFrame where
  sender : Station
  state : Member
  office : BitVec 16
  frame : FrameNo
  draining : Bool
  index : Fin 4
  period : Period
  silence : StationSet
  custody : StationSet
  takes : List (Station × NoteSerial)
  claims : List Claim
  notes : List WireNote
deriving DecidableEq, Repr

def Member.code : Member → Nat
  | .joining => 1
  | .reclaiming => 2
  | .live => 3

def memberOfCode : Nat → Option Member
  | 1 => some .joining
  | 2 => some .reclaiming
  | 3 => some .live
  | _ => none

def takeBytes (t : Station × NoteSerial) : List Byte := [BitVec.ofNat 8 t.1.val, t.2]

def Claim.bytes (c : Claim) : List Byte :=
  be 2 c.target.toNat ++ [BitVec.ofNat 8 (128 * bit c.urgent + 16 * c.slots + c.number)]

/-- The bytes of a frame behind its length field, before its check (R199). -/
def RoundFrame.tail (f : RoundFrame) : List Byte :=
  BitVec.ofNat 8 (16 * f.sender.val + f.state.code) :: (be 2 f.office.toNat ++ be 2 f.frame.toNat ++
    BitVec.ofNat 8 (128 * bit f.draining + f.index.val) :: (be 2 f.period.toNat ++
    be 2 f.silence.toNat ++ be 2 f.custody.toNat ++
    BitVec.ofNat 8 f.takes.length :: (f.takes.flatMap takeBytes ++
    BitVec.ofNat 8 f.claims.length :: (f.claims.flatMap Claim.bytes ++
    BitVec.ofNat 8 f.notes.length :: f.notes.flatMap WireNote.bytes))))

/-- The bytes of a round frame (R199). -/
def RoundFrame.bytes (f : RoundFrame) : List Byte :=
  withCheck (0xB3#8 :: (be 2 (f.tail.length + 5) ++ f.tail))

/-- A run of n takes. -/
def readTakes : Nat → List Byte → Option (List (Station × NoteSerial) × List Byte)
  | 0, bs => some ([], bs)
  | n + 1, k :: serial :: bs =>
    if k.toNat < 16 then
      (readTakes n bs).map fun r => ((Fin.ofNat 16 k.toNat, serial) :: r.1, r.2)
    else none
  | _ + 1, _ => none

/-- A run of n claims whose numbers go up from `number` (R126, R199). -/
def readClaims : Nat → Nat → List Byte → Option (List Claim × List Byte)
  | 0, _, bs => some ([], bs)
  | n + 1, number, a :: b :: c :: bs =>
    let slots := c.toNat / 16 % 8
    if 1 ≤ slots ∧ slots ≤ 5 ∧ c.toNat % 16 = number then
      (readClaims n (number + 1) bs).map fun r =>
        ({ target := BitVec.ofNat 16 (256 * a.toNat + b.toNat), urgent := decide (128 ≤ c.toNat),
           slots := slots, number := number, message := none } :: r.1, r.2)
    else none
  | _ + 1, _, _ => none

/-- A round frame from the bytes heard in a window, or none when its check fails or it breaks its format
(R22, R199). `roster` is the receiver's. The frame is all that was heard: its check is the last two bytes heard,
and its length field counts them all, so a window with bytes behind the frame's own length reads DAMAGED
(DESIGN CHOICE, log 12). -/
def readFrame (roster : StationSet) (heard : List Byte) : Option RoundFrame := do
  let bs ← checked? heard
  let (sync, bs) ← getNum 1 bs
  let (len, bs) ← getNum 2 bs
  let (who, bs) ← getNum 1 bs
  let (office, bs) ← getNum 2 bs
  let (frame, bs) ← getNum 2 bs
  let (flags, bs) ← getNum 1 bs
  let (period, bs) ← getNum 2 bs
  let (silence, bs) ← getNum 2 bs
  let (custody, bs) ← getNum 2 bs
  let (nTakes, bs) ← getNum 1 bs
  let (takes, bs) ← if nTakes ≤ Config.takesPerFrame then readTakes nTakes bs else none
  let (nClaims, bs) ← getNum 1 bs
  let (claims, bs) ← if nClaims ≤ Config.claimCap then readClaims nClaims 0 bs else none
  let (nNotes, bs) ← getNum 1 bs
  let (notes, bs) ← if nNotes ≤ Config.notesPerFrame then readNotes nNotes bs else none
  let state ← memberOfCode (who % 16)
  if sync = 0xB3 ∧ len = heard.length ∧ len ≤ Config.frameBytes ∧ bs = [] ∧ flags / 4 % 32 = 0 ∧
      BitVec.ofNat 16 silence &&& ~~~roster = 0 ∧ BitVec.ofNat 16 custody &&& ~~~roster = 0 then
    some { sender := Fin.ofNat 16 (who / 16), state := state, office := BitVec.ofNat 16 office,
           frame := BitVec.ofNat 16 frame, draining := decide (128 ≤ flags), index := Fin.ofNat 4 flags,
           period := BitVec.ofNat 16 period, silence := BitVec.ofNat 16 silence,
           custody := BitVec.ofNat 16 custody, takes := takes, claims := claims, notes := notes }
  else none

/-! ### Air slots (R201) -/

/-- Bytes brought to a length with zeros behind. -/
def padTo (n : Nat) (bs : List Byte) : List Byte := bs.take n ++ List.replicate (n - bs.length) 0#8

/-- The 48 bytes of slot i of a page (R124, R201). -/
def Page.slotBytes (p : Page) (i : Nat) : List Byte :=
  withCheck (be 3 (2097152 * i + p.addr.toNat) ++ [p.tag, p.zones, BitVec.ofNat 8 p.slots] ++
    padTo Config.blockChars (p.body.drop (Config.blockChars * i)))

/-- The 48 bytes of idle fill (R201). -/
def idleFill (k : Station) : List Byte := withCheck (BitVec.ofNat 8 k.val :: List.replicate 45 0#8)

/-! ### Return reports (R202) -/

/-- The bytes of a report. -/
def Report.bytes : Report → List Byte
  | .received a t => withCheck (0x31#8 :: (be 3 a.toNat ++ [t]))
  | .full a t => withCheck (0x32#8 :: (be 3 a.toNat ++ [t]))
  | .ready a => withCheck (0x33#8 :: be 3 a.toNat)
  | .register a z => withCheck (0x34#8 :: (be 3 a.toNat ++ [BitVec.ofNat 8 z.val]))

/-- The length of a report by its kind byte (R202). -/
def reportLength (kind : Byte) : Option Nat :=
  if kind = 0x31#8 ∨ kind = 0x32#8 ∨ kind = 0x34#8 then some 7
  else if kind = 0x33#8 then some 6
  else none

/-- The bytes are those of one report, taken whole: as many as its kind gives, or one byte of no known kind
(R202). -/
def wholeReport : List Byte → Bool
  | [] => false
  | k :: bs => decide (bs.length + 1 = (reportLength k).getD 1)

/-- The bytes before a gap stand inside a report: a known kind, not yet complete (R202). -/
def insideReport : List Byte → Bool
  | [] => false
  | k :: bs =>
    match reportLength k with
    | some n => decide (bs.length + 1 < n)
    | none => false

/-- The report that bytes taken as one report give, or none when it is bad (R140, R202). -/
def judgeReport (bytes : List Byte) : Option Report :=
  match checked? bytes with
  | some [k, a, b, c, x] =>
    let addr := 65536 * a.toNat + 256 * b.toNat + c.toNat
    if addr < 2097152 then
      if k = 0x31#8 then some (.received (BitVec.ofNat 21 addr) x)
      else if k = 0x32#8 then some (.full (BitVec.ofNat 21 addr) x)
      else if k = 0x34#8 ∧ x.toNat < 8 then
        some (.register (BitVec.ofNat 21 addr) (Fin.ofNat 8 x.toNat))
      else none
    else none
  | some [k, a, b, c] =>
    let addr := 65536 * a.toNat + 256 * b.toNat + c.toNat
    if addr < 2097152 ∧ k = 0x33#8 then some (.ready (BitVec.ofNat 21 addr)) else none
  | _ => none

/-! ### Billing blocks (R203) -/

def BlockEntry.bytes (e : BlockEntry) : List Byte :=
  be 3 e.sub ++ be 2 e.field.toNat ++
    [BitVec.ofNat 8 (bit e.limited + 2 * bit e.adopted + 4 * bit e.final)]

/-- The bytes of a billing block. -/
def Block.bytes (b : Block) : List Byte :=
  withCheck ([0xC7#8, BitVec.ofNat 8 b.station.val] ++ be 2 b.period.toNat ++ be 2 b.number.toNat ++
    [BitVec.ofNat 8 b.scale, BitVec.ofNat 8 b.entries.length] ++ b.entries.flatMap BlockEntry.bytes)

/-! ### The configuration image (R191, R192, R204) -/

/-- Byte i of an image. -/
def at1 (bs : List Byte) (i : Nat) : Nat := ofBytes ((bs.drop i).take 1)

/-- The two bytes at i. -/
def at2 (bs : List Byte) (i : Nat) : Nat := ofBytes ((bs.drop i).take 2)

/-- The three bytes at i. -/
def at3 (bs : List Byte) (i : Nat) : Nat := ofBytes ((bs.drop i).take 3)

/-- The bytes a read clocks in: past the end of what the memory drives, data in is held at 1 (R190). -/
def clockedIn (bytes : List Byte) : List Byte :=
  bytes.take Config.imageBytes ++ List.replicate (Config.imageBytes - bytes.length) 0xFF#8

/-- A read is good: marker, length and check (R190, R204). -/
def goodRead (bytes : List Byte) : Bool :=
  let bs := clockedIn bytes
  decide (at2 bs 0 = 0x4C12 ∧ at2 bs 2 = Config.imageBytes) && (checked? bs).isSome

/-- The speed of a speed code (R204). -/
def speedOf : Nat → Option Nat
  | 0 => some 1200
  | 1 => some 2400
  | 2 => some 4800
  | 3 => some 9600
  | 4 => some 19200
  | _ => none

def parityOf : Nat → Option Parity
  | 0 => some .none
  | 1 => some .even
  | 2 => some .odd
  | _ => none

/-- A line's settings byte. -/
def readLine (n : Nat) : Option LineSettings :=
  match parityOf (n / 16 % 4), speedOf (n % 8) with
  | some p, some v =>
    if n / 64 % 2 = 0 ∧ n / 8 % 2 = 0 then
      some { role := if 128 ≤ n then .operator else .caller, parity := p, speed := v }
    else none
  | _, _ => none

/-- A range entry at offset i: unused, or used and valid; none where it fails validation. -/
def readRange (roster : StationSet) (bs : List Byte) (i : Nat) : Option (Option Range) :=
  let head := at1 bs i
  let r : Range := { low := at3 bs (i + 1), high := at3 bs (i + 4), home := Fin.ofNat 16 head }
  if head / 16 % 8 = 0 then
    if head < 128 then some none
    else if r.low ≤ r.high ∧ r.high < Config.subscriberLimit ∧ inSet roster r.home = true then
      some (some r)
    else none
  else none

/-- A tariff class at offset i. -/
def readTariff (bs : List Byte) (i : Nat) : Option Tariff :=
  let t : Tariff := { base := at2 bs i, perSegment := at2 bs (i + 2), fee := at2 bs (i + 4) }
  if t.fee ≤ t.base then some t else none

/-- A zone selector. -/
def readSelector (sel set : Nat) : Option Selector :=
  match sel with
  | 0 => some .all
  | 1 => some .home
  | 2 => some .last
  | 3 => if set = 0 then none else some (.explicit (BitVec.ofNat 8 set))
  | _ => none

/-- A step at offset i. -/
def readStep (bs : List Byte) (i : Nat) : Option Step :=
  let c := at1 bs (i + 2)
  let gap := at1 bs (i + 3)
  match readSelector (at1 bs i) (at1 bs (i + 1)) with
  | some sel =>
    if c / 16 % 8 = 0 ∧ 1 ≤ c % 16 ∧ c % 16 ≤ 8 ∧ 1 ≤ gap ∧ gap ≤ 15 then
      some { selector := sel, repeats := c % 16, gap := gap, ends := decide (128 ≤ c) }
    else none
  | none => none

/-- All values, or none when one is missing. -/
def allSome {α : Type} : List (Option α) → Option (List α)
  | [] => some []
  | some x :: xs => (allSome xs).map (x :: ·)
  | none :: _ => none

/-- A plan at offset i. -/
def readPlan (bs : List Byte) (i : Nat) : Option Plan :=
  let n := at1 bs i
  let rounds := at1 bs (i + 33)
  let hold := at1 bs (i + 35)
  if 1 ≤ n ∧ n ≤ 8 ∧ 1 ≤ rounds ∧ rounds ≤ 4 ∧ 1 ≤ hold then
    (allSome ((List.range n).map fun k => readStep bs (i + 1 + 4 * k))).map fun steps =>
      { steps := steps, rounds := rounds, roundGap := at1 bs (i + 34), hold := hold }
  else none

/-- No subscriber number lies in two used ranges (R192). -/
def disjointRanges : List Range → Bool
  | [] => true
  | r :: rs => rs.all (fun q => decide (r.high < q.low ∨ q.high < r.low)) && disjointRanges rs

/-- Eight values as a vector. -/
def toVector {α : Type} (n : Nat) (l : List α) : Option (Vector α n) :=
  if h : l.length = n then some ⟨l.toArray, by simpa using h⟩ else none

/-- The image of a good read, when every test of R192 passes for this station. -/
def readImage (self : Station) (bytes : List Byte) : Option Image := do
  let bs := clockedIn bytes
  let roster : StationSet := BitVec.ofNat 16 (at2 bs 6)
  let ranges ← allSome ((List.range 16).map fun k => readRange roster bs (8 + 7 * k))
  let lines ← allSome ((List.range 4).map fun k => readLine (at1 bs (120 + k)))
  let tariffs ← allSome ((List.range 8).map fun k => readTariff bs (124 + 6 * k))
  let plans ← allSome ((List.range 8).map fun k => readPlan bs (176 + 36 * k))
  let lines ← toVector 4 lines
  let tariffs ← toVector 8 tariffs
  let plans ← toVector 8 plans
  let speed ← speedOf (at1 bs 508)
  let ranges := ranges.filterMap id
  let validUrgent := at2 bs 172
  let validNormal := at2 bs 174
  let s := at1 bs 464
  let q := at1 bs 465
  let w := at1 bs 466
  let count := at1 bs 467
  let notice := (bs.drop 468).take count
  if 2 ≤ (members roster).length ∧ inSet roster self = true ∧ disjointRanges ranges = true ∧
      1 ≤ validUrgent ∧ validUrgent ≤ 30000 ∧ 1 ≤ validNormal ∧ validNormal ≤ 30000 ∧
      2 ≤ s ∧ s ≤ 8 ∧ 1 ≤ q ∧ q ≤ 4 ∧ q + 1 ≤ (members roster).length ∧ w ≤ 7 ∧
      1 ≤ count ∧ count ≤ 40 ∧ notice.all printable = true then
    some { office := BitVec.ofNat 16 (at2 bs 4), roster := roster, ranges := ranges, lines := lines,
           tariffs := tariffs, validUrgent := validUrgent, validNormal := validNormal, plans := plans,
           silence := s, quorum := q, width := w, notice := notice, billingSpeed := speed,
           check := BitVec.ofNat 16 (at2 bs 509) }
  else none

end Sys2Proof.Machine
end

