-- ==== Sys2Proof/Machine/Billing.lean ====
section
/-!
DEFINITION. The walk grant (R18), the start of the drain and return walks, and the Billing Unit
(chapter 10): block formation, the drain walk, withdraw, the queue and the port.
-/

namespace Sys2Proof.Machine

/-! ### The grant and the walks it lets run -/

/-- The draining flag (R174). -/
def Stn.draining (s : Stn) : Bool :=
  match s.subs.drain with
  | .running _ => true
  | .idle => false

/-- A returning record is in the active table (R54). -/
def Stn.anyReturning (s : Stn) : Bool := s.subs.active.any (·.returning)

/-- The next returning record of phase ADOPTED (R17, R54). -/
def Stn.nextReturning (s : Stn) (pos : Option Nat) : Option Record :=
  nextAbove (·.admin.sub) (·.returning) pos s.subs.active

/-- The return walk's change of phase: REVISIT after the last returning record, STANDBY when none
remains (R54). -/
def Stn.advanceReturn (s : Stn) : Stn :=
  match s.subs.ret with
  | .running .adopted pos =>
    if s.anyReturning then
      if (s.nextReturning pos).isNone then { s with subs.ret := .running .revisit none } else s
    else { s with subs.ret := .running .standby none }
  | .running .revisit _ =>
    if s.anyReturning then s else { s with subs.ret := .running .standby none }
  | _ => s

/-- The return walk becomes RUNNING: the grant names RETURN and every ADOPTED record of the ward is
marked returning (R18, R54). -/
def Stn.startReturn (s : Stn) : Stn :=
  let active := updWhere (fun r => decide (r.origin = .adopted ∧ r.home = s.ward))
    (fun r => { r with returning := true }) s.subs.active
  { s with subs.active := active, subs.grant := .ret, subs.ret := .running .adopted none }.advanceReturn

/-- The drain walk starts in period p, with the grant (R176, R179). -/
def Stn.startDrain (s : Stn) (p : Period) : Stn :=
  { s with bill.period := p, bill.forming := [], bill.pause := .none, subs.grant := .drain,
           subs.drain := .running none }

/-- The grant is released: to a WAITING return walk, else to a pending close, else to nobody
(R18, R178). -/
def Stn.releaseGrant (s : Stn) : Stn :=
  match s.subs.ret, s.bill.pendingClose with
  | .waiting, _ => s.startReturn
  | _, some p => { s with bill.pendingClose := none }.startDrain p
  | _, none => { s with subs.grant := .nobody }

/-! ### Block formation (R182, R183) -/

/-- Every total, divided by 16 to the power k, fits a field. -/
def fitsScale (k : Nat) (es : List FormEntry) : Bool := es.all fun e => decide (e.total / 16 ^ k ≤ 65535)

/-- The scale of a block (R182 step 1). -/
def scaleOf (es : List FormEntry) : Nat :=
  if fitsScale 0 es then 0 else if fitsScale 1 es then 1 else if fitsScale 2 es then 2 else 3

/-- The field of an entry (R182 step 2). -/
def fieldOf (scale total : Nat) : Nat := min (total / 16 ^ scale) 65535

/-- The entry is limited (R182 step 2). -/
def isLimited (scale total : Nat) : Bool := decide (65535 < total / 16 ^ scale)

/-- The remainder of an entry (R182 step 3). -/
def remainderOf (scale total : Nat) : Nat := total - fieldOf scale total * 16 ^ scale

/-- An entry as the block carries it (R183). -/
def FormEntry.toBlock (scale : Nat) (e : FormEntry) : BlockEntry :=
  { sub := e.sub, field := BitVec.ofNat 16 (fieldOf scale e.total), limited := isLimited scale e.total,
    adopted := e.adopted, final := e.final }

/-- The remainder of an entry goes to the record's carry units, or is written off; a limited entry sets
the limit mark; the field is billed (R182 steps 3 to 5). -/
def Stn.settleEntry (scale : Nat) (s : Stn) (e : FormEntry) : Stn :=
  let rem := remainderOf scale e.total
  let limited := isLimited scale e.total
  let s1 := match s.rec? e.sub with
    | some r =>
      let (carry, excess) := addCapped Config.carryLimit r.meter.carry rem
      (s.updMeter e.sub fun m => { m with carry := carry, limit := m.limit || limited }).writeOff excess
    | none => s.writeOff rem
  { s1 with
    meter.billed := s1.meter.billed + units (fieldOf scale e.total * 16 ^ scale),
    bill.entriesLimited := if limited then satInc s1.bill.entriesLimited else s1.bill.entriesLimited }

/-- The block number of a block of period p, and the counter after it (R183). -/
def Stn.numberBlock (s : Stn) (p : Period) : BitVec 16 × Stn :=
  if s.bill.counted = some p then (s.bill.counter, { s with bill.counter := s.bill.counter + 1 })
  else (0, { s with bill.counted := some p, bill.counter := 1 })

/-- A block is formed from entries and enters the billing queue (R182, R183). -/
def Stn.formBlock (s : Stn) (es : List FormEntry) (p : Period) : Stn :=
  let scale := scaleOf es
  let s1 := es.foldl (Stn.settleEntry scale) s
  let (n, s2) := s1.numberBlock p
  let b : Block := { station := s.self, period := p, number := n, scale := scale,
                     entries := es.map (FormEntry.toBlock scale) }
  { s2 with bill.queue := s2.bill.queue ++ [b] }

/-- The billing queue has a free place (R185). -/
def Stn.billingRoom (s : Stn) : Bool := decide (s.bill.queue.length < Config.billingCap)

/-! ### The drain walk -/

/-- The drain walk ends and the grant is released (R179). -/
def Stn.endDrain (s : Stn) : Stn :=
  { s with subs.drain := .idle, bill.pause := .none }.releaseGrant

/-- The walk's block is formed in a free place; its header period is the period drained (R181, R183). -/
def Stn.formWalkBlock (s : Stn) : Stn :=
  { s.formBlock s.bill.forming (s.bill.period - 1) with bill.forming := [], bill.pause := .none }

/-- The block under formation is formed, or the walk pauses for room (R181). -/
def Stn.formOrPause (s : Stn) (why : Pause) : Stn :=
  if s.billingRoom then
    match why with
    | .last => s.formWalkBlock.endDrain
    | _ => s.formWalkBlock
  else { s with bill.pause := why }

/-- The visit of one record (R180). -/
def Stn.drainRecord (s : Stn) (sub : Nat) : Stn :=
  let s1 := { s.roll sub with subs.drain := .running (some sub) }
  match s1.rec? sub with
  | none => s1
  | some r =>
    let total := r.meter.closed + r.meter.carry
    if total = 0 then s1
    else
      let s2 := s1.updMeter sub fun m => { m with closed := 0, carry := 0 }
      let e : FormEntry := { sub := sub, total := total, adopted := decide (r.origin = .adopted),
                             final := false }
      let s3 := { s2 with bill.forming := s2.bill.forming ++ [e] }
      if Config.blockEntries ≤ s3.bill.forming.length then s3.formOrPause .full else s3

/-- The drain walk reaches its end (R179). -/
def Stn.drainEnd (s : Stn) : Stn :=
  if s.bill.forming = [] then s.endDrain else s.formOrPause .last

/-- The next record of the drain walk (R17). -/
def Stn.nextDrain (s : Stn) (pos : Option Nat) : Option Record :=
  nextAbove (·.admin.sub) (fun _ => true) pos s.subs.active

/-- One step of the drain walk: a visit, or the end (R179, R180). -/
def Stn.drainVisit (s : Stn) : Stn :=
  match s.subs.drain with
  | .idle => s
  | .running pos =>
    if s.bill.pause = .none then
      match s.nextDrain pos with
      | some r => s.drainRecord r.admin.sub
      | none => s.drainEnd
    else s

/-- A paused walk goes on with the place a block has freed (R181, R185). A walk paused at the block of its end
(R179) ends in that event without a look at the table: a record inserted above the position during that pause, which
R17 and R180 would have visited, waits for the next walk (DESIGN CHOICE, log 18). -/
def Stn.resumeDrain (s : Stn) : Stn :=
  match s.bill.pause with
  | .none => s
  | .last => s.formWalkBlock.endDrain
  | .full =>
    let s1 := s.formWalkBlock
    match s1.subs.drain with
    | .running pos => if (s1.nextDrain pos).isNone then s1.endDrain else s1
    | .idle => s1

/-! ### Period close and withdraw -/

/-- A peer viewed LIVE holds a local close back (R176). -/
def Stn.peerHoldsClose (s : Stn) : Bool :=
  s.roster.any fun k => decide (k ≠ s.self ∧ s.view k = .live) &&
    (match s.bill.peers.get k with
     | some (p, drain) => drain || decide (p ≠ s.bill.period)
     | none => false)

/-- A local period close (R176). -/
def Stn.periodClose (s : Stn) : Except Word Stn :=
  if s.draining ∨ s.subs.grant = .ret ∨ s.peerHoldsClose then .error .drainBusy
  else .ok (s.startDrain (s.bill.period + 1))

/-- The withdraw of a record (R184). -/
def Stn.withdraw (s : Stn) (r : Record) : Except Word Stn :=
  if r.queue ≠ [] then .error .subscriberBusy
  else if s.draining then .error .drainBusy
  else if s.billingRoom = false then .error .billingBusy
  else
    let e : FormEntry := { sub := r.admin.sub, total := r.meter.total,
                           adopted := decide (r.origin = .adopted), final := true }
    let s1 := s.removeRec r.admin.sub
    let s2 := match r.origin with
      | .home => s1.handChange (.mirrorRemove r.admin.sub)
      | .adopted => s1
    .ok (s2.formBlock [e] s.bill.period)

/-! ### The billing port -/

/-- The free port begins the oldest block when the accept input is asserted (R186). -/
def Stn.billingStart (s : Stn) (accept : Bool) : Stn :=
  match s.bill.sending, s.bill.queue with
  | none, b :: _ => if accept then { s with bill.sending := some b.bytes } else s
  | _, _ => s

/-- The last character of the block under transmission has been sent (R185, R186). -/
def Stn.billingSent (s : Stn) : Stn :=
  match s.bill.sending with
  | none => s
  | some _ =>
    { s with bill.sending := none, bill.queue := s.bill.queue.drop 1,
             bill.blocksSent := satInc s.bill.blocksSent }.resumeDrain

/-! ### The commands -/

/-- DRAIN_VISIT (R180). -/
def execDrainVisit (s : State) : Host.Outcome State Fault Refusal :=
  .next { s with stn := s.stn.drainVisit.givePlaces s.stn }

/-- BILLING_BLOCK_START (R186). -/
def execBillingBlockStart (accept : Bool) (s : State) : Host.Outcome State Fault Refusal :=
  .next { s with stn := s.stn.billingStart accept }

/-- BILLING_BLOCK_SENT (R185). -/
def execBillingBlockSent (s : State) : Host.Outcome State Fault Refusal :=
  .next { s with stn := s.stn.billingSent }

end Sys2Proof.Machine
end

