-- ==== Sys2Proof/Machine/Lines.lean ====
section
/-!
DEFINITION. The lines of the Intake Unit: the receive FIFO and ready output (R64, R65), losses (R66), what
the assembler does with a character (R68, R70 to R72), the judgement of a reply (R74) and the transmitter
(R75).
-/

namespace Sys2Proof.Machine

/-- Line l. -/
def Stn.line (s : Stn) (l : LineNo) : Line := s.intake.lines.get l

/-- A change to line l. -/
def Stn.updLine (s : Stn) (l : LineNo) (f : Line → Line) : Stn :=
  { s with intake.lines := s.intake.lines.set l.val (f (s.line l)) l.isLt }

/-- Context c of a line. -/
def Line.ctx (x : Line) (c : CtxNo) : Context := x.ctxs.get c

/-- A change to context c. -/
def Line.updCtx (x : Line) (c : CtxNo) (f : Context → Context) : Line :=
  { x with ctxs := x.ctxs.set c.val (f (x.ctx c)) c.isLt }

/-- The lines take characters: the controller is CLOSED, or REFUSED with the fallback settings
(R62, R188). -/
def Stn.linesUp (s : Stn) : Bool :=
  match s.ctl.phase with
  | .closed | .refused => true
  | _ => false

/-! ### Reception -/

/-- The mark left by a loss: on the newest FIFO entry (R66). -/
def markLoss : List FifoEntry → List FifoEntry
  | [] => []
  | [e] => [{ e with lossFollows := true }]
  | e :: es => e :: markLoss es

/-- A loss applied to the current context: COLLECTING becomes DAMAGED (R66). -/
def Line.applyLoss (x : Line) : Line :=
  match x.current with
  | none => x
  | some c =>
    match (x.ctx c).state with
    | .collecting => x.updCtx c fun k => { k with state := .damaged .damaged, buffer := [] }
    | _ => x

/-- A loss recorded at the point where it happened (R66). -/
def Line.recordLoss (x : Line) : Line :=
  if x.fifo = [] then x.applyLoss else { x with fifo := markLoss x.fifo }

/-- A good character offered to the FIFO (R64, R65). -/
def Line.addChar (x : Line) (value : Byte) (mark : Bool) : Line :=
  if x.fifo.length < Config.fifoCap then
    let fifo := x.fifo ++ [⟨value, mark, false⟩]
    { x with fifo := fifo, ready := if Config.fifoHigh ≤ fifo.length then false else x.ready }
  else { x with overrun := satInc x.overrun }.recordLoss

/-- A character discarded for a parity or framing error (R63). -/
def Line.badChar (x : Line) : Line := { x with parityFraming := satInc x.parityFraming }.recordLoss

/-- The number of ones in a character with its mark bit is odd. -/
def oddOnes (value : Byte) (mark : Bool) : Bool :=
  (List.range 8).foldl (fun p i => xor p (value.getLsbD i)) mark

/-- The parity of a received character is right (R62). -/
def parityRight (p : Parity) (value : Byte) (mark parityBit : Bool) : Bool :=
  match p with
  | .none => true
  | .even => parityBit == oddOnes value mark
  | .odd => parityBit != oddOnes value mark

/-- The parity bit of a character sent (R62). -/
def sentParity (p : Parity) (value : Byte) (mark : Bool) : Option Bool :=
  match p with
  | .none => none
  | .even => some (oddOnes value mark)
  | .odd => some (!oddOnes value mark)

/-- A break on a line, but for the waiting order (R67). -/
def Line.broken (x : Line) : Line :=
  { x with fifo := [], ready := true, current := none,
           ctxs := x.ctxs.map fun k => { state := .idle, buffer := [], gen := k.gen + 1 } }

/-! ### The assembler -/

/-- The oldest FIFO entry is taken, acted on, and its loss applied behind it (R65, R66, R68). -/
def Line.takeHead (x : Line) (act : Line → Line) : Line :=
  match x.fifo with
  | [] => x
  | e :: rest =>
    let y := act { x with fifo := rest, ready := if rest.length ≤ Config.fifoLow then true else x.ready }
    if e.lossFollows then y.applyLoss else y

/-- An orphan character is counted (R79). -/
def Line.orphan (x : Line) : Line := { x with orphans := satInc x.orphans }

/-- A context is abandoned (R70). -/
def Line.abandon (x : Line) (c : CtxNo) : Line :=
  x.updCtx c fun k => { state := .idle, buffer := [], gen := k.gen + 1 }

/-- A data character other than the terminator goes to the current context (R72). -/
def Context.takeData (k : Context) (b : Byte) : Context :=
  match k.state with
  | .idle => if printable b then { k with state := .collecting, buffer := [b] } else k
  | .collecting =>
    if printable b then
      if k.buffer.length < Config.bufferCap then { k with buffer := k.buffer ++ [b] }
      else { k with state := .damaged .tooLong, buffer := [] }
    else { k with state := .damaged .damaged, buffer := [] }
  | .damaged _ | .awaiting => k

/-- A data character other than the terminator (R72). -/
def Line.takeData (x : Line) (b : Byte) : Line :=
  match x.current with
  | none => x.orphan
  | some c =>
    let y := x.updCtx c fun k => k.takeData b
    match (x.ctx c).state with
    | .awaiting => y.orphan
    | _ => y

/-- The terminator, 0x0D (R72). -/
def terminatorByte : Byte := 0x0D#8

/-- The oldest character of the FIFO is the terminator. -/
def Line.atTerminator (x : Line) : Bool :=
  match x.fifo with
  | e :: _ => !e.mark && decide (e.value = terminatorByte)
  | [] => false

/-- A reply queue place is free (R74). -/
def Line.replyRoom (x : Line) : Bool := decide (x.replies.length < Config.replyCap)

/-- An immediate refusal is queued for context c, which goes to IDLE (R73). -/
def Line.refuseNow (x : Line) (c : CtxNo) (w : Word) (counted : Bool) : Line :=
  let y := x.updCtx c fun k => { k with state := .idle, buffer := [] }
  { y with
    replies := y.replies ++ [⟨c, (x.ctx c).gen, refusal w⟩],
    damagedEntries := if counted then satInc y.damagedEntries else y.damagedEntries }

/-- What a terminator at the oldest end calls for (R68, R73). -/
inductive AtEnd where
  /-- Nothing is needed: discarded, with or without an orphan count. -/
  | discard (orphan : Bool)
  /-- The entry of a COLLECTING context is handed over: needs a free pending entry. -/
  | handOver (ctx : CtxNo)
  /-- An immediate refusal: needs a reply queue place. -/
  | refuse (ctx : CtxNo) (word : Word) (counted : Bool)
deriving DecidableEq, Repr

/-- What a terminator calls for on a line, by the current context and whether the station is OFFLINE
(R72, R73, R78). -/
def Line.atEnd (x : Line) (offline : Bool) : AtEnd :=
  match x.current with
  | none => .discard true
  | some c =>
    match (x.ctx c).state with
    | .idle => .discard false
    | .awaiting => .discard true
    | .collecting => if offline then .refuse c .offline false else .handOver c
    | .damaged w =>
      if offline then .refuse c .offline false
      else .refuse c (match w with | .damaged => .damaged | .tooLong => .tooLong) true

/-- The station is OFFLINE (R48). -/
def Stn.offline (s : Stn) : Bool := decide (s.ctl.phase = .refused)

/-- The assembler is stopped on a line for lack of reply room (R68). -/
def Stn.refusalWaits (s : Stn) (l : LineNo) : Bool :=
  (s.line l).atTerminator &&
    match (s.line l).atEnd s.offline with
    | .refuse .. => true
    | _ => false

/-- The assembler takes the terminator of an immediate refusal (R73). -/
def Stn.takeRefusal (s : Stn) (l : LineNo) : Stn :=
  match (s.line l).atEnd s.offline with
  | .refuse c w counted => s.updLine l fun x => x.takeHead fun y => y.refuseNow c w counted
  | _ => s

/-! ### Replies -/

/-- How a line judges an offered reply (R74). -/
inductive Offer where
  | accepted | discarded | refused
deriving DecidableEq, Repr

/-- The judgement of an offer (R74). -/
def Line.judge (x : Line) (c : CtxNo) (gen : BitVec 8) : Offer :=
  if (x.ctx c).gen ≠ gen then .discarded
  else if x.replyRoom then .accepted
  else .refused

/-- A reply enters the queue and its context goes to IDLE (R74). -/
def Line.enqueue (x : Line) (c : CtxNo) (gen : BitVec 8) (text : List Byte) : Line :=
  let y := x.updCtx c fun k => { k with state := .idle, buffer := [] }
  { y with replies := y.replies ++ [⟨c, gen, text⟩] }

/-- A character as it is sent on a line of a parity (R62). -/
def sentChar (p : Parity) (value : Byte) (mark : Bool) : LineChar :=
  { value := value, mark := mark, parity := sentParity p value mark }

/-- The characters of a reply on the wire: its context's mark character, the text, the terminator
(R62, R75). -/
def LineReply.chars (p : Parity) (r : LineReply) : List LineChar :=
  sentChar p (BitVec.ofNat 8 r.ctx.val) true :: (r.text.map fun b => sentChar p b false) ++
    [sentChar p terminatorByte false]

/-- A reply may be sent: its generation is its context's (R75). -/
def Line.current? (x : Line) (r : LineReply) : Bool := decide ((x.ctx r.ctx).gen = r.gen)

/-- The free transmitter discards replies whose generation has changed, and begins the next (R75). -/
def Line.startReply (p : Parity) (x : Line) : Line :=
  let replies := x.replies.dropWhile fun r => !x.current? r
  { x with replies := replies, sending := replies.head?.map (LineReply.chars p) }

end Sys2Proof.Machine
end

