-- ==== Sys2Proof/Machine/Requests.lean ====
section
/-!
DEFINITION. The Request Unit (chapter 5) and the operator requests of the Subscriber Table (R5 to R12):
lookup, execution, routing, the pending request table and the finish of a request.
-/

namespace Sys2Proof.Machine

/-! ### Lookup (R5) -/

/-- Outcomes of a lookup by subscriber number (R5). -/
inductive Lookup where
  | found | notYet
  | moved (m : Station)
  | noService | absent
deriving DecidableEq, Repr

/-- A return walk for ward h is WAITING or RUNNING at this station (R5). -/
def Stn.returningFor (s : Stn) (h : Station) : Bool := decide (h = s.ward ∧ s.subs.ret ≠ .idle)

/-- MOVED to the custodian of h when it is another station, else NO SERVICE (R5). -/
def Stn.elsewhere (s : Stn) (h : Station) : Lookup :=
  match s.custodian h with
  | some c => if c = s.self then .noService else .moved c
  | none => .noService

/-- The lookup of a subscriber number whose home station is h: the first row of R5 that applies. -/
def Stn.lookup (s : Stn) (sub : Nat) (h : Station) : Lookup :=
  match s.rec? sub, s.standby? sub with
  | some r, _ => if r.returning then .notYet else .found
  | none, some b =>
    match b.mark with
    | .returned => .moved h
    | .unadopted => .noService
    | .plain => if s.returningFor h then .notYet else s.elsewhere h
  | none, none =>
    if s.returningFor h then .notYet
    else if h = s.self then .absent
    else if s.custodian h = some s.self then
      if s.subs.standbyComplete then .absent else .noService
    else s.elsewhere h

/-! ### Execution against a record (R94 to R97) -/

/-- The result `X/`word. -/
def refused (w : Word) : Result := .reply (refusal w)

/-- The body suits the record's pager class (R94 step 1). -/
def bodySuits (k : PagerClass) (body : List Byte) : Bool :=
  match k with
  | .numeric => decide (body.length ≤ 20) && body.all fun b => (decDigit? b).isSome
  | _ => true

/-- A submit whose record is FOUND (R94, R106). -/
def Stn.submitFound (s : Stn) (r : Record) (p : Priority) (body : List Byte) : Stn × Result :=
  let charge := (s.tariffOf r).fullCharge (segments body)
  if bodySuits r.admin.pagerClass body then
    match r.check charge with
    | .suspended => (s, refused .suspended)
    | .barred => (s, refused .barred)
    | .quota => (s, refused .quota)
    | .admitted =>
      if s.hasRoom body then
        ((s.acceptMessage r.admin.sub p .caller body charge).reserve r.admin.sub charge,
         .reply (replyK s.self s.nextSerial))
      else (s, refused .storeFull)
  else (s, refused .badBody)

/-- The effect of one field group on a record (R11). -/
def applyGroup (r : Record) : Group → Record
  | .tariff t => { r with admin.tariff := t }
  | .plan p => { r with admin.plan := p }
  | .zones z => { r with admin.zones := z }
  | .pagerClass k => { r with admin.pagerClass := k }
  | .quota q => { r with admin.quota := q }
  | .threshold n => { r with admin.threshold := n }
  | .clearLimit => { r with meter.limit := false }

/-- The quota test after an amend (R10). -/
def Record.amendTest (r : Record) : Record :=
  match r.admin.service with
  | .suspended => r
  | _ => { r with admin.service := if r.quotaMet then .active else .barred }

/-- A record after an amend's groups, in their order, and the quota test (R10, R11). -/
def Record.amended (r : Record) (groups : List Group) : Record := (groups.foldl applyGroup r).amendTest

/-- The amend is an administrative change: it holds a group other than X=1, or the test changed the
service state (R10, R11). -/
def Record.amendNotes (r : Record) (groups : List Group) : Bool :=
  groups.any (fun g => decide (g ≠ .clearLimit)) ||
    decide ((r.amended groups).admin.service ≠ r.admin.service)

/-- An amend of a FOUND record (R11, R96). -/
def Stn.amendFound (s : Stn) (r : Record) (groups : List Group) : Stn × Result :=
  let s1 := s.updRec r.admin.sub fun x => x.amended groups
  (if r.amendNotes groups then s1.handMirror r.admin.sub else s1, .reply replyO)

/-- A service state is set, with a note when it changes (R9). -/
def Stn.moveService (s : Stn) (r : Record) (v : Service) : Stn :=
  if r.admin.service = v then s else s.setService r.admin.sub v

/-- A suspend of a FOUND record (R9, R96). -/
def Stn.suspendFound (s : Stn) (r : Record) : Stn × Result :=
  (s.moveService r .suspended, .reply replyO)

/-- The service state a resume gives (R9). -/
def Record.resumed (r : Record) : Service :=
  match r.admin.service with
  | .active => .active
  | _ => if r.quotaMet then .active else .barred

/-- A resume of a FOUND record (R9, R96). -/
def Stn.resumeFound (s : Stn) (r : Record) : Stn × Result := (s.moveService r r.resumed, .reply replyO)

/-- A withdraw of a FOUND record (R97, R184). -/
def Stn.withdrawFound (s : Stn) (r : Record) : Stn × Result :=
  match s.withdraw r with
  | .ok s' => (s', .reply replyO)
  | .error w => (s, refused w)

/-- A meter read of a FOUND record; it makes no roll (R97). -/
def Stn.meterReadFound (s : Stn) (r : Record) : Stn × Result :=
  (s, .reply (replyV r.admin.quota r.meter))

/-- An enrol whose lookup is ABSENT (R3, R7, R96). -/
def Stn.enrolAbsent (s : Stn) (h : Station) (a : Admin) : Stn × Result :=
  if (s.recAt? a.addr).isSome then (s, refused .existing)
  else if Config.tableCap ≤ s.subs.active.length then (s, refused .tableFull)
  else
    let r : Record :=
      { admin := a, origin := if h = s.self then .home else .adopted, home := h, returning := false,
        nextTag := 0, queue := [], lastZone := none, meter := MeterFields.zero s.bill.period }
    ((s.insertRec r).handMirror a.sub, .reply replyO)

/-- A request by subscriber number at the station that executes it (R93). A FORWARD for a number that no
range holds, on which the spec is silent, is answered UNKNOWN SUBSCRIBER (DESIGN CHOICE, log 11). -/
def Stn.serve (s : Stn) (sub : Nat) (onFound : Record → Stn × Result)
    (onAbsent : Station → Stn × Result) : Stn × Result :=
  match s.cust.state with
  | .joining => (s, .notYet)
  | _ =>
    match s.homeOf sub with
    | none => (s, refused .unknownSubscriber)
    | some h =>
      match s.lookup sub h with
      | .found => match s.rec? sub with
        | some r => onFound r
        | none => (s, .notYet)
      | .notYet => (s, .notYet)
      | .moved m => (s, .moved m)
      | .noService => (s, refused .noService)
      | .absent =>
        if s.cust.state = .reclaiming ∧ h = s.self then (s, .notYet) else onAbsent h

/-- The result of every kind but enrol on ABSENT (R93). -/
def Stn.unknownSub (s : Stn) (_ : Station) : Stn × Result := (s, refused .unknownSubscriber)

/-- The result of a query (R95). A FORWARDed query whose receipt names another station, on which the spec is
silent, is answered by the serial alone (DESIGN CHOICE, log 11). -/
def Stn.queryResult (s : Stn) (k : Station) (serial : Serial) : Result :=
  match s.msg? serial with
  | some m => .reply (replyD k serial m.state.text)
  | none =>
    match s.outcome? serial with
    | some o => .reply (replyD k serial o.text)
    | none => refused .unknownReceipt

/-- A cancel executed at the receipt's station (R95, R117). A FORWARDed cancel whose receipt names another
station, on which the spec is silent, is executed by the serial alone (DESIGN CHOICE, log 11). -/
def Stn.cancelHere (s : Stn) (k : Station) (serial : Serial) : Stn × Result :=
  let (s', d) := s.cancel serial
  (s', match d with
    | .cancelled => .reply (replyD k serial Outcome.cancelled.text)
    | .tooLate o => .reply (replyTooLate o)
    | .absent => refused .unknownReceipt)

/-- A request by receipt; in JOINING it is NOT YET (R93). -/
def Stn.serveReceipt (s : Stn) (f : Stn × Result) : Stn × Result :=
  match s.cust.state with
  | .joining => (s, .notYet)
  | _ => f

/-! ### Status (R99, R205) -/

/-- A number of a count. -/
def countText (c : Count) : List Byte := dec c.toNat

/-- A map field of the status reply (R205). -/
def Stn.mapField (s : Stn) (k : Station) : List Byte :=
  hexChar k.val :: str "=" ++ (s.view k).text ++ str ":" ++ (match s.custodian k with
    | some c => [hexChar c.val]
    | none => str "N")

/-- The counts of the status reply in their order (R99). -/
def Stn.counts (s : Stn) : List Count :=
  (s.intake.lines.toList.flatMap fun x => [x.overrun, x.parityFraming, x.damagedEntries, x.orphans]) ++
  [s.bus.damaged, s.bus.foreign, s.bus.resent, s.bus.failed, s.bus.lateAnswers,
   s.air.claimsLost, s.air.forfeits, s.air.framesAbstained,
   s.ret.badChecks, s.ret.suppressed, s.ret.foreign, s.ret.stale, s.ret.late,
   s.bill.blocksSent, s.bill.entriesLimited]

/-- The unit totals in their order (R99). -/
def Stn.totals (s : Stn) : List Total :=
  [s.meter.charged, s.meter.billed, s.meter.unmetered, s.meter.returnedIn, s.meter.returnedOut]

/-- The status reply (R99, R205). -/
def Stn.statusText (s : Stn) : List Byte :=
  str "T/" ++ joinFields
    ([[hexChar s.self.val], s.cust.state.text, dec s.air.frame.toNat, dec s.bill.period.toNat,
      bitText s.draining, bitText s.subs.standbyComplete] ++
     s.roster.map s.mapField ++ s.counts.map countText ++ s.totals.map fun t => dec t.toNat)

/-- The counts of a line cleared (R79, R99). -/
def Line.clearCounts (x : Line) : Line :=
  { x with overrun := 0, parityFraming := 0, damagedEntries := 0, orphans := 0 }

/-- Every count cleared; unit totals, views and custodians stay (R99). -/
def Stn.clearCounts (s : Stn) : Stn :=
  { s with
    intake.lines := s.intake.lines.map Line.clearCounts,
    bus.damaged := 0, bus.foreign := 0, bus.resent := 0, bus.failed := 0, bus.lateAnswers := 0,
    air.claimsLost := 0, air.forfeits := 0, air.framesAbstained := 0,
    ret.badChecks := 0, ret.suppressed := 0, ret.foreign := 0, ret.stale := 0, ret.late := 0,
    bill.blocksSent := 0, bill.entriesLimited := 0 }

/-- The execution of a request at this station (section 5.4). -/
def Stn.execute (s : Stn) : Request → Stn × Result
  | .submit sub p body => s.serve sub (fun r => s.submitFound r p body) s.unknownSub
  | .cancel k serial => s.serveReceipt (s.cancelHere k serial)
  | .query k serial => s.serveReceipt (s, s.queryResult k serial)
  | .enrol sub addr cls t p z q n =>
    s.serve sub (fun _ => (s, refused .existing)) fun h =>
      s.enrolAbsent h { sub := sub, addr := addr, pagerClass := cls, tariff := t, plan := p, zones := z,
                        service := .active, quota := q, threshold := n }
  | .amend sub groups => s.serve sub (fun r => s.amendFound r groups) s.unknownSub
  | .suspend sub => s.serve sub s.suspendFound s.unknownSub
  | .resume sub => s.serve sub s.resumeFound s.unknownSub
  | .withdraw sub => s.serve sub s.withdrawFound s.unknownSub
  | .meterRead sub => s.serve sub s.meterReadFound s.unknownSub
  | .periodClose => match s.periodClose with
    | .ok s' => (s', .reply replyO)
    | .error w => (s, refused w)
  | .status clear => (if clear then s.clearCounts else s, .reply s.statusText)

/-! ### The pending request table -/

/-- An entry is freed (R100). -/
def Stn.freePend (s : Stn) (tag : Tag) : Stn :=
  { s with req.pend := s.req.pend.filter (fun e => decide (e.tag ≠ tag)),
           req.holdOrder := s.req.holdOrder.filter (· ≠ tag) }

/-- A pending entry is free (R82). -/
def Stn.pendFree (s : Stn) : Bool := decide (s.req.pend.length < Config.pendingCap)

/-- A reply offered to its line (R74). -/
def Stn.offer (s : Stn) (l : LineNo) (c : CtxNo) (gen : BitVec 8) (text : List Byte) : Stn :=
  match (s.line l).judge c gen with
  | .accepted => s.updLine l fun x => x.enqueue c gen text
  | _ => s

/-- A request that has its reply is finished by offering it to its line (R100). -/
def Stn.finish (s : Stn) (tag : Tag) (text : List Byte) : Stn :=
  match s.pend? tag with
  | none => s
  | some e =>
    match (s.line e.line).judge e.ctx e.gen with
    | .refused =>
      { s.updPend tag fun e => { e with state := .holding text } with
        req.holdOrder := s.req.holdOrder ++ [tag] }
    | _ => (s.offer e.line e.ctx e.gen text).freePend tag

/-- The FORWARD of an entry leaves the outbox, which counts no failure (R91, R92). -/
def Stn.dropForward (s : Stn) (tag : Tag) : Stn :=
  { s with bus.outbox := s.bus.outbox.filter fun n => !isForwardOf tag n }

/-! ### Route cache (R88) -/

/-- A subscriber number is installed with its station. -/
def installCache (cache : List (Nat × Station)) (sub : Nat) (m : Station) : List (Nat × Station) :=
  let others := cache.filter fun e => decide (e.1 ≠ sub)
  (if Config.cacheCap ≤ others.length then others.drop (others.length + 1 - Config.cacheCap) else others)
    ++ [(sub, m)]

/-- The cached station of a subscriber number. -/
def Stn.cached? (s : Stn) (sub : Nat) : Option Station :=
  (s.req.cache.find? fun e => decide (e.1 = sub)).map (·.2)

/-- The subscriber number of a request that is routed by one (R86). -/
def requestSub : Request → Option Nat
  | .submit sub .. | .enrol sub .. | .amend sub _ | .suspend sub | .resume sub | .withdraw sub
  | .meterRead sub => some sub
  | _ => none

/-! ### Routing (R86, R87) -/

/-- Where routing leads. -/
inductive Routing where
  | refuse (w : Word)
  | to (route : Route) (target : Station)
deriving DecidableEq, Repr

/-- The routing of a request by subscriber number (R86). -/
def Stn.routeSub (s : Stn) (sub : Nat) : Routing :=
  match s.homeOf sub with
  | none => .refuse .unknownSubscriber
  | some h =>
    match s.cached? sub with
    | some m => .to (.home h) m
    | none =>
      match s.custodian h with
      | some m => .to (.home h) m
      | none => .refuse .noService

/-- The routing of a cancel or query (R87). -/
def Stn.routeReceipt (s : Stn) (k : Station) : Routing :=
  if inSet s.img.roster k = false then .refuse .unknownReceipt
  else if k = s.self then .to (.receipt k) k
  else
    match s.view k with
    | .live | .reclaiming => .to (.receipt k) k
    | _ => .refuse .unknownReceipt

/-- The routing of a request (R86, R87). -/
def Stn.routing (s : Stn) : Request → Routing
  | .submit sub .. | .enrol sub .. | .amend sub _ | .suspend sub | .resume sub | .withdraw sub
  | .meterRead sub => s.routeSub sub
  | .cancel k _ | .query k _ => s.routeReceipt k
  | .periodClose | .status _ => .to .here s.self

/-- A status request is executed in JOINING too (R87, R99). -/
def isStatus : Request → Bool
  | .status _ => true
  | _ => false

/-- NOT YET or MOVED: the entry is deferred, or finished at its fourth deferral (R91). -/
def Stn.defer (s : Stn) (tag : Tag) : Stn :=
  match s.pend? tag with
  | none => s
  | some e =>
    if e.deferrals < Config.deferralCap then
      s.updPend tag fun e => { e with state := .deferred, deferrals := e.deferrals + 1, wait := 0 }
    else s.finish tag (refusal .retry)

/-- The result of an execution is applied to an entry (R90, R91). -/
def Stn.applyResult (s : Stn) (tag : Tag) : Result → Stn
  | .reply text => s.finish tag text
  | .notYet => s.defer tag
  | .moved m =>
    match (s.pend? tag).bind fun e => e.request.bind requestSub with
    | some sub => { s with req.cache := installCache s.req.cache sub m }.defer tag
    | none => s.defer tag

/-- An entry whose request is to be executed at this station: at once, or LOCAL in JOINING (R86, R89). The
outbox places that the execution frees go to the entries that wait, when `w` says (R24). -/
def Stn.runLocal (w : Places) (s : Stn) (tag : Tag) : Stn :=
  match (s.pend? tag).bind (·.request) with
  | none => s
  | some q =>
    if s.cust.state = .joining ∧ isStatus q = false then
      s.updPend tag fun e => { e with state := .localHere, target := some s.self }
    else
      let (s', res) := s.execute q
      (s'.applyResult tag res).givePlacesAt w s

/-- An entry is routed, or routed afresh (R86, R87, R90, R91). One that becomes SENDING offers its FORWARD
behind the entries that wait already (R24). -/
def Stn.routeEntry (s : Stn) (tag : Tag) : Stn :=
  match (s.pend? tag).bind (·.request) with
  | none => s
  | some q =>
    match s.routing q with
    | .refuse w => s.finish tag (refusal w)
    | .to route m =>
      let s1 := s.updPend tag fun e => { e with route := route, target := some m }
      if m = s.self then s1.runLocal .atOnce tag
      else (s1.updPend tag fun e => { e with state := .sending, wait := 0 }).offerWaiting

/-- The hand-off of a closed entry: a pending entry and a request tag are taken, and the entry is refused
or routed in the same event (R82, R83). -/
def Stn.handOff (s : Stn) (l : LineNo) (c : CtxNo) (text : List Byte) (parsed : Except Word Request) :
    Stn :=
  let tag := firstFree (Config.pendingCap + 1) s.req.tagCounter (s.req.pend.map (·.tag))
  let e : PendEntry :=
    { line := l, ctx := c, gen := ((s.line l).ctx c).gen, role := (s.lineSettings l).role, text := text,
      request := parsed.toOption, tag := tag, route := .here, target := none, state := .localHere,
      deferrals := 0, rounds := 0, wait := 0 }
  let s1 := { s with req.pend := s.req.pend ++ [e], req.tagCounter := tag + 1 }
  match parsed with
  | .error w => s1.finish tag (refusal w)
  | .ok _ => s1.routeEntry tag

/-- The assembler takes the terminator of a COLLECTING context and hands the entry over (R73). -/
def Stn.takeHandOver (s : Stn) (l : LineNo) : Stn :=
  match (s.line l).atEnd s.offline with
  | .handOver c =>
    let text := ((s.line l).ctx c).buffer
    (s.updLine l fun x => x.takeHead fun y => y.updCtx c fun k =>
      { k with state := .awaiting, buffer := [] }).handOff l c text
      (parseEntry (s.lineSettings l).role text)
  | _ => s

/-- Freed pending entries go to the lines of the waiting order in turn (R69). -/
def Stn.serveWaiting : Nat → Stn → Stn
  | 0, s => s
  | fuel + 1, s =>
    match s.intake.waiting with
    | [] => s
    | l :: rest =>
      if s.pendFree then
        Stn.serveWaiting fuel ({ s with intake.waiting := rest }.takeHandOver l)
      else s

/-- The end of an event in which pending entries may have been freed (R69). -/
def Stn.settled (s : Stn) : Stn := Stn.serveWaiting s.intake.waiting.length s

/-- The end of an event that began in `before` and may have freed outbox places and pending entries (R24,
R69). -/
def Stn.settledFrom (s before : Stn) : Stn := (s.givePlaces before).settled

/-- The held replies of a line, oldest first, until one is refused (R101). -/
def Stn.offerHeld : List Tag → LineNo → Stn → Stn
  | [], _, s => s
  | tag :: rest, l, s =>
    match s.pend? tag with
    | some e =>
      match e.state with
      | .holding text =>
        if e.line = l then
          match (s.line l).judge e.ctx e.gen with
          | .refused => s
          | _ => Stn.offerHeld rest l ((s.offer l e.ctx e.gen text).freePend tag)
        else Stn.offerHeld rest l s
      | _ => Stn.offerHeld rest l s
    | none => Stn.offerHeld rest l s

/-- A place of a line's reply queue has freed: first the assembler's own refusal, then, where a place is
still free, the held replies (R74, R101). -/
def Stn.replyPlaceFreed (s : Stn) (l : LineNo) : Stn :=
  let s1 := if s.refusalWaits l && (s.line l).replyRoom then s.takeRefusal l else s
  if (s1.line l).replyRoom then Stn.offerHeld s1.req.holdOrder l s1 else s1

/-! ### Requests brought by a context or by a peer -/

/-- The field tests of the parse (R84, R85) on a request given by its fields: the refusal of one that no
entry text reads as. -/
def fieldRefusal : Request → Option Word
  | .submit sub _ body =>
    if Config.subscriberLimit ≤ sub then some .badSyntax
    else if 1 ≤ body.length ∧ body.length ≤ 200 then none
    else some .badBody
  | .enrol sub _ _ _ _ zones _ _ =>
    if Config.subscriberLimit ≤ sub ∨ zones = 0 then some .badSyntax else none
  | .amend sub groups =>
    if Config.subscriberLimit ≤ sub ∨ groups.length < 1 ∨ 8 < groups.length ∨
        groups.contains (.zones 0) = true then some .badSyntax else none
  | .suspend sub | .resume sub | .withdraw sub | .meterRead sub =>
    if Config.subscriberLimit ≤ sub then some .badSyntax else none
  | .cancel .. | .query .. | .periodClose | .status _ => none

/-- A request given by its fields, as the parse of R83 judges it on a line of a role. -/
def admitted (role : Role) (q : Request) : Except Word Request :=
  if (requestKind q).permitted role then
    match fieldRefusal q with
    | some w => .error w
    | none => .ok q
  else .error .notPermitted

/-- An ANSWER is handed to the Bus Unit; it never enters the outbox while the map views its addressee SILENT
or FAILED (R24, R34). -/
def Stn.handAnswer (s : Stn) (k : Station) (tag : Tag) (res : Result) : Stn :=
  if (s.view k).down then s else s.pushNote (Note.fresh k (.answer tag res) .here .none)

/-- A FORWARD acted on here for peer k: the ANSWER takes its place in the outbox ahead of every note the
execution hands (R28, R93). The requests that are local to a station are not forwarded (R87); a FORWARD
that holds one, or whose text no line would have passed, is answered with the parse's refusal
(DESIGN CHOICE, log 11). -/
def Stn.answerFor (s : Stn) (k : Station) (tag : Tag) (parsed : Except Word Request) : Stn :=
  match parsed with
  | .error w => s.handAnswer k tag (refused w)
  | .ok .periodClose | .ok (.status _) => s.handAnswer k tag (refused .badSyntax)
  | .ok q => ((s.handAnswer k tag (s.execute q).2).execute q).1

/-- Context c is the current context of line l and collects an entry (R71, R73). -/
def Stn.collecting (s : Stn) (l : LineNo) (c : CtxNo) : Bool :=
  decide ((s.line l).current = some c ∧ ((s.line l).ctx c).state = .collecting)

/-- A request that a context's closed entry brings: the context is current and COLLECTING, and a pending entry
is free (R73, R82, R83). The model's choice (log 5, log 10): in any other state nothing happens and the line
does not join the waiting order; no terminator is taken; and the text of the request's fields stands for the
context's buffer, which is emptied. -/
def Stn.bringByContext (s : Stn) (l : LineNo) (c : CtxNo) (q : Request) : Stn :=
  if s.ctl.phase = .closed ∧ s.collecting l c = true ∧ s.pendFree = true then
    let s1 := s.updLine l fun x => x.updCtx c fun k => { k with state := .awaiting, buffer := [] }
    (s1.handOff l c (requestText q) (admitted (s.lineSettings l).role q)).settled
  else s

/-- A request brought by its requester (section 5.4). The outbox places that the execution for a peer frees go to
the entries that wait (R24). -/
def Stn.bring (s : Stn) (who : Requester) (q : Request) : Stn :=
  match who with
  | .context l c => s.bringByContext l c q
  | .peer k tag =>
    if s.ctl.phase = .closed ∧ k ≠ s.self ∧ inSet s.img.roster k = true ∧ s.outboxFree = true then
      (s.answerFor k tag (admitted .operator q)).givePlaces s
    else s

/-! ### The commands -/

/-- SUBMIT (R94). -/
def execSubmit (who : Requester) (sub : Nat) (p : Priority) (body : List Byte) (s : State) :
    Host.Outcome State Fault Refusal :=
  .next { s with stn := s.stn.bring who (.submit sub p body) }

/-- CANCEL (R117). -/
def execCancel (who : Requester) (k : Station) (serial : Serial) (s : State) :
    Host.Outcome State Fault Refusal :=
  .next { s with stn := s.stn.bring who (.cancel k serial) }

/-- QUERY (R95). -/
def execQuery (who : Requester) (k : Station) (serial : Serial) (s : State) :
    Host.Outcome State Fault Refusal :=
  .next { s with stn := s.stn.bring who (.query k serial) }

/-- ENROL (R7). -/
def execEnrol (who : Requester) (sub : Nat) (addr : PagerAddr) (cls : PagerClass) (t p : Fin 8)
    (z : ZoneSet) (q n : Option (BitVec 32)) (s : State) : Host.Outcome State Fault Refusal :=
  .next { s with stn := s.stn.bring who (.enrol sub addr cls t p z q n) }

/-- AMEND (R11). -/
def execAmend (who : Requester) (sub : Nat) (groups : List Group) (s : State) :
    Host.Outcome State Fault Refusal :=
  .next { s with stn := s.stn.bring who (.amend sub groups) }

/-- SUSPEND (R9). -/
def execSuspend (who : Requester) (sub : Nat) (s : State) : Host.Outcome State Fault Refusal :=
  .next { s with stn := s.stn.bring who (.suspend sub) }

/-- RESUME (R9). -/
def execResume (who : Requester) (sub : Nat) (s : State) : Host.Outcome State Fault Refusal :=
  .next { s with stn := s.stn.bring who (.resume sub) }

/-- WITHDRAW (R184). -/
def execWithdraw (who : Requester) (sub : Nat) (s : State) : Host.Outcome State Fault Refusal :=
  .next { s with stn := s.stn.bring who (.withdraw sub) }

/-- METER_READ (R97). -/
def execMeterRead (who : Requester) (sub : Nat) (s : State) : Host.Outcome State Fault Refusal :=
  .next { s with stn := s.stn.bring who (.meterRead sub) }

/-- PERIOD_CLOSE (R98, R176). -/
def execPeriodClose (l : LineNo) (c : CtxNo) (s : State) : Host.Outcome State Fault Refusal :=
  .next { s with stn := s.stn.bringByContext l c .periodClose }

/-- STATUS (R99). -/
def execStatus (l : LineNo) (c : CtxNo) (s : State) : Host.Outcome State Fault Refusal :=
  .next { s with stn := s.stn.bringByContext l c (.status false) }

/-- STATUS_CLEAR (R99). -/
def execStatusClear (l : LineNo) (c : CtxNo) (s : State) : Host.Outcome State Fault Refusal :=
  .next { s with stn := s.stn.bringByContext l c (.status true) }

end Sys2Proof.Machine
end

