-- ==== Sys2Proof/Machine/Assembler.lean ====
section
/-!
DEFINITION. The commands of the Intake Unit (chapter 4): reception, break, the assembler's characters, the
terminator, the transmitter and the held replies.
-/

namespace Sys2Proof.Machine

/-- A mark character that selects a context (R70). -/
def FifoEntry.selects (e : FifoEntry) : Bool := e.mark && decide (e.value.toNat ≤ 0x0F)

/-- A mark character that abandons a context (R70). -/
def FifoEntry.abandons (e : FifoEntry) : Bool :=
  e.mark && decide (0x80 ≤ e.value.toNat ∧ e.value.toNat ≤ 0x8F)

/-- A mark character of any other value (R70). -/
def FifoEntry.isOrphan (e : FifoEntry) : Bool := e.mark && !e.selects && !e.abandons

/-- A data character other than the terminator (R72). -/
def FifoEntry.isData (e : FifoEntry) : Bool := !e.mark && decide (e.value ≠ terminatorByte)

/-- The context a mark character names (R70). -/
def FifoEntry.ctx (e : FifoEntry) : CtxNo := Fin.ofNat 16 e.value.toNat

/-- The oldest FIFO entry, where it is of a kind, is taken and acted on (R65, R68); nothing happens where
it is of another kind or the FIFO is empty (log 5). -/
def Stn.assemble (s : Stn) (l : LineNo) (p : FifoEntry → Bool) (act : FifoEntry → Line → Line) : Stn :=
  match (s.line l).fifo with
  | e :: _ =>
    if s.linesUp && p e then s.updLine l fun x => x.takeHead (act e) else s
  | [] => s

/-- A received character at its stop bit (R63). -/
def Stn.receive (s : Stn) (l : LineNo) (value : Byte) (mark parityBit stopBit : Bool) : Stn :=
  if s.linesUp then
    s.updLine l fun x =>
      if stopBit && parityRight (s.lineSettings l).parity value mark parityBit then x.addChar value mark
      else x.badChar
  else s

/-- A break on a line (R67). -/
def Stn.breakLine (s : Stn) (l : LineNo) : Stn :=
  if s.linesUp then
    { s.updLine l Line.broken with intake.waiting := s.intake.waiting.filter fun k => decide (k ≠ l) }
  else s

/-- A line joins the waiting order, once (R69). -/
def joinWaiting (w : List LineNo) (l : LineNo) : List LineNo := if w.contains l then w else w ++ [l]

/-- The assembler meets a terminator: taken when its need is met, else the line stops (R68, R69, R73). -/
def Stn.meetTerminator (s : Stn) (l : LineNo) : Stn :=
  if s.linesUp && (s.line l).atTerminator then
    match (s.line l).atEnd s.offline with
    | .discard orphan =>
      s.updLine l fun x => x.takeHead fun y => if orphan then y.orphan else y
    | .handOver _ =>
      if s.pendFree then (s.takeHandOver l).settled
      else { s with intake.waiting := joinWaiting s.intake.waiting l }
    | .refuse .. => if (s.line l).replyRoom then s.takeRefusal l else s
  else s

/-- The free transmitter takes the oldest reply whose generation is its context's; the places of those it
discards are given on (R74, R75, R101). -/
def Stn.transmit (s : Stn) (l : LineNo) : Stn :=
  if s.linesUp && decide ((s.line l).sending = none) then
    let s1 := s.updLine l (Line.startReply (s.lineSettings l).parity)
    if (s1.line l).replies.length < (s.line l).replies.length then (s1.replyPlaceFreed l).settled else s1
  else s

/-- The reply under transmission has been sent and leaves the queue (R75). -/
def Stn.replyDone (s : Stn) (l : LineNo) : Stn :=
  if (s.line l).sending = none then s
  else
    ((s.updLine l fun x => { x with replies := x.replies.drop 1, sending := none }).replyPlaceFreed
      l).settled

/-! ### The commands -/

/-- CHARACTER_RECEIVED (R63). -/
def execCharacterReceived (l : LineNo) (value : Byte) (mark parityBit stopBit : Bool) (s : State) :
    Host.Outcome State Fault Refusal :=
  .next { s with stn := s.stn.receive l value mark parityBit stopBit }

/-- BREAK (R67). -/
def execLineBreak (l : LineNo) (s : State) : Host.Outcome State Fault Refusal :=
  .next { s with stn := s.stn.breakLine l }

/-- MARK_SELECT (R70). -/
def execMarkSelect (l : LineNo) (s : State) : Host.Outcome State Fault Refusal :=
  .next { s with stn := s.stn.assemble l FifoEntry.selects fun e x => { x with current := some e.ctx } }

/-- MARK_ABANDON (R70). -/
def execMarkAbandon (l : LineNo) (s : State) : Host.Outcome State Fault Refusal :=
  .next { s with stn := s.stn.assemble l FifoEntry.abandons fun e x => x.abandon e.ctx }

/-- ORPHAN_MARK (R70). -/
def execOrphanMark (l : LineNo) (s : State) : Host.Outcome State Fault Refusal :=
  .next { s with stn := s.stn.assemble l FifoEntry.isOrphan fun _ x => x.orphan }

/-- DATA_CHARACTER (R72). -/
def execDataCharacter (l : LineNo) (s : State) : Host.Outcome State Fault Refusal :=
  .next { s with stn := s.stn.assemble l FifoEntry.isData fun e x => x.takeData e.value }

/-- TERMINATOR (R73). -/
def execTerminator (l : LineNo) (s : State) : Host.Outcome State Fault Refusal :=
  .next { s with stn := s.stn.meetTerminator l }

/-- REPLY_TRANSMIT_START (R75). -/
def execReplyTransmitStart (l : LineNo) (s : State) : Host.Outcome State Fault Refusal :=
  .next { s with stn := s.stn.transmit l }

/-- REPLY_SENT (R75). -/
def execReplySent (l : LineNo) (s : State) : Host.Outcome State Fault Refusal :=
  .next { s with stn := s.stn.replyDone l }

/-- HELD_REPLY_OFFER (R101): a place of the line's reply queue is free and the assembler's refusal does not
take it. -/
def execHeldReplyOffer (l : LineNo) (s : State) : Host.Outcome State Fault Refusal :=
  .next (if (s.stn.line l).replyRoom && !s.stn.refusalWaits l then
      { s with stn := (Stn.offerHeld s.stn.req.holdOrder l s.stn).settled }
    else s)

end Sys2Proof.Machine
end

