-- ==== Sys2Proof/Machine/Custody.lean ====
section
/-!
DEFINITION. The Custody Unit (chapter 3) and what follows for notes when an addressee changes (R32 to R35):
custodian and view changes, double failure, the return and mirror walks, adoption, entry into LIVE and
stand-down.
-/

namespace Sys2Proof.Machine

/-! ### The mirror walk starts (R58) -/

/-- The mirror walk starts; a RUNNING one is aborted first (R58, R60). -/
def Stn.startMirror (s : Stn) : Stn :=
  match s.subs.mirror with
  | .running .. =>
    { s with bus.outbox := s.bus.outbox.filter (fun n => !n.body.isMirror),
             subs.mirror := .running none true false }
  | _ => { s with subs.mirror := .running none true false }

/-! ### Custodian changes (R32, R39, R41) -/

/-- A home-routed FORWARD, or an entry that waits in SENDING with no note, meets the present custodian of
its home station (R32, R90). A note re-addressed to a station viewed SILENT or FOREIGN stays unheld until a
rule of R33 sets its mark: R32 clears the mark, and R33's list names no re-address (DESIGN CHOICE, log 17). The
place of a note handed back for execution goes to the entries that wait before the execution, but while a VALID
frame is handled: there it stays free for the execution, and goes to them when the handling ends (R24; log 5). -/
def Stn.redirect (w : Places) (s : Stn) (h : Station) (tag : Tag) : Stn :=
  match s.custodian h with
  | none => (s.dropForward tag).finish tag (refusal .noService)
  | some m =>
    if m = s.self then
      let s1 := (s.dropForward tag).updPend tag fun e => { e with state := .localHere }
      (s1.givePlacesAt w s).runLocal w tag
    else
      let outbox := updWhere (isForwardOf tag)
        (fun n => { n with dest := m, serial := none, sends := 0, held := false, awaiting := false,
                           stale := false }) s.bus.outbox
      { s with bus.outbox := outbox }.updPend tag fun e => { e with target := some m }

/-- The request tag of a FORWARD. -/
def Note.forwardTag? (n : Note) : Option Tag :=
  match n.body with
  | .forward tag _ => some tag
  | _ => none

/-- The tags of the notes that a custodian change of h reaches at once: FORWARDs that are DUE, in age
order (R32). -/
def Stn.dueHome (s : Stn) (h : Station) : List Tag :=
  (s.bus.outbox.filter fun n => decide (n.route = .home h) && !n.awaiting).filterMap Note.forwardTag?

/-- The tags of the entries routed by h that wait in SENDING with no note (R90). -/
def Stn.waitingHome (s : Stn) (h : Station) : List Tag :=
  (s.req.pend.filter fun e => decide (e.route = .home h) && s.waitsForPlace e).map (·.tag)

/-- custodian[h] has changed: the route cache is emptied, and the requests routed by h are re-addressed,
executed here or refused; a note AWAITING TAKE is handled when it becomes DUE (R32, R39, R88). The spec gives
no order among the requests of one change: the DUE FORWARDs are handled in age order, then the entries that
wait with no note in the order of their hand-offs (DESIGN CHOICE, log 17). -/
def Stn.custodianChanged (w : Places) (s : Stn) (h : Station) : Stn :=
  let tags := s.dueHome h ++ s.waitingHome h
  let outbox := updWhere (fun n => decide (n.route = .home h) && n.body.isForward && n.awaiting)
    (fun n => { n with stale := true }) s.bus.outbox
  tags.foldl (fun s t => s.redirect w h t) { s with bus.outbox := outbox, req.cache := [] }

/-- custodian[h] becomes c, and the change is handed out (R39). -/
def Stn.changeCustodian (w : Places) (s : Stn) (h : Station) (c : Option Station) : Stn :=
  if s.custodian h = c then s
  else (s.updEntry h fun e => { e with custodian := c }).custodianChanged w h

/-- custodian[h] becomes c. A LIVE station whose own custodian has become NONE then becomes its own custodian,
which is a change of its own (R41, R42). -/
def Stn.setCustodian (w : Places) (s : Stn) (h : Station) (c : Option Station) : Stn :=
  let s1 := s.changeCustodian w h c
  if c = none ∧ h = s1.self ∧ s1.cust.state = .live then s1.changeCustodian w h (some s1.self) else s1

/-! ### The return walk (section 3.5) -/

/-- Every returned mark is cleared (R15, R53). -/
def Stn.clearReturned (s : Stn) : Stn :=
  let standby := updWhere (fun (b : StandbyRec) => decide (b.mark = .returned))
    (fun b => { b with mark := .plain }) s.subs.standby
  { s with subs.standby := standby }

/-- What an abort of the return walk does to its records and notes (R27, R56). -/
def Stn.clearReturnWalk (s : Stn) : Stn :=
  { s with subs.active := s.subs.active.map (fun r => { r with returning := false }),
           bus.outbox := s.bus.outbox.filter (fun n => decide (n.walk ≠ .ret)),
           subs.ret := .idle }

/-- A RUNNING return walk is aborted and the grant released (R56). -/
def Stn.abortReturn (s : Stn) : Stn :=
  match s.subs.ret with
  | .running .. => s.clearReturnWalk.releaseGrant
  | _ => s

/-- The return walk for the ward is requested (R18, R53). A RUNNING walk is aborted first, which releases its
grant, to a pending close if there is one (R56, R178). -/
def Stn.requestReturn (w : Places) (s : Stn) : Stn :=
  let s1 := { s with cust.retryDelay := none }
  let s2 := if inSet s1.cust.custody s1.ward then s1
    else { s1 with cust.custody := setAdd s1.cust.custody s1.ward }.setCustodian w s1.ward (some s1.self)
  let s3 := s2.abortReturn
  match s3.subs.grant with
  | .nobody => s3.startReturn
  | _ => { s3 with subs.ret := .waiting }

/-! ### Views (R38, R39) -/

/-- The station becomes LIVE, but for the check that follows a change of the own view (R41, R50, R58). -/
def Stn.becomeLive (w : Places) (s : Stn) : Stn :=
  let s1 := { s with cust.state := .live }
  let s2 := if s1.custodian s1.self = none then s1.setCustodian w s1.self (some s1.self) else s1
  if s2.view s2.buddy = .live then s2.startMirror else s2

/-- Notes of a kind other than FORWARD to a station viewed SILENT or FAILED are dropped and counted, and
the walk they belong to is aborted (R34). -/
def Stn.dropNotes (s : Stn) (k : Station) : Stn :=
  let gone := s.bus.outbox.filter fun n => decide (n.dest = k) && !n.body.isForward
  let s1 := { s with
    bus.outbox := s.bus.outbox.filter (fun n => !(decide (n.dest = k) && !n.body.isForward)),
    bus.failed := gone.foldl (fun c _ => satInc c) s.bus.failed }
  let s2 := if gone.any (fun n => n.body.isReturn) then s1.abortReturn else s1
  match s2.subs.mirror with
  | .running .. => if gone.any (fun n => n.body.isMirror) then s2.mirrorToRestart else s2
  | _ => s2

/-- Receipt-routed FORWARDs to a station viewed FAILED: those DUE are removed and answered, those AWAITING
TAKE are handled at their next lack of take (R32). An entry that waits in SENDING with no note, of which R90
says nothing under FAILED, is answered as a DUE note is, after the notes (DESIGN CHOICE, log 17). -/
def Stn.loseReceipts (s : Stn) (k : Station) : Stn :=
  let due := (s.bus.outbox.filter fun n => decide (n.route = .receipt k) && !n.awaiting).filterMap
    Note.forwardTag?
  let waiting := (s.req.pend.filter fun e => decide (e.route = .receipt k) && s.waitsForPlace e).map (·.tag)
  let outbox := updWhere (fun n => decide (n.route = .receipt k) && n.body.isForward && n.awaiting)
    (fun n => { n with stale := true }) s.bus.outbox
  (due ++ waiting).foldl (fun s t => (s.dropForward t).finish t (refusal .unknownReceipt))
    { s with bus.outbox := outbox }

/-- The held marks of the FORWARDs to k after its view has changed (R33). A view change to FAILED leaves the marks:
R33 says that R32 then applies, but a home-routed FORWARD to a cached addressee k, whose custodian[h] does not
change with the view of k, is not touched by R32, and R33 does not say whether it is still held. It stays held, and
is finished by a later custodian change or by the overall limit (DESIGN CHOICE, log 17). -/
def Stn.holdNotes (s : Stn) (k : Station) (v : View) : Stn :=
  let outbox := match v with
    | .silent | .foreign =>
      updWhere (fun n => decide (n.dest = k) && n.body.isForward && !n.awaiting)
        (fun n => { n with held := true }) s.bus.outbox
    | .joining | .reclaiming | .live =>
      updWhere (fun n => decide (n.dest = k) && n.body.isForward) (fun n => { n with held := false })
        s.bus.outbox
    | .failed => s.bus.outbox
  { s with bus.outbox := outbox }

/-- What a view change of k, from `old` to v, does to the notes (R33, R34, R32). -/
def Stn.viewNotes (s : Stn) (k : Station) (v : View) : Stn :=
  let s1 := s.holdNotes k v
  let s2 := if v.down then s1.dropNotes k else s1
  if v = .failed then s2.loseReceipts k else s2

/-- What a view change of the ward does to the return walk (R18, R53, R56). -/
def Stn.viewReturn (w : Places) (s : Stn) (k : Station) (old v : View) (episode : Bool) : Stn :=
  if k = s.ward then
    if v.down then
      match s.subs.ret with
      | .waiting => { s with subs.ret := .idle }
      | _ => s.abortReturn
    else if v.heard && decide (old = .silent ∨ old = .foreign) && !episode &&
        inSet s.cust.custody k && decide (s.subs.ret = .idle) then s.requestReturn w
    else s
  else s

/-- What a view change of the buddy does: the mirror walk starts, or a RECLAIMING station that has taken
a RETURN enters LIVE (R50, R58). -/
def Stn.viewBuddy (w : Places) (s : Stn) (k : Station) (v : View) : Stn :=
  if k = s.buddy then
    if v = .live ∧ s.cust.state = .live then s.startMirror
    else if v = .failed ∧ s.cust.state = .reclaiming ∧ s.cust.returnTaken = true then s.becomeLive w
    else s
  else s

/-- The view of a peer k becomes v, but for double failure. `episode` tells a JOINING episode of k, which
requests the return walk by itself (R53). The spec gives no order among the consequences of one change: the
notes come first, then the return walk, then the mirror walk or the entry into LIVE, and double failure last
(DESIGN CHOICE, log 17). -/
def Stn.changeView (w : Places) (s : Stn) (k : Station) (v : View) (episode : Bool) : Stn :=
  if s.view k = v then s
  else
    let s1 := s.updEntry k fun e => { e with view := v }
    ((s1.viewNotes k v).viewReturn w k (s.view k) v episode).viewBuddy w k v

/-- A custodian has failed: every entry whose custodian is j gets NONE (R42), in ascending station number, an
order that the spec leaves open (DESIGN CHOICE, log 17). -/
def Stn.failCustodian (w : Places) (s : Stn) (j : Station) : Stn :=
  s.roster.foldl (fun s h => if s.custodian h = some j then s.setCustodian w h none else s) s

/-- A roster station that is down with a buddy viewed FAILED, and is not yet FAILED with NONE (R42). -/
def Stn.bothDown? (s : Stn) : Option Station :=
  s.roster.find? fun k => decide (k ≠ s.self) && (s.view k).down &&
    decide (s.view (buddyOf s.img.roster k) = .failed) &&
    !decide (s.view k = .failed ∧ s.custodian k = none)

/-- The view of a peer k becomes FAILED where it is not, with the first check of double failure (R42). -/
def Stn.failView (w : Places) (s : Stn) (k : Station) : Stn :=
  if s.view k = .failed then s else (s.changeView w k .failed false).failCustodian w k

/-- The second check of double failure, and what the views it makes FAILED bring in turn (R42). Of several
stations the lowest number comes first, an order that the spec leaves open (DESIGN CHOICE, log 17). -/
def Stn.bothDown (w : Places) : Nat → Stn → Stn
  | 0, s => s
  | fuel + 1, s =>
    match s.bothDown? with
    | none => s
    | some k => Stn.bothDown w fuel ((s.failView w k).setCustodian w k none)

/-- The second check of double failure, after every change of a view in the map, the own entry's included
(R37, R42). The own view is never FAILED, so the first check has no part in its changes. -/
def Stn.doubleFailure (w : Places) (s : Stn) : Stn := Stn.bothDown w 16 s

/-- The station enters LIVE (R41, R50, R58); its own view has changed (R42). -/
def Stn.enterLive (w : Places) (s : Stn) : Stn := (s.becomeLive w).doubleFailure w

/-- The view of a peer k becomes v, with everything that follows (R38, R39, R42), in the order of
`Stn.changeView` and then double failure (DESIGN CHOICE, log 17). -/
def Stn.setView (w : Places) (s : Stn) (k : Station) (v : View) (episode : Bool) : Stn :=
  if s.view k = v then s
  else
    let s1 := s.changeView w k v episode
    (if v = .failed then s1.failCustodian w k else s1).doubleFailure w

/-! ### Declaration and adoption (section 3.3) -/

/-- The quorum count for the ward (R44). -/
def Stn.quorumCount (s : Stn) : Nat :=
  1 + (s.roster.filter fun j => decide (j ≠ s.self ∧ j ≠ s.ward) && (s.view j).heard &&
    (match s.entry? j with
     | some e => inSet e.silence s.ward
     | none => false)).length

/-- The record an adopted standby record becomes (R3, R46). -/
def StandbyRec.adopt (b : StandbyRec) (ward : Station) (p : Period) : Record :=
  { admin := b.admin, origin := .adopted, home := ward, returning := false, nextTag := b.nextTag + 128,
    queue := [], lastZone := none, meter := MeterFields.zero p }

/-- One standby record of the ward is adopted, or stays UNADOPTED (R46). -/
def Stn.adoptOne (s : Stn) (b : StandbyRec) : Stn :=
  if Config.tableCap ≤ s.subs.active.length ∨ (s.recAt? b.admin.addr).isSome = true ∨
      (s.rec? b.admin.sub).isSome = true then
    s.updStandby b.admin.sub fun b => { b with mark := .unadopted }
  else
    { s with subs.standby := s.subs.standby.filter fun x => decide (x.admin.sub ≠ b.admin.sub) }.insertRec
      (b.adopt s.ward s.bill.period)

/-- The end of the declaring window: the ward enters the custody list, its view becomes FAILED, and its
standby records are adopted in ascending subscriber number (R45, R46). -/
def Stn.adopt (s : Stn) : Stn :=
  let s1 := { s with cust.custody := setAdd s.cust.custody s.ward, cust.declaration := .none }
  let s2 := (s1.setCustodian .atOnce s1.ward (some s1.self)).setView .atOnce s1.ward .failed false
  s2.subs.standby.foldl Stn.adoptOne s2

/-- A re-declaration of the ward (R47). -/
def Stn.redeclare (s : Stn) : Stn :=
  let s1 := { s.setView .atOnce s.ward .failed false with cust.retryDelay := none }
  let again := s1.subs.standby.filter fun b => decide (b.mark ≠ .unadopted)
  again.foldl Stn.adoptOne s1.clearReturned

/-- The declaration check of a round end (R44). -/
def Stn.declarationCheck (s : Stn) : Stn :=
  if s.cust.declaration = .none ∧ s.cust.state = .live ∧ inSet s.cust.custody s.ward = false ∧
      s.view s.ward = .silent ∧ s.img.quorum ≤ s.quorumCount then
    { s with cust.declaration := .pending }
  else s

/-- The re-declaration check of a round end (R47). -/
def Stn.redeclarationCheck (s : Stn) : Stn :=
  if inSet s.cust.custody s.ward = true ∧ s.subs.ret = .idle ∧ s.cust.state = .live ∧
      s.view s.ward = .silent ∧ s.img.quorum ≤ s.quorumCount then s.redeclare
  else s

/-! ### Waits kept in rounds (R50, R53, R58) -/

/-- The buddy wait count has run out with a condition of R50 that lets the station enter LIVE. -/
def Stn.buddyWaitOver (s : Stn) : Bool :=
  decide (Config.buddyRounds ≤ s.cust.buddyWait) &&
    (!s.cust.returnTaken || (s.view s.buddy).down)

/-- The buddy wait at a round end in RECLAIMING (R50). -/
def Stn.countBuddyWait (s : Stn) : Stn :=
  if s.cust.state = .reclaiming then
    let n := if s.view s.buddy = .live then 0 else min (s.cust.buddyWait + 1) Config.buddyRounds
    let s1 := { s with cust.buddyWait := n }
    if s1.buddyWaitOver then s1.enterLive .atOnce else s1
  else s

/-- The retry delay has run out: the walk is requested again unless the ward is not heard (R53). -/
def Stn.retryOver (s : Stn) : Stn :=
  let s1 := { s with cust.retryDelay := none }
  if (s1.view s1.ward).heard then s1.requestReturn .atOnce else s1

/-- The retry delay at a round end, while the walk is IDLE (R56). -/
def Stn.countRetry (s : Stn) : Stn :=
  match s.cust.retryDelay with
  | none => s
  | some n =>
    if s.subs.ret = .idle then
      if n ≤ 1 then s.retryOver else { s with cust.retryDelay := some (n - 1) }
    else s

/-- RESTART WAIT has run out (R58). -/
def Stn.restartOver (s : Stn) : Stn :=
  if s.cust.state = .live ∧ s.view s.buddy = .live then s.startMirror
  else { s with subs.mirror := .idle }

/-- RESTART WAIT at a round end (R58, R60). -/
def Stn.countRestart (s : Stn) : Stn :=
  match s.subs.mirror with
  | .restartWait n =>
    if n ≤ 1 then s.restartOver else { s with subs.mirror := .restartWait (n - 1) }
  | _ => s

/-! ### Notes of the walks -/

/-- A note of the return walk is handed; dropped under a SILENT or FAILED view (R24, R34). -/
def Stn.handReturn (s : Stn) (body : NoteBody) : Stn :=
  if (s.view s.ward).down then s.abortReturn
  else s.pushNote (Note.fresh s.ward body .here .ret)

/-- A note of the mirror walk is handed; dropped under a SILENT or FAILED view (R24, R34, R60). -/
def Stn.handMirrorWalk (s : Stn) (body : NoteBody) : Stn :=
  if (s.view s.buddy).down then s.mirrorToRestart
  else s.pushNote (Note.fresh s.buddy body .here .mirror)

/-- The RETURN note of an active record (R54). -/
def Record.returnNote (r : Record) : NoteBody := .ret r.admin r.nextTag r.lastZone r.meter

/-- The RETURN note of a standby record (R55). -/
def StandbyRec.returnNote (b : StandbyRec) (p : Period) : NoteBody :=
  .ret b.admin (b.nextTag + 128) none (MeterFields.zero p)

/-- A RETURN note for a subscriber is in the outbox (R54, R144). -/
def Stn.inTransit (s : Stn) (sub : Nat) : Bool :=
  s.bus.outbox.any fun n => match n.body with
    | .ret a .. => decide (a.sub = sub)
    | _ => false

/-- One visit of phase ADOPTED (R54). -/
def Stn.returnVisit (s : Stn) : Stn :=
  match s.subs.ret with
  | .running .adopted pos =>
    if s.outboxFree && !s.forwardWaits then
      match s.nextReturning pos with
      | none => s.advanceReturn
      | some r =>
        let s1 := { s with subs.ret := .running .adopted (some r.admin.sub) }
        (if r.queue = [] then s1.handReturn r.returnNote else s1).advanceReturn
    else s
  | _ => s

/-- The next standby record of phase STANDBY (R17, R55). -/
def Stn.nextStandby (s : Stn) (pos : Option Nat) : Option StandbyRec :=
  nextAbove (·.admin.sub) (fun b => decide (b.mark ≠ .returned)) pos s.subs.standby

/-- One step of phase STANDBY: a RETURN note, or RETURN END after the last record (R55). -/
def Stn.returnStandbyVisit (s : Stn) : Stn :=
  match s.subs.ret with
  | .running .standby pos =>
    if s.outboxFree && !s.forwardWaits then
      match s.nextStandby pos with
      | some b =>
        { s with subs.ret := .running .standby (some b.admin.sub) }.handReturn (b.returnNote s.bill.period)
      | none => { s with subs.ret := .running .ending none }.handReturn .retEnd
    else s
  | _ => s

/-- One record of the work of REVISIT at a round end (R54). -/
def Stn.revisitOne (s : Stn) (sub : Nat) : Stn :=
  match s.subs.ret, s.rec? sub with
  | .running .revisit _, some r =>
    if r.returning ∧ r.queue = [] ∧ s.inTransit sub = false ∧ s.outboxFree = true ∧
        s.forwardWaits = false then s.handReturn r.returnNote
    else s
  | _, _ => s

/-- The work of REVISIT at a round end, in ascending order (R54). -/
def Stn.revisit (s : Stn) : Stn :=
  ((s.subs.active.map (·.admin.sub)).foldl Stn.revisitOne s).advanceReturn

/-- The return walk has a note to hand or a visit to make for a free place (R24). -/
def Stn.returnWantsPlace (s : Stn) : Bool :=
  match s.subs.ret with
  | .running .adopted _ | .running .standby _ => true
  | _ => false

/-- One step of the mirror walk (R59). -/
def Stn.mirrorStep (s : Stn) : Stn :=
  match s.subs.mirror with
  | .running pos first false =>
    if s.outboxFree && !s.forwardWaits && !s.returnWantsPlace then
      match nextAbove (·.admin.sub) (fun (r : Record) => decide (r.origin = .home)) pos s.subs.active with
      | some r =>
        { s with subs.mirror := .running (some r.admin.sub) false false }.handMirrorWalk
          (.mirror first r.admin r.nextTag)
      | none => { s with subs.mirror := .running pos false true }.handMirrorWalk (.mirrorEnd first)
    else s
  | _ => s

/-- The oldest entry that waits in SENDING with no note offers its FORWARD again (R90). -/
def Stn.reoffer (s : Stn) : Stn :=
  match s.req.pend.find? s.waitsForPlace with
  | some e => s.offerOne e
  | none => s

/-! ### Taken notes of the walks -/

/-- The ward's take of a RETURN note is seen: the record moves to the standby table, or the UNADOPTED copy
takes the returned mark (R15, R54, R55, R171). The record enters although the standby table may hold its 1024
entries: R15 moves it, and no rule says where else it would go (DESIGN CHOICE, log 13). -/
def Stn.returnTakenByWard (s : Stn) (a : Admin) : Stn :=
  match s.rec? a.sub with
  | some r =>
    let b : StandbyRec := { admin := r.admin, nextTag := r.nextTag, mark := .returned }
    let s1 := s.removeRec a.sub
    { s1 with
      subs.standby := insertBy (·.admin.sub) b s1.subs.standby,
      meter.returnedOut := s1.meter.returnedOut + units r.meter.total }.advanceReturn
  | none => s.updStandby a.sub fun b => { b with mark := .returned }

/-- The ward's take of RETURN END is seen (R55); the walk is RUNNING while its notes are in the outbox. -/
def Stn.returnEndTakenByWard (s : Stn) : Stn :=
  match s.subs.ret with
  | .running .. =>
    let s1 := { s with cust.custody := setDel s.cust.custody s.ward }
    { (s1.setCustodian .atEnd s1.ward (some s1.ward)).clearReturned with subs.ret := .idle }.releaseGrant
  | _ => s

/-! ### Stand-down (R52) -/

/-- The Request Unit answers its entries at a stand-down, in the order of their hand-offs (R102). -/
def Stn.retryAll : List PendEntry → Stn → Stn
  | [], s => s
  | e :: rest, s =>
    match e.state with
    | .holding _ => Stn.retryAll rest s
    | _ => Stn.retryAll rest (s.offer e.line e.ctx e.gen (refusal .retry))

/-- Contexts still AWAITING at a stand-down go to IDLE with a new generation (R76). -/
def Line.dropAwaiting (x : Line) : Line :=
  { x with ctxs := x.ctxs.map fun k =>
      if k.state = .awaiting then { state := .idle, buffer := [], gen := k.gen + 1 } else k }

/-- The frames a stand-down marks abstained: the frame in progress, the next, every frame whose map is
held, and the frame whose claims are in progress (R127, R137). -/
def Stn.standDownFrames (s : Stn) : List FrameNo :=
  [s.air.frame, s.air.frame + 1] ++ s.air.maps.map (·.frame) ++ (match s.bus.round with
    | some r => if r.index = 3 then [] else [r.frame + 2]
    | none => [])

/-- A target frame is marked abstained, and counted when first marked (R127). -/
def Stn.abstainFrom (s : Stn) (f : FrameNo) : Stn :=
  if s.air.abstain.contains f then s
  else { s with air.abstain := s.air.abstain ++ [f],
                air.framesAbstained := satInc s.air.framesAbstained }

/-- The Airtime Unit at a stand-down (R137). -/
def Stn.standDownAir (s : Stn) : Stn :=
  let s1 := s.standDownFrames.foldl Stn.abstainFrom s
  { s1 with air.feed := none, air.claims := [], air.peerClaims := Vector.replicate 16 [], air.buffer := [],
            air.maps := [] }

/-- Custody of the stations in the custody list goes to NONE in this map (R52). -/
def Stn.loseCustody (s : Stn) : Stn :=
  (members s.cust.custody).foldl (fun s k => s.setCustodian .atEnd k none) { s with cust.custody := 0 }

/-- A stand-down: every block's working state is cleared and the station is in JOINING (R52), a change of its
own view (R42). The freed pending entries are given to waiting lines at the end of the event (R69, R102). -/
def Stn.standDown (s : Stn) : Stn :=
  let s1 := Stn.retryAll s.req.pend s
  let s2 := { s1 with
    intake.lines := s1.intake.lines.map Line.dropAwaiting,
    req.pend := [], req.holdOrder := [], req.cache := [],
    subs.active := [], subs.standby := [], subs.standbyComplete := false, subs.grant := .nobody,
    subs.drain := .idle, subs.ret := .idle, subs.mirror := .idle,
    store.messages := [], store.urgent := [], store.normal := [], store.outcomes := [],
    ret.recent := [],
    meter.charged := 0, meter.billed := 0, meter.unmetered := 0, meter.returnedIn := 0,
    meter.returnedOut := 0,
    bill.forming := [], bill.pause := .none, bill.pendingClose := none,
    bus.outbox := [],
    cust.state := .joining, cust.join := .before, cust.heard := [], cust.buddyWait := 0,
    cust.returnTaken := false, cust.returnEndTaken := false, cust.retryDelay := none }
  s2.standDownAir.loseCustody.doubleFailure .atEnd

/-! ### The commands -/

/-- ADOPTION (R45, R46): the end of the window in which the declaring frame was sent. -/
def execAdoption (s : State) : Host.Outcome State Fault Refusal :=
  .next (if s.stn.cust.declaration = .declaring then { s with stn := s.stn.adopt.settledFrom s.stn } else s)

/-- SILENT_VIEW (R38): the NOTHING reading whose count reaches S. -/
def execSilentView (k : Station) (s : State) : Host.Outcome State Fault Refusal :=
  .next (match s.stn.entry? k with
    | some e =>
      if k ≠ s.stn.self ∧ e.view.down = false ∧ s.stn.img.silence ≤ e.silent.toNat + 1 then
        { s with stn := ((s.stn.updEntry k fun e =>
            { e with silent := if e.silent = 255#8 then e.silent else e.silent + 1 }).setView .atOnce k .silent
              false).settledFrom s.stn }
      else s
    | none => s)

/-- BUDDY_WAIT_END (R50): the last count of the buddy wait. -/
def execBuddyWaitEnd (s : State) : Host.Outcome State Fault Refusal :=
  .next (if Config.buddyRounds ≤ s.stn.cust.buddyWait + 1 then
      { s with stn := s.stn.countBuddyWait.settledFrom s.stn }
    else s)

/-- RETURN_RETRY_DELAY_END (R53): the last count of the retry delay. -/
def execReturnRetryDelayEnd (s : State) : Host.Outcome State Fault Refusal :=
  .next (if s.stn.cust.retryDelay = some 1 then { s with stn := s.stn.countRetry.settledFrom s.stn }
    else s)

/-- MIRROR_RESTART_WAIT_END (R58): the last count of RESTART WAIT. -/
def execMirrorRestartWaitEnd (s : State) : Host.Outcome State Fault Refusal :=
  .next (if s.stn.subs.mirror = .restartWait 1 then { s with stn := s.stn.countRestart } else s)

/-- RETURN_WALK_VISIT (R54). -/
def execReturnWalkVisit (s : State) : Host.Outcome State Fault Refusal :=
  .next { s with stn := s.stn.returnVisit }

/-- RETURN_WALK_STANDBY_VISIT (R55). -/
def execReturnWalkStandbyVisit (s : State) : Host.Outcome State Fault Refusal :=
  .next { s with stn := s.stn.returnStandbyVisit }

/-- MIRROR_WALK_STEP (R59). -/
def execMirrorWalkStep (s : State) : Host.Outcome State Fault Refusal :=
  .next { s with stn := s.stn.mirrorStep }

/-- FORWARD_REOFFER (R90). -/
def execForwardReoffer (s : State) : Host.Outcome State Fault Refusal :=
  .next { s with stn := s.stn.reoffer }

end Sys2Proof.Machine
end

