-- ==== Sys2Proof/Machine/Airtime.lean ====
section
/-!
DEFINITION. The Airtime Unit (chapter 7): claims, abstention, the close of a slot map, the slot buffer, the
air feed and the office mark.
-/

namespace Sys2Proof.Machine

/-! ### Claims (R111, R125) -/

/-- The message the store hands for a claim: the front of the urgent list, else of the normal list
(R111). -/
def Stn.nextReady (s : Stn) : Option Serial :=
  match s.store.urgent with
  | x :: _ => some x
  | [] => s.store.normal.head?

/-- A message is taken for a claim on target frame t; at its first claim it takes its tag and its ladder
(R111, R153). -/
def Stn.takeForClaim (s : Stn) (t : FrameNo) (serial : Serial) : Stn :=
  match s.msgRec? serial with
  | none => s.leaveReady serial
  | some (m, r) =>
    let s1 := (s.leaveReady serial).updMsg serial fun m =>
      { m with state := .claimed, target := some t }
    match m.tag with
    | some _ => s1
    | none =>
      (s1.updMsg serial fun m =>
        { m with tag := some r.nextTag, ladder := some (s.planOf r).start }).updRec m.sub fun r =>
          { r with nextTag := r.nextTag + 1 }

/-- The claim of a message, with the next claim number (R125). -/
def Stn.claimFor (s : Stn) (t : FrameNo) (m : Message) : Claim :=
  { target := t, urgent := decide (m.priority = .urgent), slots := m.blocks.length,
    number := s.air.claims.length, message := some m.serial }

/-- Messages are taken one at a time until the list holds 8 claims or the store hands nothing (R125). -/
def Stn.takeClaims (t : FrameNo) : Nat → Stn → Stn
  | 0, s => s
  | fuel + 1, s =>
    if s.air.claims.length < Config.claimCap then
      match s.nextReady with
      | none => s
      | some serial =>
        match s.msg? serial with
        | none => Stn.takeClaims t fuel (s.leaveReady serial)
        | some m =>
          let s1 := s.takeForClaim t serial
          Stn.takeClaims t fuel { s1 with air.claims := s1.air.claims ++ [s.claimFor t m] }
    else s

/-- The Airtime Unit at the start of this station's window in round `index` of frame F (R125, R127). Of the two
moments that R127 gives for the mark of a JOINING station, the office mark that begins its rounds and the first
window start of those rounds, the model takes the start of this station's own window (DESIGN CHOICE, log 14). -/
def Stn.windowClaims (s : Stn) (f : FrameNo) (index : Fin 4) : Stn :=
  if index = 3 then s
  else
    match s.cust.state with
    | .joining => s.abstainFrom (f + 2)
    | _ => if s.air.abstain.contains (f + 2) then s else Stn.takeClaims (f + 2) Config.claimCap s

/-- The claim list of the frame sent in that window (R125). -/
def Stn.claimsSent (s : Stn) (index : Fin 4) : List Claim :=
  if index = 3 ∨ s.cust.state = .joining then [] else s.air.claims

/-- The claims of a peer's VALID frame (R126). -/
def Stn.peerClaimsRead (s : Stn) (p : Station) (f : FrameNo) (index : Fin 4) (state : Member)
    (claims : List Claim) : Stn :=
  if index = 3 then s
  else
    let kept := match state with
      | .joining => []
      | _ => claims.filter fun c => decide (c.target = f + 2)
    { s with air.peerClaims := s.air.peerClaims.set p.val kept p.isLt }

/-- Abstention by a reading of a peer whose view before it was `view`; `lost` tells DAMAGED or NOTHING
(R127). -/
def Stn.readingAbstain (s : Stn) (f : FrameNo) (index : Fin 4) (view : View) (lost : Bool) : Stn :=
  if lost && view.heard && decide (index ≠ 3) then s.abstainFrom (f + 2) else s

/-! ### The slot map (R130) -/

/-- The roster in the rotated order of a target frame (R130 step 2). -/
def rotated (roster : StationSet) (t : FrameNo) : List Station :=
  ((List.finRange 16).map fun i => Fin.ofNat 16 t.toNat + i).filter (inSet roster)

/-- The claims of station k as they stand at the close (R130). -/
def Stn.claimsOf (s : Stn) (k : Station) : List Claim :=
  if k = s.self then s.air.claims else s.air.peerClaims.get k

/-- Every claim with its station, by class, rotated station order and claim number (R130). -/
def Stn.claimOrder (s : Stn) (t : FrameNo) : List (Station × Claim) :=
  let all := (rotated s.img.roster t).flatMap fun k => (s.claimsOf k).map fun c => (k, c)
  (all.filter fun x => x.2.urgent) ++ all.filter fun x => !x.2.urgent

/-- The claims that fit, each with its first slot; `next` is the next free slot (R130). -/
def assignSlots : Nat → List (Station × Claim) → List (Nat × Station × Claim)
  | _, [] => []
  | next, (k, c) :: rest =>
    if next + c.slots ≤ Config.slotCount then (next, k, c) :: assignSlots (next + c.slots) rest
    else assignSlots next rest

/-- The slots of a map from the claims that fit: one run from slot 0, then unassigned slots (R130). -/
def mapSlots (fit : List (Nat × Station × Claim)) : List (Option SlotOwner) :=
  let run := fit.flatMap fun x => List.replicate x.2.2.slots (some ⟨x.2.1, x.2.2.number, x.2.2.urgent⟩)
  run ++ List.replicate (Config.slotCount - run.length) none

/-! ### The close (R129, R131) -/

/-- The map for frame t cannot be used, at the close in the rounds of frame F = t − 2 (R129). -/
def Stn.mapUnusable (s : Stn) (t : FrameNo) : Bool :=
  s.air.abstain.contains t || reached s.air.frame t ||
    s.air.buffer.any fun p => !reached p.target (t - 1)

/-- Messages whose claims were lost or voided return to the front of their lists, the first taken in
front (R112). -/
def Stn.returnToFront (s : Stn) (serials : List Serial) : Stn :=
  let s1 := serials.foldl (fun s x => s.updMsg x fun m => { m with state := .ready, target := none }) s
  { s1 with store.urgent := serials.filter s.isUrgent ++ s1.store.urgent,
            store.normal := (serials.filter fun x => !s.isUrgent x) ++ s1.store.normal }

/-- A page enters the slot buffer, which is ordered by target frame and then by first slot (R132). -/
def insertPage (p : Page) (buffer : List Page) : List Page :=
  (buffer.filter fun q => decide (q.target ≠ p.target)) ++
    insertBy (·.first) p (buffer.filter fun q => decide (q.target = p.target))

/-- The page of a won claim is loaded and its message becomes LOADED; the ladder is first brought within
the plan (R112, R131, R152, R158). -/
def Stn.loadPage (s : Stn) (t : FrameNo) (first : Nat) (c : Claim) (serial : Serial) : Stn :=
  match s.msgRec? serial with
  | none => s
  | some (m, r) =>
    let plan := s.planOf r
    let l := (m.ladder.getD plan.start).within plan
    let p : Page :=
      { message := serial, target := t, number := c.number, first := first, slots := c.slots,
        addr := r.admin.addr, tag := m.tag.getD 0, zones := (plan.stepAt l.step).selector.zones r,
        body := m.blocks.flatten, committed := false, sent := 0 }
    let s1 := s.updMsg serial fun m => { m with state := .loaded, ladder := some l }
    { s1 with air.buffer := insertPage p s1.air.buffer }

/-- The slot run of one of this station's claims. -/
def firstSlotOf (self : Station) (c : Claim) (fit : List (Nat × Station × Claim)) : Option Nat :=
  (fit.find? fun x => decide (x.2.1 = self ∧ x.2.2.number = c.number)).map (·.1)

/-- The result of one claim, but for the return of a lost message (R131). -/
def Stn.applyClaim (t : FrameNo) (fit : List (Nat × Station × Claim)) (s : Stn) (c : Claim) : Stn :=
  match firstSlotOf s.self c fit, c.message with
  | some first, some serial => s.loadPage t first c serial
  | some _, none => s
  | none, _ => { s with air.claimsLost := satInc s.air.claimsLost }

/-- The claim lists are emptied (R129). -/
def Stn.emptyClaims (s : Stn) : Stn :=
  { s with air.claims := [], air.peerClaims := Vector.replicate 16 [] }

/-- An unusable map: the frame is abstained and the claims that still have their messages are voided
(R128, R129). -/
def Stn.voidClaims (s : Stn) (t : FrameNo) : Stn :=
  (s.abstainFrom t).returnToFront (s.air.claims.filterMap (·.message))

/-- A usable map and the results of this station's claims (R130, R131). -/
def Stn.applyMap (s : Stn) (t : FrameNo) : Stn :=
  let fit := assignSlots 0 (s.claimOrder t)
  let s1 := { s with air.maps := s.air.maps ++ [⟨t, mapSlots fit⟩] }
  let s2 := s.air.claims.foldl (Stn.applyClaim t fit) s1
  s2.returnToFront ((s.air.claims.filter fun c => (firstSlotOf s.self c fit).isNone).filterMap (·.message))

/-- The close of the slot map for F+2 at the end of round 2 of frame F (R129). -/
def Stn.closeMap (s : Stn) (f : FrameNo) : Stn :=
  let t := f + 2
  (if s.mapUnusable t then s.voidClaims t else s.applyMap t).emptyClaims

/-! ### The air feed (R136) -/

/-- What the station's map gives in a slot of the frame in progress (R136). -/
def Stn.slotOwner (s : Stn) (n : Nat) : Option SlotOwner :=
  match s.air.maps.find? fun m => decide (m.frame = s.air.frame) with
  | some m => (m.slots[n]?).join
  | none => none

/-- The station may drive its slots: a frame is in progress and it does not abstain from it (R136). -/
def Stn.mayDrive (s : Stn) : Bool := s.air.begun && !s.air.abstain.contains s.air.frame

/-- The page of this station's claim number in the frame in progress. -/
def Stn.pageOf (s : Stn) (number : Nat) : Option Page :=
  s.air.buffer.find? fun p => decide (p.target = s.air.frame ∧ p.number = number)

/-- The next slot of a page is driven in slot n, and counted as sent (R136). -/
def Stn.driveSlot (s : Stn) (n : Fin 32) (p : Page) : Stn :=
  let buffer := updWhere (fun q => decide (q.message = p.message)) (fun q => { q with sent := q.sent + 1 })
    s.air.buffer
  { s with air.feed := some ⟨n, p.slotBytes p.sent⟩, air.buffer := buffer }

/-- The start of slot n of the frame in progress (R136). A slot of a page whose turn it is not changes
nothing (log 5). -/
def Stn.slotStart (s : Stn) (n : Fin 32) : Stn :=
  match s.mayDrive, s.slotOwner n.val with
  | true, some o =>
    if o.station = s.self then
      match s.pageOf o.number with
      | some p => if p.first + p.sent = n.val ∧ p.sent < p.slots then s.driveSlot n p else s
      | none =>
        { s with air.feed := some ⟨n, idleFill s.self⟩, air.forfeits := satInc s.air.forfeits }
    else { s with air.feed := none }
  | _, _ => { s with air.feed := none }

/-! ### The office mark (R123) -/

/-- Frame g is in progress or one of the two ahead of frame f. -/
def within2 (f g : FrameNo) : Bool := decide ((g - f).toNat ≤ 2)

/-- A target frame whose abstain mark may still be read: near frame f, or the frame whose claims the running
rounds are for (R127, R129). -/
def Stn.abstainKept (s : Stn) (f g : FrameNo) : Bool :=
  within2 f g || s.bus.round.any fun r => decide (r.frame + 2 = g)

/-- The committed pages whose frame is over at the start of frame f (R134). The spec gives no order among the
pages cut by one mark: they complete in the order of the slot buffer (DESIGN CHOICE, log 8). -/
def Stn.cutPages (s : Stn) (f : FrameNo) : List Serial :=
  (s.air.buffer.filter fun p => p.committed && decide (p.target ≠ f)).map (·.message)

/-- The Airtime Unit takes an office mark: the number advances, the frame just past ends, the pages of the
new frame are committed (R123, R133, R134). -/
def Stn.markAirtime (s : Stn) : Stn :=
  let f := s.air.frame + 1
  let s1 := { s with air.frame := f, air.begun := true, air.feed := none }
  let s2 := (s1.cutPages f).foldl Stn.completePage s1
  let buffer := updWhere (fun p => decide (p.target = f)) (fun p => { p with committed := true })
    s2.air.buffer
  { s2 with air.buffer := buffer,
            air.maps := s2.air.maps.filter fun m => within2 f m.frame,
            air.abstain := s2.air.abstain.filter (s2.abstainKept f) }

/-! ### The commands -/

/-- OFFICE_MARK_AIRTIME (R123). -/
def execOfficeMarkAirtime (s : State) : Host.Outcome State Fault Refusal :=
  .next (if s.stn.ctl.phase = .closed then { s with stn := s.stn.markAirtime.givePlaces s.stn } else s)

/-- SLOT_START (R136). -/
def execSlotStart (n : Fin 32) (s : State) : Host.Outcome State Fault Refusal :=
  .next (if s.stn.ctl.phase = .closed then { s with stn := s.stn.slotStart n } else s)

end Sys2Proof.Machine
end

