-- ==== Sys2Proof/Machine/Bus.lean ====
section
/-!
DEFINITION. The Bus Unit (chapter 2) and what its frames bring to the other blocks: the office mark, the
round frame, the readings, takes and notes, the round end (R20, R44, R47, R50, R53, R58, R92, R129) and the
end of JOINING (R49).
-/

namespace Sys2Proof.Machine

/-! ### Rounds (R20) -/

/-- Round 0 begins for frame f; it opens the JOINING rounds of a station that has not had them (R20,
R49). -/
def Stn.beginRounds (s : Stn) (f : FrameNo) : Stn :=
  { s with
    bus.round := some { frame := f, index := 0, left := s.roster }, bus.noted := false,
    cust.join := if s.cust.state = .joining ∧ s.cust.join = .before then .running f else s.cust.join }

/-- The Bus Unit takes an office mark: a paused bus begins the rounds of the air frame that the mark has begun,
running rounds go on (R20, R194). -/
def Stn.markBus (s : Stn) : Stn :=
  let s1 := { s with bus.mark := s.bus.mark + 1 }
  match s1.bus.round with
  | none => s1.beginRounds s1.bus.mark
  | some _ => { s1 with bus.noted := true }

/-- The JOINING rounds are complete at the end of their round 3 (R49). -/
def JoinPhase.afterRounds (j : JoinPhase) : JoinPhase :=
  match j with
  | .running f => .complete f
  | _ => j

/-- The round position after the end of a round (R20). -/
def Stn.nextRound (s : Stn) (r : RoundPos) : Stn :=
  if r.index = 3 then
    let s1 := { s with cust.join := s.cust.join.afterRounds }
    if s.bus.noted then s1.beginRounds s1.air.frame else { s1 with bus.round := none }
  else { s with bus.round := some { r with index := r.index + 1, left := s.roster } }

/-- The first of the windows still to come has passed (R19). -/
def Stn.passWindow (s : Stn) (r : RoundPos) : Stn :=
  { s with bus.round := some { r with left := r.left.tail } }

/-- The next window of the round is station k's (R19). -/
def RoundPos.isNext (r : RoundPos) (k : Station) : Bool := decide (r.left.head? = some k)

/-! ### The choice of notes (R25, R199) -/

/-- The choice under way: the notes passed, those placed, the serial counters, notes resent, the bytes
left, and the addressees with a note that did not fit. -/
structure Choice where
  passed : List Note
  placed : List WireNote
  counters : Vector NoteSerial 16
  resent : Count
  room : Nat
  shut : List Station

/-- Notes to an addressee that have been sent (R25). -/
def inFlight (dest : Station) (l : List Note) : Nat :=
  (l.filter fun n => decide (n.dest = dest ∧ 0 < n.sends)).length

/-- A note is eligible for the frame; `outbox` is the outbox as it stands (R25). -/
def Note.eligible (n : Note) (outbox : List Note) : Bool :=
  !n.awaiting && !(n.body.isForward && n.held) &&
    (decide (0 < n.sends) || decide (inFlight n.dest outbox < Config.takeMemoryCap))

/-- The bytes a note needs in a frame (R200). -/
def Note.size (n : Note) : Nat := 3 + n.body.content.length

/-- A note is placed in the frame (R25 steps 1 to 4). -/
def Choice.place (c : Choice) (n : Note) : Choice :=
  let serial := n.serial.getD (c.counters.get n.dest)
  let counters := match n.serial with
    | some _ => c.counters
    | none => c.counters.set n.dest.val (serial + 1) n.dest.isLt
  { c with
    passed := c.passed ++ [{ n with serial := some serial, sends := n.sends + 1, awaiting := true }],
    placed := c.placed ++ [{ dest := n.dest, serial := serial, body := n.body }],
    counters := counters,
    resent := if 2 ≤ n.sends + 1 then satInc c.resent else c.resent,
    room := c.room - n.size }

/-- The outbox is passed through in age order (R25); a note that does not fit shuts out the younger ones to
its addressee (R199). -/
def chooseNotes : List Note → Choice → Choice
  | [], c => c
  | n :: rest, c =>
    if n.eligible (c.passed ++ n :: rest) && decide (c.placed.length < Config.notesPerFrame) &&
        !c.shut.contains n.dest then
      if n.size ≤ c.room then chooseNotes rest (c.place n)
      else chooseNotes rest { c with passed := c.passed ++ [n], shut := n.dest :: c.shut }
    else chooseNotes rest { c with passed := c.passed ++ [n] }

/-! ### The round frame (R21) -/

/-- The test of a pending declaration at the start of the window (R45). -/
def Stn.testDeclaration (s : Stn) : Stn :=
  if s.cust.declaration = .pending then
    { s with cust.declaration :=
        if s.cust.state = .live ∧ s.view s.ward = .silent then .declaring else .none }
  else s

/-- The custody list of the frame: the declaring frame adds the ward (R37, R45). -/
def Stn.custodySent (s : Stn) : StationSet :=
  if s.cust.declaration = .declaring then setAdd s.cust.custody s.ward else s.cust.custody

/-- Bytes of a frame before its notes (R199). -/
def frameBase (takes claims : Nat) : Nat := 20 + 2 * takes + 3 * claims

/-- The notes for the frame of this window (R25). -/
def Stn.choice (s : Stn) (r : RoundPos) : Choice :=
  chooseNotes s.bus.outbox
    { passed := [], placed := [], counters := s.bus.counters, resent := s.bus.resent,
      room := Config.frameBytes -
        frameBase (s.bus.takes.take Config.takesPerFrame).length (s.claimsSent r.index).length,
      shut := [] }

/-- The frame of this window, from its parts as they stand (R21). -/
def Stn.frameFor (s : Stn) (r : RoundPos) : RoundFrame :=
  { sender := s.self, state := s.cust.state, office := s.img.office, frame := r.frame,
    draining := s.draining, index := r.index, period := s.bill.period, silence := s.silenceList,
    custody := s.custodySent, takes := s.bus.takes.take Config.takesPerFrame,
    claims := s.claimsSent r.index, notes := (s.choice r).placed }

/-- The frame is sent: the chosen notes are AWAITING TAKE and the take queue is emptied (R25, R31). -/
def Stn.sendFrame (s : Stn) (r : RoundPos) : Stn :=
  let c := s.choice r
  { s with bus.frameOut := (s.frameFor r).bytes, bus.outbox := c.passed, bus.counters := c.counters,
           bus.resent := c.resent, bus.takes := [] }

/-- The start of this station's window (R21, R45, R125, R127). -/
def Stn.ownWindow (s : Stn) (r : RoundPos) : Stn :=
  ((s.testDeclaration.windowClaims r.frame r.index).sendFrame r).passWindow r

/-! ### The readings (R22, R38) -/

/-- A reading of a peer's window (R22). -/
inductive Reading where
  | nothing | damaged | foreign
  | valid (f : RoundFrame)
deriving DecidableEq, Repr

/-- The classification of what was heard in p's window (R22). -/
def Stn.classify (s : Stn) (p : Station) (index : Fin 4) (heard : List Byte) : Reading :=
  if heard = [] then .nothing
  else
    match readFrame s.img.roster heard with
    | none => .damaged
    | some f =>
      if f.office ≠ s.img.office then .foreign
      else if f.sender ≠ p ∨ f.index ≠ index then .damaged
      else .valid f

/-- An 8-bit count that saturates (R37). -/
def satInc8 (c : BitVec 8) : BitVec 8 := if c = 255#8 then c else c + 1

/-- The silent count of p. -/
def Stn.silentCount (s : Stn) (p : Station) : BitVec 8 := ((s.entry? p).map (·.silent)).getD 0

/-- A NOTHING reading of p at the Custody Unit (R38). -/
def Stn.readNothing (s : Stn) (p : Station) : Stn :=
  let s1 := s.updEntry p fun e => { e with silent := satInc8 e.silent }
  if s.img.silence ≤ (s1.silentCount p).toNat ∧ (s1.view p).down = false then s1.setView .atOnce p .silent false
  else s1

/-- The silent count of p is set to 0 (R38). -/
def Stn.heardActivity (s : Stn) (p : Station) : Stn := s.updEntry p fun e => { e with silent := 0 }

/-- A FOREIGN reading of p at the Custody Unit (R38). -/
def Stn.readForeign (s : Stn) (p : Station) : Stn :=
  let s1 := s.heardActivity p
  if s1.view p = .failed then s1 else s1.setView .atOnce p .foreign false

/-! ### Notes resolved (R26, R27) -/

/-- The note to p with a serial. -/
def isNote (p : Station) (serial : NoteSerial) (n : Note) : Bool :=
  decide (n.dest = p ∧ n.serial = some serial)

/-- A note leaves the outbox. -/
def Stn.removeNote (s : Stn) (p : Station) (serial : NoteSerial) : Stn :=
  { s with bus.outbox := s.bus.outbox.filter fun n => !isNote p serial n }

/-- The effect of a taken note at its owner (R26). -/
def Stn.noteTaken (s : Stn) (body : NoteBody) : Stn :=
  match body with
  | .forward tag _ => s.updPend tag fun e => { e with state := .awaiting, wait := 0 }
  | .ret a .. => s.returnTakenByWard a
  | .retEnd => s.returnEndTakenByWard
  | .mirrorEnd _ =>
    match s.subs.mirror with
    | .running _ _ true => { s with subs.mirror := .idle }
    | _ => s
  | .answer .. | .mirror .. | .mirrorRemove _ => s

/-- One take of p's frame: it resolves a note to p when it names this station and the note's serial
(R26). -/
def Stn.readTake (p : Station) (s : Stn) (t : Station × NoteSerial) : Stn :=
  if t.1 = s.self then
    match s.bus.outbox.find? (isNote p t.2) with
    | some n => (s.removeNote p t.2).noteTaken n.body
    | none => s
  else s

/-- A note fails (R27). -/
def Stn.failNote (s : Stn) (p : Station) (serial : NoteSerial) (body : NoteBody) : Stn :=
  let s1 := { s.removeNote p serial with bus.failed := satInc s.bus.failed }
  match body with
  | .forward tag _ => s1.finish tag (refusal .officeBusy)
  | .answer .. => s1
  | .ret .. | .retEnd =>
    { s1.abortReturn with cust.retryDelay := some Config.retryRounds }
  | .mirror .. | .mirrorRemove _ | .mirrorEnd _ => s1.mirrorToRestart

/-- A FORWARD becomes DUE: re-addressed or removed when its custodian changed or its station failed since
it was sent, else held under a SILENT or FOREIGN view (R26, R32, R33). -/
def Stn.dueForward (s : Stn) (p : Station) (tag : Tag) (n : Note) : Stn :=
  if n.stale then
    match n.route with
    | .home h => s.redirect .atOnce h tag
    | .receipt _ => (s.dropForward tag).finish tag (refusal .unknownReceipt)
    | .here => s
  else
    let outbox := updWhere (isForwardOf tag)
      (fun n => { n with held := decide (s.view p = .silent ∨ s.view p = .foreign) }) s.bus.outbox
    { s with bus.outbox := outbox }

/-- A note to p becomes DUE for lack of its take (R26). -/
def Stn.dueNote (s : Stn) (p : Station) (serial : NoteSerial) (n : Note) : Stn :=
  let outbox := updWhere (isNote p serial) (fun n => { n with awaiting := false }) s.bus.outbox
  let s1 := { s with bus.outbox := outbox }
  match n.body with
  | .forward tag _ => s1.dueForward p tag n
  | _ => s1

/-- A receipt-routed FORWARD whose station has been viewed FAILED since it was sent: its next lack of a take
removes it, at any send count, and counts no failure (R32). -/
def Note.receiptLost (n : Note) : Bool :=
  match n.route with
  | .receipt _ => n.stale && n.body.isForward
  | _ => false

/-- A note to p still AWAITING TAKE at the end of p's window (R26, R32). -/
def Stn.resolveOne (p : Station) (s : Stn) (serial : NoteSerial) : Stn :=
  match s.bus.outbox.find? (isNote p serial) with
  | some n =>
    if n.awaiting then
      if Config.sendLimit ≤ n.sends ∧ n.receiptLost = false then s.failNote p serial n.body
      else s.dueNote p serial n
    else s
  | none => s

/-- The serials of the notes to p AWAITING TAKE. The spec gives no order in which several are resolved at one
window end: they are taken in age order (DESIGN CHOICE, log 8). -/
def Stn.awaitingTo (s : Stn) (p : Station) : List NoteSerial :=
  (s.bus.outbox.filter fun n => decide (n.dest = p) && n.awaiting).filterMap (·.serial)

/-- The end of p's window for the notes to p (R26). -/
def Stn.resolve (s : Stn) (p : Station) : Stn := (s.awaitingTo p).foldl (Stn.resolveOne p) s

/-! ### Notes taken (R28 to R30) -/

/-- The standby table has room for a mirrored record (R14). -/
def Stn.standbyRoom (s : Stn) (sub : Nat) : Bool :=
  decide (s.subs.standby.length < Config.tableCap) || (s.standby? sub).isSome

/-- The condition of a note's kind (R28). -/
def Stn.canTake (s : Stn) : NoteBody → Bool
  | .forward .. => s.outboxFree
  | .ret .. => decide (s.subs.active.length < Config.tableCap)
  | .mirror refresh a _ => refresh || s.standbyRoom a.sub
  | .answer .. | .retEnd | .mirrorRemove _ | .mirrorEnd _ => true

/-- An ANSWER's entry: its target is the sender, and it is AWAITING ANSWER, or SENDING with a note already
sent (R91). -/
def Stn.answerMatches (s : Stn) (p : Station) (e : PendEntry) : Bool :=
  decide (e.target = some p) &&
    (decide (e.state = .awaiting) ||
     (decide (e.state = .sending) &&
      s.bus.outbox.any fun n => isForwardOf e.tag n && decide (0 < n.sends)))

/-- An ANSWER is taken from p (R91). -/
def Stn.takeAnswer (s : Stn) (p : Station) (tag : Tag) (res : Result) : Stn :=
  match s.pend? tag with
  | some e =>
    if s.answerMatches p e then (s.dropForward tag).applyResult tag res
    else { s with bus.lateAnswers := satInc s.bus.lateAnswers }
  | none => { s with bus.lateAnswers := satInc s.bus.lateAnswers }

/-- A key of a returned record is occupied: both keys are tested against both tables (R4, log 21). -/
def Stn.occupied (s : Stn) (a : Admin) : Bool :=
  (s.rec? a.sub).isSome || (s.standby? a.sub).isSome || (s.recAt? a.addr).isSome ||
    s.subs.standby.any fun b => decide (b.admin.addr = a.addr)

/-- A RETURN is taken (R3, R4, R57, R171). -/
def Stn.takeReturn (s : Stn) (a : Admin) (nextTag : Tag) (lastZone : Option Zone) (m : MeterFields) :
    Stn :=
  let s1 := { s with meter.returnedIn := s.meter.returnedIn + units m.total, cust.returnTaken := true }
  if s.occupied a then s1.writeOff m.total
  else
    s1.insertRec { admin := a, origin := .home, home := s.self, returning := false, nextTag := nextTag,
                   queue := [], lastZone := lastZone, meter := m }

/-- A RETURN END is taken (R50, R57). -/
def Stn.takeReturnEnd (w : Places) (s : Stn) : Stn :=
  match s.cust.state with
  | .joining => { s with cust.returnEndTaken := true }
  | .reclaiming => s.enterLive w
  | .live => s

/-- The standby table is emptied and standby-complete cleared (R14). -/
def Stn.refreshStandby (s : Stn) (refresh : Bool) : Stn :=
  if refresh then { s with subs.standby := [], subs.standbyComplete := false } else s

/-- A MIRROR is taken (R14). -/
def Stn.takeMirror (s : Stn) (refresh : Bool) (a : Admin) (nextTag : Tag) : Stn :=
  let s1 := s.refreshStandby refresh
  if (s1.standby? a.sub).isSome then
    s1.updStandby a.sub fun b => { b with admin := a, nextTag := nextTag }
  else if (s1.rec? a.sub).isSome then s1
  else { s1 with subs.standby := insertBy (·.admin.sub) ⟨a, nextTag, .plain⟩ s1.subs.standby }

/-- What the owner does with a taken note from p (R28). R13 and R14 speak of the ward's mirror notes alone, and no
rule refuses one from another peer: a MIRROR, MIRROR REMOVE or MIRROR END acts whoever sends it (DESIGN CHOICE,
log 23). -/
def Stn.actOn (s : Stn) (p : Station) : NoteBody → Stn
  | .forward tag text => s.answerFor p tag (parseEntry .operator text)
  | .answer tag res => s.takeAnswer p tag res
  | .ret a tag zone m => s.takeReturn a tag zone m
  | .retEnd => s.takeReturnEnd .atEnd
  | .mirror refresh a tag => s.takeMirror refresh a tag
  | .mirrorRemove sub =>
    { s with subs.standby := s.subs.standby.filter fun b => decide (b.admin.sub ≠ sub) }
  | .mirrorEnd refresh => { s.refreshStandby refresh with subs.standbyComplete := true }

/-- A take is queued for the next frame (R28, R29). -/
def Stn.queueTake (s : Stn) (p : Station) (serial : NoteSerial) : Stn :=
  { s with bus.takes := s.bus.takes ++ [(p, serial)] }

/-- The last 16 serials taken from a peer (R29). -/
def remember (l : List NoteSerial) (serial : NoteSerial) : List NoteSerial :=
  (if Config.takeMemoryCap ≤ l.length then l.drop (l.length + 1 - Config.takeMemoryCap) else l) ++ [serial]

/-- A serial enters the take memory for p (R29). -/
def Stn.rememberTake (s : Stn) (p : Station) (serial : NoteSerial) : Stn :=
  { s with bus.memory := s.bus.memory.set p.val (remember (s.bus.memory.get p) serial) p.isLt }

/-- One note of p's frame; the mark tells that an earlier one of the frame was refused (R28 to R30). -/
def Stn.readNoteOf (p : Station) (x : Stn × Bool) (w : WireNote) : Stn × Bool :=
  if w.dest ≠ x.1.self then x
  else if (x.1.bus.memory.get p).contains w.serial then (x.1.queueTake p w.serial, x.2)
  else if x.2 || !x.1.canTake w.body then (x.1, true)
  else (((x.1.rememberTake p w.serial).queueTake p w.serial).actOn p w.body, false)

/-! ### The parts of a VALID frame at the Custody Unit (R38, R40, R41, R51, R53) -/

/-- The first VALID frame of p in JOINING: no VALID frame before it, or one in another state (R23, R53). -/
def Stn.joiningEpisode (s : Stn) (p : Station) (state : Member) : Bool :=
  decide (state = .joining ∧ s.bus.lastSender.get p ≠ some .joining)

/-- Step 1 of R23. -/
def Stn.clearMemory (s : Stn) (p : Station) (state : Member) : Stn :=
  if s.joiningEpisode p state then { s with bus.memory := s.bus.memory.set p.val [] p.isLt } else s

/-- The entry of p at a VALID frame (R38). -/
def Stn.validView (s : Stn) (p : Station) (f : RoundFrame) (episode : Bool) : Stn :=
  let s1 := s.updEntry p fun e => { e with silent := 0, silence := f.silence }
  match f.state with
  | .joining => s1.setView .atEnd p .joining episode
  | _ => if s1.view p = .failed then s1 else s1.setView .atEnd p f.state.view false

/-- A JOINING episode of the ward requests the return walk (R53). -/
def Stn.wardJoins (s : Stn) (p : Station) (episode : Bool) : Stn :=
  if episode = true ∧ p = s.ward then s.clearReturned.requestReturn .atEnd else s

/-- Custody goes back to k: its FAILED view becomes LIVE (R41). -/
def Stn.giveBack (s : Stn) (k : Station) : Stn :=
  let s1 := s.setCustodian .atEnd k (some k)
  if k ≠ s1.self ∧ s1.view k = .failed then s1.setView .atEnd k .live false else s1

/-- p is LIVE while its custodian is NONE (R41.2). -/
def Stn.liveAgain (s : Stn) (p : Station) (state : Member) : Stn :=
  if state = .live ∧ s.custodian p = none then s.giveBack p else s

/-- One station of p's custody list (R40). -/
def Stn.listed (p : Station) (s : Stn) (k : Station) : Stn :=
  if k = s.self then s.setCustodian .atEnd k (some p)
  else if inSet s.cust.custody k then s
  else if s.custodian k = some p then s
  else
    let s1 := s.setCustodian .atEnd k (some p)
    match s1.view k with
    | .silent | .foreign => s1.setView .atEnd k .failed false
    | _ => s1

/-- The stations that p's frame no longer lists (R41.1), in ascending number, an order that the spec leaves
open (DESIGN CHOICE, log 17). -/
def Stn.dropped (s : Stn) (p : Station) (f : RoundFrame) : Stn :=
  match f.state with
  | .joining => s
  | _ =>
    (s.roster.filter fun k => decide (k ≠ p) && !inSet f.custody k).foldl
      (fun s k => if s.custodian k = some p then s.giveBack k else s) s

/-- The stand-down test (R51). -/
def Stn.mustStandDown (s : Stn) (f : RoundFrame) : Bool :=
  decide (s.cust.state ≠ .joining) && inSet f.custody s.self && inSet f.silence s.self

/-- What the JOINING rounds keep of p's VALID frames (R49). -/
def Stn.recordHeard (s : Stn) (p : Station) (f : RoundFrame) : Stn :=
  match s.cust.join with
  | .running _ =>
    let old := s.cust.heard.find? fun h => decide (h.station = p)
    let h : JoinHeard :=
      { station := p,
        sawLive := decide (f.state = .live) || (old.map (·.sawLive)).getD false,
        sawJoining := decide (f.state = .joining) || (old.map (·.sawJoining)).getD false,
        frame := f.frame, period := f.period }
    { s with cust.heard := (s.cust.heard.filter fun h => decide (h.station ≠ p)) ++ [h] }
  | _ => s

/-- The Custody Unit's part of a VALID frame (step 4 of R23). -/
def Stn.custodyPart (s : Stn) (p : Station) (f : RoundFrame) : Stn :=
  let episode := s.joiningEpisode p f.state
  let s1 := ((s.recordHeard p f).validView p f episode).wardJoins p episode
  let s2 := (members f.custody).foldl (Stn.listed p) (s1.liveAgain p f.state)
  let s3 := if s2.mustStandDown f then s2.standDown else s2
  let s4 := s3.dropped p f
  { s4 with bus.lastSender := s4.bus.lastSender.set p.val (some f.state) p.isLt }

/-! ### The parts at the Billing Unit (R175, R177) -/

/-- The later of two period numbers (R178). -/
def laterOf (held : Option Period) (p : Period) : Period :=
  match held with
  | some q => if later p q then p else q
  | none => p

/-- A later period of a LIVE peer is followed, or offered to the pending close (R177, R178). -/
def Stn.followPeriod (s : Stn) (p : Period) : Stn :=
  match s.subs.grant with
  | .nobody => s.startDrain p
  | _ => { s with bill.pendingClose := some (laterOf s.bill.pendingClose p) }

/-- The Billing Unit's part of a VALID frame (R175, R177). -/
def Stn.billingPart (s : Stn) (p : Station) (f : RoundFrame) : Stn :=
  let s1 := { s with bill.peers := s.bill.peers.set p.val (some (f.period, f.draining)) p.isLt }
  if s1.cust.state ≠ .joining ∧ f.state = .live ∧ s1.view p ≠ .failed ∧
      later f.period s1.bill.period = true then s1.followPeriod f.period
  else s1

/-- A VALID frame from p, in the order of R23. Inside its step 4 the claims come first, so that a stand-down
leaves the peers' lists empty (R126; DESIGN CHOICE, log 8). -/
def Stn.validFrame (s : Stn) (p : Station) (r : RoundPos) (f : RoundFrame) : Stn :=
  let s1 := s.clearMemory p f.state
  let s2 := f.takes.foldl (Stn.readTake p) s1
  let s3 := (f.notes.foldl (Stn.readNoteOf p) (s2, false)).1
  ((s3.peerClaimsRead p r.frame r.index f.state f.claims).custodyPart p f).billingPart p f

/-- A reading is handed to the blocks concerned (R22, R36, R38, R127). -/
def Stn.applyReading (s : Stn) (p : Station) (r : RoundPos) (g : Reading) : Stn :=
  match g with
  | .nothing => (s.readingAbstain r.frame r.index (s.view p) true).readNothing p
  | .damaged =>
    ({ s with bus.damaged := satInc s.bus.damaged }.readingAbstain r.frame r.index (s.view p)
      true).heardActivity p
  | .foreign => { s with bus.foreign := satInc s.bus.foreign }.readForeign p
  | .valid f => s.validFrame p r f

/-- The end of p's window (R22, R24, R26). -/
def Stn.windowEnd (s : Stn) (p : Station) (r : RoundPos) (heard : List Byte) : Stn :=
  (((s.passWindow r).applyReading p r (s.classify p r.index heard)).resolve p).settledFrom s

/-! ### The Request Unit at a round end (R92) -/

/-- An entry at a round end, before it is judged (R92). The wait count of an entry in SENDING goes on past the 12
that R82 gives as its highest value, up to the overall limit: R92 counts it and names no saturation, and no rule
reads it there (DESIGN CHOICE, log 24). -/
def PendEntry.count (e : PendEntry) : PendEntry :=
  match e.state with
  | .holding _ => e
  | .localHere => { e with rounds := e.rounds + 1 }
  | _ => { e with rounds := e.rounds + 1, wait := e.wait + 1 }

/-- The overall limit of an entry (R92.1); the place of its note goes to the entries that wait (R24). -/
def Stn.overallLimit (s : Stn) (tag : Tag) : Stn :=
  ((s.dropForward tag).finish tag (refusal .retry)).givePlaces s

/-- The entry holds its reply and counts nothing (R101). -/
def PendState.isHolding : PendState → Bool
  | .holding _ => true
  | _ => false

/-- The judgement of one entry (R92). -/
def Stn.judgeEntry (s : Stn) (tag : Tag) : Stn :=
  match s.pend? tag with
  | none => s
  | some e =>
    if e.state.isHolding then s
    else if Config.overallRounds ≤ e.rounds then s.overallLimit tag
    else if e.state = .awaiting ∧ Config.answerRounds ≤ e.wait then s.finish tag (refusal .retry)
    else if e.state = .deferred ∧ Config.deferralRounds ≤ e.wait then s.routeEntry tag
    else s

/-- The pending request table at a round end, in the order of the hand-offs (R92). -/
def Stn.countRequests (s : Stn) : Stn :=
  let s1 := { s with req.pend := s.req.pend.map PendEntry.count }
  (s1.req.pend.map (·.tag)).foldl Stn.judgeEntry s1

/-- The round end event at every block that counts in rounds (R20). The outbox places that a part of it frees
go to the entries that wait before the parts that would take them (R24). -/
def Stn.roundEnd (s : Stn) (r : RoundPos) : Stn :=
  let s1 := (s.nextRound r).declarationCheck.redeclarationCheck.countBuddyWait.givePlaces s
  let s2 := (s1.countRequests.countRetry.countRestart.givePlaces s1).revisit
  (if r.index = 2 then s2.closeMap r.frame else s2).settled

/-! ### The end of JOINING (R49) -/

/-- The source station's frame; none when the source is this station (R49). -/
def Stn.joinSource (s : Stn) : Option JoinHeard :=
  match (List.finRange 16).findSome? fun k =>
      s.cust.heard.find? fun h => decide (h.station = k) && h.sawLive with
  | some h => some h
  | none =>
    match (List.finRange 16).find? fun k => decide (k = s.self) ||
        s.cust.heard.any fun h => decide (h.station = k) && h.sawJoining with
    | some k => if k = s.self then none else s.cust.heard.find? fun h => decide (h.station = k)
    | none => none

/-- The abstain mark of the frame being claimed goes with the round frame number (R49, R127). -/
def Stn.abstainMoved (s : Stn) (d : FrameNo) : List FrameNo :=
  s.air.abstain.map fun g => if s.bus.round.any (fun r => decide (r.frame + 2 = g)) then g + d else g

/-- The numbering is copied from the source; `f` is the round frame number of the JOINING rounds
(R49, R143). -/
def Stn.copyNumbering (s : Stn) (f : FrameNo) : Stn :=
  match s.joinSource with
  | none => s
  | some h =>
    let d := h.frame - f
    { s with
      air.frame := s.air.frame + d, air.abstain := s.abstainMoved d, store.frame := s.store.frame + d,
      bus.mark := s.bus.mark + d, bus.round := s.bus.round.map fun r => { r with frame := r.frame + d },
      bill.period := h.period,
      ret.recent := if d = 0 then s.ret.recent else [] }

/-- The tags of the LOCAL entries, in the order of their hand-offs (R89). -/
def Stn.localTags (s : Stn) : List Tag :=
  (s.req.pend.filter fun e => decide (e.state = .localHere)).map (·.tag)

/-- The station enters RECLAIMING, a change of its own view (R42, R49, R50). -/
def Stn.enterReclaiming (s : Stn) : Stn :=
  { s with cust.state := .reclaiming, cust.buddyWait := 0, cust.join := .before,
           cust.heard := [] }.doubleFailure .atOnce

/-- JOINING ends at the office mark after the JOINING rounds (R49, R50, R89); a RETURN END taken in JOINING
takes the station on to LIVE. -/
def Stn.endJoining (s : Stn) (f : FrameNo) : Stn :=
  let s1 := { s.copyNumbering f with bill.pendingClose := none }.enterReclaiming
  let s2 := (if s1.cust.returnEndTaken then s1.takeReturnEnd .atOnce else s1).givePlaces s
  (s2.localTags.foldl Stn.routeEntry s2).settled

/-! ### The commands -/

/-- OFFICE_MARK_BUS (R20, R194): the frame that the mark begins is the one behind the frame of the mark before,
and a row with another number is no mark (log 7). -/
def execOfficeMarkBus (frame : FrameNo) (s : State) : Host.Outcome State Fault Refusal :=
  .next (if s.stn.ctl.phase = .closed ∧ frame = s.stn.bus.mark + 1 then { s with stn := s.stn.markBus } else s)

/-- ROUND_FRAME_SEND (R19, R21): the next window of the round is this station's. -/
def execRoundFrameSend (s : State) : Host.Outcome State Fault Refusal :=
  .next (match s.stn.ctl.phase, s.stn.bus.round with
    | .closed, some r => if r.isNext s.stn.self then { s with stn := s.stn.ownWindow r } else s
    | _, _ => s)

/-- WINDOW_READING (R19, R22): the next window of the round is peer p's. The declaring window of this station
ends with ADOPTION first (R45). -/
def execWindowReading (p : Station) (heard : List Byte) (s : State) :
    Host.Outcome State Fault Refusal :=
  .next (match s.stn.ctl.phase, s.stn.bus.round with
    | .closed, some r =>
      if p ≠ s.stn.self ∧ r.isNext p = true ∧ s.stn.cust.declaration ≠ .declaring then
        { s with stn := s.stn.windowEnd p r heard }
      else s
    | _, _ => s)

/-- NOTE_FAILURE (R27): a note after its eighth send, without its take. -/
def execNoteFailure (p : Station) (serial : NoteSerial) (s : State) : Host.Outcome State Fault Refusal :=
  .next (match s.stn.bus.outbox.find? (isNote p serial) with
    | some n =>
      if n.awaiting = true ∧ Config.sendLimit ≤ n.sends then
        { s with stn := (s.stn.resolveOne p serial).settledFrom s.stn }
      else s
    | none => s)

/-- ROUND_END (R19, R20): the last window of the round has ended. -/
def execRoundEnd (s : State) : Host.Outcome State Fault Refusal :=
  .next (match s.stn.ctl.phase, s.stn.bus.round with
    | .closed, some r =>
      if r.left = [] ∧ s.stn.cust.declaration ≠ .declaring then { s with stn := s.stn.roundEnd r } else s
    | _, _ => s)

/-- REQUEST_OVERALL_LIMIT (R92): the last count of one entry. -/
def execRequestOverallLimit (tag : Tag) (s : State) : Host.Outcome State Fault Refusal :=
  .next (match s.stn.pend? tag with
    | some e =>
      if e.state.isHolding = false ∧ Config.overallRounds ≤ e.rounds + 1 then
        { s with stn := ((s.stn.updPend tag PendEntry.count).judgeEntry tag).settled }
      else s
    | none => s)

/-- ANSWER_LIMIT (R92): the last count of one entry. -/
def execAnswerLimit (tag : Tag) (s : State) : Host.Outcome State Fault Refusal :=
  .next (match s.stn.pend? tag with
    | some e =>
      if e.state = .awaiting ∧ Config.answerRounds ≤ e.wait + 1 then
        { s with stn := ((s.stn.updPend tag PendEntry.count).judgeEntry tag).settled }
      else s
    | none => s)

/-- DEFERRAL_END (R91): the last count of one entry. -/
def execDeferralEnd (tag : Tag) (s : State) : Host.Outcome State Fault Refusal :=
  .next (match s.stn.pend? tag with
    | some e =>
      if e.state = .deferred ∧ Config.deferralRounds ≤ e.wait + 1 then
        { s with stn := ((s.stn.updPend tag PendEntry.count).judgeEntry tag).settled }
      else s
    | none => s)

/-- JOINING_END (R49). -/
def execJoiningEnd (s : State) : Host.Outcome State Fault Refusal :=
  .next (match s.stn.cust.state, s.stn.cust.join with
    | .joining, .complete f => { s with stn := s.stn.endJoining f }
    | _, _ => s)

end Sys2Proof.Machine
end

