-- ==== Sys2Proof/Machine/Reports.lean ====
section
/-!
DEFINITION. The Return Unit (chapter 8): the duplicate filter, the lookup and the matching of reports, and
what reports do to messages.
-/

namespace Sys2Proof.Machine

/-! ### The duplicate filter (R142) -/

/-- The age of a list entry at air frame f (R142). -/
def RecentReport.age (f : FrameNo) (e : RecentReport) : Nat := (f - e.frame).toNat

/-- The list with an accepted report at its newest end: an identical entry is removed, then the oldest of
16 (R142). -/
def enterReport (l : List RecentReport) (e : RecentReport) : List RecentReport :=
  let others := l.filter fun x => decide (x.report ≠ e.report)
  (if Config.recentCap ≤ others.length then others.drop (others.length + 1 - Config.recentCap)
   else others) ++ [e]

/-- The list holds an identical entry younger than W frames (R142). -/
def Stn.suppresses (s : Stn) (q : Report) : Bool :=
  s.ret.recent.any fun e => decide (e.report = q ∧ e.age s.air.frame < s.img.width)

/-- A report is accepted into the list (R142). -/
def Stn.acceptReport (s : Stn) (q : Report) : Stn :=
  { s with ret.recent := enterReport s.ret.recent ⟨q, s.air.frame⟩ }

/-! ### Lookup and matching (R144, R145) -/

/-- The pager address of a report. -/
def Report.addr : Report → PagerAddr
  | .received a _ | .full a _ | .ready a | .register a _ => a

def Stn.countLate (s : Stn) : Stn := { s with ret.late := satInc s.ret.late }

/-- The head of a record's queue. -/
def Stn.head? (s : Stn) (r : Record) : Option Message := r.queue.head?.bind s.msg?

/-- A tagged report matched against the head: late, stale, or handed on (R145). -/
def Stn.matchTag (s : Stn) (r : Record) (tag : Tag) (act : Message → Stn) : Stn :=
  match s.head? r with
  | none => s.countLate
  | some m =>
    match m.tag with
    | none => s.countLate
    | some t => if t = tag then act m else { s with ret.stale := satInc s.ret.stale }

/-! ### Effects (R146, R148 to R150) -/

/-- A matching RECEIVED (R146). -/
def Stn.acknowledge (s : Stn) (m : Message) : Stn :=
  if s.committed m then
    match m.pending with
    | none => s.updMsg m.serial fun m => { m with pending := some .delivered }
    | some _ => s.countLate
  else s.finalOutcome m.serial .delivered

/-- A message enters HELD for the hold limit of its record's plan (R148); the ladder is first brought
within the plan (R152). -/
def Stn.enterHold (s : Stn) (r : Record) (serial : Serial) : Stn :=
  let plan := s.planOf r
  s.updMsg serial fun m =>
    { m with state := .held, target := none,
             ladder := m.ladder.map fun l => { l.within plan with wait := plan.hold } }

/-- A matching FULL (R148). -/
def Stn.hold (s : Stn) (r : Record) (m : Message) : Stn :=
  if s.committed m then s.countLate
  else
    match m.state with
    | .held => s
    | _ => (s.leaveFlight m).enterHold r m.serial

/-- A READY report at the head (R149). -/
def Stn.readyReport (s : Stn) (r : Record) : Stn :=
  match s.head? r with
  | some m => if m.state = .held then s.endHold m.serial else s
  | none => s

/-- A REGISTER report: the last zone, and a PAUSED head's wait (R150). -/
def Stn.register (s : Stn) (r : Record) (z : Zone) : Stn :=
  let s1 := s.updRec r.admin.sub fun r => { r with lastZone := some z }
  match s1.head? r with
  | some m => if m.state = .paused then s1.endWait m.serial true else s1
  | none => s1

/-- An accepted report acts on the record that holds its address (section 8.4). -/
def Stn.actOnRecord (s : Stn) (r : Record) : Report → Stn
  | .received _ tag => s.matchTag r tag s.acknowledge
  | .full _ tag => s.matchTag r tag (s.hold r)
  | .ready _ => s.readyReport r
  | .register _ z => s.register r z

/-- The lookup of an accepted report (R144). -/
def Stn.lookupReport (s : Stn) (q : Report) : Stn :=
  match s.recAt? q.addr with
  | none => { s with ret.foreign := satInc s.ret.foreign }
  | some r => if s.inTransit r.admin.sub then s.countLate else s.actOnRecord r q

/-- A good report (R140, R142). -/
def Stn.goodReport (s : Stn) (q : Report) : Stn :=
  if s.suppresses q then { s with ret.suppressed := satInc s.ret.suppressed }
  else (s.acceptReport q).lookupReport q

/-- A bad report is discarded and counted (R140). -/
def Stn.badReport (s : Stn) : Stn := { s with ret.badChecks := satInc s.ret.badChecks }

/-- Reports are taken only once the configuration is closed (R140). -/
def Stn.takeReport (s : Stn) (q : Report) : Stn :=
  if s.ctl.phase = .closed then s.goodReport q else s

/-! ### The commands -/

/-- REPORT_RECEIVED (R146). -/
def execReportReceived (a : PagerAddr) (tag : Tag) (s : State) : Host.Outcome State Fault Refusal :=
  .next { s with stn := (s.stn.takeReport (.received a tag)).givePlaces s.stn }

/-- REPORT_FULL (R148). -/
def execReportFull (a : PagerAddr) (tag : Tag) (s : State) : Host.Outcome State Fault Refusal :=
  .next { s with stn := s.stn.takeReport (.full a tag) }

/-- REPORT_READY (R149). -/
def execReportReady (a : PagerAddr) (s : State) : Host.Outcome State Fault Refusal :=
  .next { s with stn := s.stn.takeReport (.ready a) }

/-- REPORT_REGISTER (R150). -/
def execReportRegister (a : PagerAddr) (z : Zone) (s : State) : Host.Outcome State Fault Refusal :=
  .next { s with stn := (s.stn.takeReport (.register a z)).givePlaces s.stn }

/-- BAD_REPORT (R140, R202): the bytes of one report, taken whole, that are no good report. Other bytes are no
bad report (log 5). -/
def execBadReport (bytes : List Byte) (s : State) : Host.Outcome State Fault Refusal :=
  .next (if s.stn.ctl.phase = .closed ∧ wholeReport bytes = true ∧ judgeReport bytes = none then
      { s with stn := s.stn.badReport }
    else s)

/-- REPORT_GAP (R202): the bytes before a gap that lies inside a report. -/
def execReportGap (bytes : List Byte) (s : State) : Host.Outcome State Fault Refusal :=
  .next (if s.stn.ctl.phase = .closed ∧ insideReport bytes = true then
      { s with stn := s.stn.badReport }
    else s)

/-- REPORT_ENTRY_AGED (R142): the ageing of the recent report list at the start of air frame f. -/
def execReportEntryAged (f : FrameNo) (s : State) : Host.Outcome State Fault Refusal :=
  .next (if s.stn.ctl.phase = .closed then
      { s with stn := { s.stn with
          ret.recent := s.stn.ret.recent.filter fun e => decide (e.age f < s.stn.img.width) } }
    else s)

end Sys2Proof.Machine
end

