-- ==== Sys2Proof/Machine/Startup.lean ====
section
/-!
DEFINITION. The Start-up Controller (chapter 11): power-on, the reset line, the supply, the read of the
configuration image and the configuration close.
-/

namespace Sys2Proof.Machine

/-- The station at its reset values with levels of the reset line and the supply (R188). -/
def Stn.restart (resetAsserted supplyValid : Bool) : Stn :=
  { Stn.reset with
    ctl.resetAsserted := resetAsserted, ctl.supplyValid := supplyValid }

/-- The start of a read at the configuration port: select is asserted and the read request with start address
0 is sent (R190, R204). -/
def readRequest : List PortAct := [.select true, .send 0x03#8, .send 0x00#8, .send 0x00#8]

/-- The configuration port is given more (R190). -/
def Stn.drivePort (s : Stn) (acts : List PortAct) : Stn := { s with ctl.port := s.ctl.port ++ acts }

/-- HELD ends: the strap pins are sampled and the first read begins (R188 to R190). -/
def Stn.leaveHeld (s : Stn) (straps : BitVec 4) : Stn :=
  { s with ctl.phase := .reading false, ctl.station := straps.toFin }.drivePort readRequest

/-- HELD ends when the reset line is released with the supply valid (R188). -/
def Stn.tryStart (s : Stn) (straps : BitVec 4) : Stn :=
  if s.ctl.phase = .held ∧ s.ctl.resetAsserted = false ∧ s.ctl.supplyValid = true then
    s.leaveHeld straps
  else s

/-- Every line starts with its ready output asserted (R62). -/
def Stn.startLines (s : Stn) : Stn :=
  { s with intake.lines := s.intake.lines.map fun x => { x with ready := true } }

/-- The office map as it is formed (R37). -/
def formMap (roster : StationSet) : List MapEntry :=
  (members roster).map fun k =>
    { station := k, view := .joining, silent := 0, custodian := some k, silence := 0 }

/-- The configuration close (R193). -/
def Stn.close (s : Stn) (img : Image) : Stn :=
  { s with
    ctl.phase := .closed, ctl.image := some img, cust.state := .joining,
    cust.map := formMap img.roster }.startLines

/-- The station goes OFFLINE (R62, R192, R196). -/
def Stn.refuse (s : Stn) : Stn := { s with ctl.phase := .refused }.startLines

/-- The end of a read of the image: select is deasserted, and a first bad read begins again (R190, R192). -/
def Stn.readComplete (s : Stn) (bytes : List Byte) : Stn :=
  match s.ctl.phase with
  | .reading second =>
    let s1 := s.drivePort [.select false]
    if goodRead bytes then
      match readImage s.self bytes with
      | some img => s1.close img
      | none => s1.refuse
    else if second then s1.refuse
    else { s1 with ctl.phase := .reading true }.drivePort readRequest
  | _ => s

/-! ### The commands -/

/-- POWER_ON (R188): with the levels of the reset line and of the supply. HELD is left by a later row alone,
RESET_LINE_RELEASED or SUPPLY_VALID, which bring the straps, even where the reset line is not asserted and the supply
is valid already (DESIGN CHOICE, log 2). -/
def execPowerOn (resetAsserted supplyValid : Bool) (s : State) : Host.Outcome State Fault Refusal :=
  .next { s with stn := Stn.restart resetAsserted supplyValid }

/-- RESET_LINE_ASSERTED (R188). -/
def execResetLineAsserted (s : State) : Host.Outcome State Fault Refusal :=
  .next { s with stn := Stn.restart true s.stn.ctl.supplyValid }

/-- RESET_LINE_RELEASED (R188, R189). -/
def execResetLineReleased (straps : BitVec 4) (s : State) : Host.Outcome State Fault Refusal :=
  .next { s with stn := { s.stn with ctl.resetAsserted := false }.tryStart straps }

/-- CONFIGURATION_READ_COMPLETE (R190). -/
def execConfigurationReadComplete (bytes : List Byte) (s : State) : Host.Outcome State Fault Refusal :=
  .next { s with stn := s.stn.readComplete bytes }

/-- SUPPLY_BELOW_VALID_LEVEL (R188). -/
def execSupplyBelowValidLevel (s : State) : Host.Outcome State Fault Refusal :=
  .next { s with stn := Stn.restart s.stn.ctl.resetAsserted false }

/-- SUPPLY_VALID (R188, R189). -/
def execSupplyValid (straps : BitVec 4) (s : State) : Host.Outcome State Fault Refusal :=
  .next { s with stn := { s.stn with ctl.supplyValid := true }.tryStart straps }

end Sys2Proof.Machine
end

