-- ==== Sys2Proof/Machine/Dispatch.lean ====
section
/-!
DEFINITION. One arm for each command of Instr, each one call of its meaning.
-/

namespace Sys2Proof.Machine

/-- The effect of a command on everything but the queue. -/
def exec (i : Instr) (s : State) : Host.Outcome State Fault Refusal :=
  match i with
  | .powerOn resetAsserted supplyValid => Sys2Proof.Machine.execPowerOn resetAsserted supplyValid s
  | .resetLineAsserted => Sys2Proof.Machine.execResetLineAsserted s
  | .resetLineReleased straps => Sys2Proof.Machine.execResetLineReleased straps s
  | .configurationReadComplete bytes => Sys2Proof.Machine.execConfigurationReadComplete bytes s
  | .officeMarkBus frame => Sys2Proof.Machine.execOfficeMarkBus frame s
  | .officeMarkAirtime => Sys2Proof.Machine.execOfficeMarkAirtime s
  | .airFrameStart frame order => Sys2Proof.Machine.execAirFrameStart frame order s
  | .waitEnd serial => Sys2Proof.Machine.execWaitEnd serial s
  | .holdEnd serial => Sys2Proof.Machine.execHoldEnd serial s
  | .messageExpiry serial => Sys2Proof.Machine.execMessageExpiry serial s
  | .owedNoticeOffers => Sys2Proof.Machine.execOwedNoticeOffers s
  | .reportEntryAged frame => Sys2Proof.Machine.execReportEntryAged frame s
  | .joiningEnd => Sys2Proof.Machine.execJoiningEnd s
  | .roundFrameSend => Sys2Proof.Machine.execRoundFrameSend s
  | .adoption => Sys2Proof.Machine.execAdoption s
  | .windowReading peer heard => Sys2Proof.Machine.execWindowReading peer heard s
  | .silentView peer => Sys2Proof.Machine.execSilentView peer s
  | .noteFailure peer serial => Sys2Proof.Machine.execNoteFailure peer serial s
  | .roundEnd => Sys2Proof.Machine.execRoundEnd s
  | .requestOverallLimit tag => Sys2Proof.Machine.execRequestOverallLimit tag s
  | .answerLimit tag => Sys2Proof.Machine.execAnswerLimit tag s
  | .deferralEnd tag => Sys2Proof.Machine.execDeferralEnd tag s
  | .buddyWaitEnd => Sys2Proof.Machine.execBuddyWaitEnd s
  | .returnRetryDelayEnd => Sys2Proof.Machine.execReturnRetryDelayEnd s
  | .mirrorRestartWaitEnd => Sys2Proof.Machine.execMirrorRestartWaitEnd s
  | .returnWalkVisit => Sys2Proof.Machine.execReturnWalkVisit s
  | .returnWalkStandbyVisit => Sys2Proof.Machine.execReturnWalkStandbyVisit s
  | .mirrorWalkStep => Sys2Proof.Machine.execMirrorWalkStep s
  | .forwardReoffer => Sys2Proof.Machine.execForwardReoffer s
  | .characterReceived line value mark parityBit stopBit => Sys2Proof.Machine.execCharacterReceived line value mark parityBit stopBit s
  | .lineBreak line => Sys2Proof.Machine.execLineBreak line s
  | .markSelect line => Sys2Proof.Machine.execMarkSelect line s
  | .markAbandon line => Sys2Proof.Machine.execMarkAbandon line s
  | .orphanMark line => Sys2Proof.Machine.execOrphanMark line s
  | .dataCharacter line => Sys2Proof.Machine.execDataCharacter line s
  | .terminator line => Sys2Proof.Machine.execTerminator line s
  | .replyTransmitStart line => Sys2Proof.Machine.execReplyTransmitStart line s
  | .replySent line => Sys2Proof.Machine.execReplySent line s
  | .heldReplyOffer line => Sys2Proof.Machine.execHeldReplyOffer line s
  | .submit requester sub priority body => Sys2Proof.Machine.execSubmit requester sub priority body s
  | .cancel requester station serial => Sys2Proof.Machine.execCancel requester station serial s
  | .query requester station serial => Sys2Proof.Machine.execQuery requester station serial s
  | .enrol requester sub addr pagerClass tariff plan zones quota threshold => Sys2Proof.Machine.execEnrol requester sub addr pagerClass tariff plan zones quota threshold s
  | .amend requester sub groups => Sys2Proof.Machine.execAmend requester sub groups s
  | .suspend requester sub => Sys2Proof.Machine.execSuspend requester sub s
  | .resume requester sub => Sys2Proof.Machine.execResume requester sub s
  | .withdraw requester sub => Sys2Proof.Machine.execWithdraw requester sub s
  | .meterRead requester sub => Sys2Proof.Machine.execMeterRead requester sub s
  | .periodClose line ctx => Sys2Proof.Machine.execPeriodClose line ctx s
  | .status line ctx => Sys2Proof.Machine.execStatus line ctx s
  | .statusClear line ctx => Sys2Proof.Machine.execStatusClear line ctx s
  | .reportReceived addr tag => Sys2Proof.Machine.execReportReceived addr tag s
  | .reportFull addr tag => Sys2Proof.Machine.execReportFull addr tag s
  | .reportReady addr => Sys2Proof.Machine.execReportReady addr s
  | .reportRegister addr zone => Sys2Proof.Machine.execReportRegister addr zone s
  | .badReport bytes => Sys2Proof.Machine.execBadReport bytes s
  | .reportGap bytes => Sys2Proof.Machine.execReportGap bytes s
  | .slotStart slot => Sys2Proof.Machine.execSlotStart slot s
  | .pageCompletion serial => Sys2Proof.Machine.execPageCompletion serial s
  | .drainVisit => Sys2Proof.Machine.execDrainVisit s
  | .billingBlockStart accept => Sys2Proof.Machine.execBillingBlockStart accept s
  | .billingBlockSent => Sys2Proof.Machine.execBillingBlockSent s
  | .supplyBelowValidLevel => Sys2Proof.Machine.execSupplyBelowValidLevel s
  | .supplyValid straps => Sys2Proof.Machine.execSupplyValid straps s

end Sys2Proof.Machine
end

