-- ==== Sys2Proof/WellFormed.lean ====
section
/-!
DEFINITION. Well-formed commands: the bounds that the rules put on operands whose Lean type is wider. A
command that breaks one still has its meaning (log 5, log 10); it is one that no sender makes.
-/

namespace Sys2Proof

/-- A subscriber number has 7 digits (R1). -/
def subWf (sub : Nat) : Bool := decide (sub < Config.subscriberLimit)

/-- A printable character (R72). -/
def printableWf (b : Byte) : Bool := decide (0x20 ≤ b.toNat ∧ b.toNat ≤ 0x7E)

/-- A body is 1 to 200 printable characters (R84). -/
def bodyWf (body : List Byte) : Bool :=
  decide (1 ≤ body.length ∧ body.length ≤ 200) && body.all printableWf

/-- A zone set is not empty (R1). -/
def zonesWf (z : ZoneSet) : Bool := decide (z ≠ 0)

/-- A group's zones are not empty (R85). -/
def groupWf : Group → Bool
  | .zones z => zonesWf z
  | _ => true

/-- An amend holds 1 to 8 groups (R85). -/
def groupsWf (gs : List Group) : Bool := decide (1 ≤ gs.length ∧ gs.length ≤ 8) && gs.all groupWf

/-- The request that a text can spell. -/
def Request.wf : Request → Bool
  | .submit sub _ body => subWf sub && bodyWf body
  | .enrol sub _ _ _ _ zones _ _ => subWf sub && zonesWf zones
  | .amend sub groups => subWf sub && groupsWf groups
  | .suspend sub | .resume sub | .withdraw sub | .meterRead sub => subWf sub
  | .cancel .. | .query .. | .periodClose | .status _ => true

/-- Bytes of a report by its kind byte; a byte of no known kind stands alone (R202). -/
def reportSize (kind : Byte) : Nat :=
  if kind = 0x31#8 ∨ kind = 0x32#8 ∨ kind = 0x34#8 then 7 else if kind = 0x33#8 then 6 else 1

/-- The bytes taken as one report are as many as its kind gives (R202). -/
def reportWf : List Byte → Bool
  | [] => false
  | k :: bs => decide (bs.length + 1 = reportSize k)

/-- The bytes before a gap inside a report are fewer than its kind gives (R202). -/
def gapWf : List Byte → Bool
  | [] => false
  | k :: bs => decide (bs.length + 1 < reportSize k)

/-- The order of the waits names no message twice (R155). -/
def orderWf (order : List Serial) : Bool := decide order.Nodup

/-- The request a command brings. -/
def Instr.request? : Instr → Option Request
  | .submit _ sub p body => some (.submit sub p body)
  | .cancel _ k n => some (.cancel k n)
  | .query _ k n => some (.query k n)
  | .enrol _ sub a k t p z q n => some (.enrol sub a k t p z q n)
  | .amend _ sub gs => some (.amend sub gs)
  | .suspend _ sub => some (.suspend sub)
  | .resume _ sub => some (.resume sub)
  | .withdraw _ sub => some (.withdraw sub)
  | .meterRead _ sub => some (.meterRead sub)
  | .periodClose _ _ => some .periodClose
  | .status _ _ => some (.status false)
  | .statusClear _ _ => some (.status true)
  | _ => none

/-- Who brings the request of a command. -/
def Instr.requester? : Instr → Option Requester
  | .submit who .. | .cancel who .. | .query who .. | .enrol who .. | .amend who .. | .suspend who _
  | .resume who _ | .withdraw who _ | .meterRead who _ => some who
  | .periodClose l c | .status l c | .statusClear l c => some (.context l c)
  | _ => none

/-- A well-formed command. -/
def Instr.wf (i : Instr) : Bool :=
  match i.request? with
  | some q => q.wf
  | none =>
    match i with
    | .airFrameStart _ order => orderWf order
    | .badReport bytes => reportWf bytes
    | .reportGap bytes => gapWf bytes
    | _ => true

end Sys2Proof
end

