-- ==== Sys2Proof/Laws/PerInstr.lean ====
section
/-!
SUPPORT. Per command: the request that a well-formed command brings passes the field tests of the parse
(R84, R85), so a command is turned away for its fields only where it is ill-formed.
-/

namespace Sys2Proof.Laws.FieldTests

/-- The request of a well-formed command passes the field tests. -/
def Statement (i : Instr) : Prop :=
  i.wf = true → ∀ q, i.request? = some q → Machine.fieldRefusal q = none

/-- A command that brings no request. -/
theorem of_none {i : Instr} (h : i.request? = none) : Statement i := by
  intro _ q hq
  rw [h] at hq
  cases hq

/-- A command whose request passes the field tests where it is well-formed. -/
theorem of_some {i : Instr} {q : Request} (h : i.request? = some q)
    (hq : q.wf = true → Machine.fieldRefusal q = none) : Statement i := by
  intro hwf p hp
  rw [h] at hp
  cases hp
  refine hq ?_
  simpa only [Instr.wf, h] using hwf

theorem sub_ok {q : Nat} (h : subWf q = true) : ¬Config.subscriberLimit ≤ q := by
  simpa only [subWf, decide_eq_true_eq, not_le] using h

theorem submit_ok (sub : Nat) (p : Priority) (body : List Byte)
    (h : (Request.submit sub p body).wf = true) : Machine.fieldRefusal (.submit sub p body) = none := by
  simp only [Request.wf, bodyWf, Bool.and_eq_true, decide_eq_true_eq] at h
  simp only [Machine.fieldRefusal, if_neg (sub_ok h.1), if_pos h.2.1]

theorem enrol_ok (sub : Nat) (a : PagerAddr) (k : PagerClass) (t p : Fin 8) (z : ZoneSet)
    (q n : Option (BitVec 32)) (h : (Request.enrol sub a k t p z q n).wf = true) :
    Machine.fieldRefusal (.enrol sub a k t p z q n) = none := by
  simp only [Request.wf, zonesWf, Bool.and_eq_true, decide_eq_true_eq] at h
  simp only [Machine.fieldRefusal, sub_ok h.1, h.2, false_or, if_false]

theorem amend_ok (sub : Nat) (groups : List Group) (h : (Request.amend sub groups).wf = true) :
    Machine.fieldRefusal (.amend sub groups) = none := by
  simp only [Request.wf, groupsWf, Bool.and_eq_true, decide_eq_true_eq, List.all_eq_true] at h
  obtain ⟨hsub, ⟨hlo, hhi⟩, hall⟩ := h
  have hz : ¬groups.contains (Group.zones 0) = true := by
    intro hc
    have := hall _ (List.contains_iff_mem.mp hc)
    simp [groupWf, zonesWf] at this
  simp only [Machine.fieldRefusal, sub_ok hsub, Nat.not_lt.mpr hlo, Nat.not_lt.mpr hhi, hz, false_or,
    Bool.false_eq_true, ite_false]

theorem powerOn (resetAsserted supplyValid : Bool) :
    Statement (.powerOn resetAsserted supplyValid) :=
  of_none rfl
theorem resetLineAsserted : Statement (.resetLineAsserted) := of_none rfl
theorem resetLineReleased (straps : BitVec 4) : Statement (.resetLineReleased straps) := of_none rfl
theorem configurationReadComplete (bytes : List Byte) :
    Statement (.configurationReadComplete bytes) :=
  of_none rfl
theorem officeMarkBus (frame : FrameNo) : Statement (.officeMarkBus frame) := of_none rfl
theorem officeMarkAirtime : Statement (.officeMarkAirtime) := of_none rfl
theorem airFrameStart (frame : FrameNo) (order : List Serial) :
    Statement (.airFrameStart frame order) :=
  of_none rfl
theorem waitEnd (serial : Serial) : Statement (.waitEnd serial) := of_none rfl
theorem holdEnd (serial : Serial) : Statement (.holdEnd serial) := of_none rfl
theorem messageExpiry (serial : Serial) : Statement (.messageExpiry serial) := of_none rfl
theorem owedNoticeOffers : Statement (.owedNoticeOffers) := of_none rfl
theorem reportEntryAged (frame : FrameNo) : Statement (.reportEntryAged frame) := of_none rfl
theorem joiningEnd : Statement (.joiningEnd) := of_none rfl
theorem roundFrameSend : Statement (.roundFrameSend) := of_none rfl
theorem adoption : Statement (.adoption) := of_none rfl
theorem windowReading (peer : Station) (heard : List Byte) :
    Statement (.windowReading peer heard) :=
  of_none rfl
theorem silentView (peer : Station) : Statement (.silentView peer) := of_none rfl
theorem noteFailure (peer : Station) (serial : NoteSerial) :
    Statement (.noteFailure peer serial) :=
  of_none rfl
theorem roundEnd : Statement (.roundEnd) := of_none rfl
theorem requestOverallLimit (tag : Tag) : Statement (.requestOverallLimit tag) := of_none rfl
theorem answerLimit (tag : Tag) : Statement (.answerLimit tag) := of_none rfl
theorem deferralEnd (tag : Tag) : Statement (.deferralEnd tag) := of_none rfl
theorem buddyWaitEnd : Statement (.buddyWaitEnd) := of_none rfl
theorem returnRetryDelayEnd : Statement (.returnRetryDelayEnd) := of_none rfl
theorem mirrorRestartWaitEnd : Statement (.mirrorRestartWaitEnd) := of_none rfl
theorem returnWalkVisit : Statement (.returnWalkVisit) := of_none rfl
theorem returnWalkStandbyVisit : Statement (.returnWalkStandbyVisit) := of_none rfl
theorem mirrorWalkStep : Statement (.mirrorWalkStep) := of_none rfl
theorem forwardReoffer : Statement (.forwardReoffer) := of_none rfl
theorem characterReceived (line : LineNo) (value : Byte) (mark parityBit stopBit : Bool) :
    Statement (.characterReceived line value mark parityBit stopBit) :=
  of_none rfl
theorem lineBreak (line : LineNo) : Statement (.lineBreak line) := of_none rfl
theorem markSelect (line : LineNo) : Statement (.markSelect line) := of_none rfl
theorem markAbandon (line : LineNo) : Statement (.markAbandon line) := of_none rfl
theorem orphanMark (line : LineNo) : Statement (.orphanMark line) := of_none rfl
theorem dataCharacter (line : LineNo) : Statement (.dataCharacter line) := of_none rfl
theorem terminator (line : LineNo) : Statement (.terminator line) := of_none rfl
theorem replyTransmitStart (line : LineNo) : Statement (.replyTransmitStart line) := of_none rfl
theorem replySent (line : LineNo) : Statement (.replySent line) := of_none rfl
theorem heldReplyOffer (line : LineNo) : Statement (.heldReplyOffer line) := of_none rfl
theorem submit (requester : Requester) (sub : Nat) (priority : Priority) (body : List Byte) :
    Statement (.submit requester sub priority body) :=
  of_some rfl (submit_ok _ _ _)
theorem cancel (requester : Requester) (station : Station) (serial : Serial) :
    Statement (.cancel requester station serial) :=
  of_some rfl fun _ => rfl
theorem query (requester : Requester) (station : Station) (serial : Serial) :
    Statement (.query requester station serial) :=
  of_some rfl fun _ => rfl
theorem enrol (requester : Requester) (sub : Nat) (addr : PagerAddr) (pagerClass : PagerClass)
    (tariff plan : Fin 8) (zones : ZoneSet) (quota threshold : Option (BitVec 32)) :
    Statement (.enrol requester sub addr pagerClass tariff plan zones quota threshold) :=
  of_some rfl (enrol_ok _ _ _ _ _ _ _ _)
theorem amend (requester : Requester) (sub : Nat) (groups : List Group) :
    Statement (.amend requester sub groups) :=
  of_some rfl (amend_ok _ _)
theorem suspend (requester : Requester) (sub : Nat) :
    Statement (.suspend requester sub) :=
  of_some rfl fun h => by
    simp only [Machine.fieldRefusal, if_neg (sub_ok h)]
theorem resume (requester : Requester) (sub : Nat) :
    Statement (.resume requester sub) :=
  of_some rfl fun h => by
    simp only [Machine.fieldRefusal, if_neg (sub_ok h)]
theorem withdraw (requester : Requester) (sub : Nat) :
    Statement (.withdraw requester sub) :=
  of_some rfl fun h => by
    simp only [Machine.fieldRefusal, if_neg (sub_ok h)]
theorem meterRead (requester : Requester) (sub : Nat) :
    Statement (.meterRead requester sub) :=
  of_some rfl fun h => by
    simp only [Machine.fieldRefusal, if_neg (sub_ok h)]
theorem periodClose (line : LineNo) (ctx : CtxNo) :
    Statement (.periodClose line ctx) :=
  of_some rfl fun _ => rfl
theorem status (line : LineNo) (ctx : CtxNo) : Statement (.status line ctx) := of_some rfl fun _ => rfl
theorem statusClear (line : LineNo) (ctx : CtxNo) :
    Statement (.statusClear line ctx) :=
  of_some rfl fun _ => rfl
theorem reportReceived (addr : PagerAddr) (tag : Tag) : Statement (.reportReceived addr tag) := of_none rfl
theorem reportFull (addr : PagerAddr) (tag : Tag) : Statement (.reportFull addr tag) := of_none rfl
theorem reportReady (addr : PagerAddr) : Statement (.reportReady addr) := of_none rfl
theorem reportRegister (addr : PagerAddr) (zone : Zone) :
    Statement (.reportRegister addr zone) :=
  of_none rfl
theorem badReport (bytes : List Byte) : Statement (.badReport bytes) := of_none rfl
theorem reportGap (bytes : List Byte) : Statement (.reportGap bytes) := of_none rfl
theorem slotStart (slot : Fin 32) : Statement (.slotStart slot) := of_none rfl
theorem pageCompletion (serial : Serial) : Statement (.pageCompletion serial) := of_none rfl
theorem drainVisit : Statement (.drainVisit) := of_none rfl
theorem billingBlockStart (accept : Bool) : Statement (.billingBlockStart accept) := of_none rfl
theorem billingBlockSent : Statement (.billingBlockSent) := of_none rfl
theorem supplyBelowValidLevel : Statement (.supplyBelowValidLevel) := of_none rfl
theorem supplyValid (straps : BitVec 4) : Statement (.supplyValid straps) := of_none rfl

end Sys2Proof.Laws.FieldTests
end

