-- ==== Sys2Proof/Safety.lean ====
section
/-!
DEFINITION. What the statements say: the invariants of a good state (capacities, keys, the walk grant, the
conservation of units), the conditions a request meets, and a state with one part replaced.
-/

namespace Sys2Proof.Machine

/-- The command answers a next state. -/
def Answers (o : Host.Outcome State Fault Refusal) : Prop := ∃ t, o = .next t

/-! ### Lines (R64, R65, R71, R74) -/

/-- FIFO, reply queue and assembly buffers within their capacities; the ready output is deasserted at 6
characters and more. -/
def Line.ok (x : Line) : Prop :=
  x.fifo.length ≤ Config.fifoCap ∧ (Config.fifoHigh ≤ x.fifo.length → x.ready = false) ∧
    x.replies.length ≤ Config.replyCap ∧ ∀ c, (x.ctx c).buffer.length ≤ Config.bufferCap

/-- Every line within its capacities, with nothing received before the lines start. -/
def LinesOk (s : Stn) : Prop :=
  ∀ l, (s.line l).ok ∧ (s.linesUp = false → (s.line l).fifo = [])

/-! ### Capacities of the tables and queues -/

/-- The tables, queues and lists of the station hold at most what their rules allow (R4, R24, R29, R82,
R88, R103, R104, R119, R125, R142, R181, R185): of the tables the active one, and not the slot buffer, whose
bound (R131, R132: the pages of two frames, at most 8 of each) rests on the office marks reaching the Bus Unit and
the Airtime Unit alike, as a queue of commands need not send them. -/
def Capacities (s : Stn) : Prop :=
  s.subs.active.length ≤ Config.tableCap ∧ s.store.messages.length ≤ Config.entryCap ∧
    (s.store.messages.map (·.blocks.length)).sum ≤ Config.blockCap ∧
    s.store.outcomes.length ≤ Config.outcomeCap ∧ s.bus.outbox.length ≤ Config.outboxCap ∧
    (∀ k : Station, (s.bus.memory.get k).length ≤ Config.takeMemoryCap) ∧
    s.req.pend.length ≤ Config.pendingCap ∧ s.req.cache.length ≤ Config.cacheCap ∧
    s.air.claims.length ≤ Config.claimCap ∧ s.ret.recent.length ≤ Config.recentCap ∧
    s.bill.queue.length ≤ Config.billingCap ∧ s.bill.forming.length ≤ Config.blockEntries ∧
    (s.bill.forming.length = Config.blockEntries → s.bill.pause = .full)

/-! ### Tables, walks and units (R4, R18, R173) -/

/-- No subscriber number appears twice in the active table (R4). -/
def ActiveUnique (s : Stn) : Prop := (s.subs.active.map (·.admin.sub)).Nodup

/-- The return walk is RUNNING. -/
def Stn.returnRunning (s : Stn) : Bool :=
  match s.subs.ret with
  | .running .. => true
  | _ => false

/-- The walk grant names the walk that is RUNNING; entries are under formation, and a pause stands, only
in a drain walk (R18, R179). -/
def GrantOk (s : Stn) : Prop :=
  (s.draining = true ↔ s.subs.grant = .drain) ∧ (s.returnRunning = true ↔ s.subs.grant = .ret) ∧
    (s.draining = false → s.bill.forming = [] ∧ s.bill.pause = .none)

/-- The units that records and the block under formation hold (R173). -/
def Stn.unitsHeld (s : Stn) : Nat :=
  (s.subs.active.map (·.meter.total)).sum + (s.bill.forming.map (·.total)).sum

/-- The law of R173, in the 48-bit arithmetic of the totals. -/
def UnitsBalance (s : Stn) : Prop :=
  s.meter.charged + s.meter.returnedIn =
    s.meter.billed + s.meter.returnedOut + s.meter.unmetered + units s.unitsHeld

/-- The three together. -/
def UnitsInv (s : State) : Prop := ActiveUnique s.stn ∧ GrantOk s.stn ∧ UnitsBalance s.stn

/-! ### A state with one part replaced -/

/-- The station with line l replaced. -/
def State.withLine (s : State) (l : LineNo) (y : Line) : State :=
  { s with stn.intake.lines := s.stn.intake.lines.set l.val y l.isLt }

/-- The line with context c replaced. -/
def Line.withCtx (x : Line) (c : CtxNo) (k : Context) : Line :=
  { x with ctxs := x.ctxs.set c.val k c.isLt }

/-- The line whose oldest FIFO entry has been taken, `rest` being left (R65). -/
def Line.took (x : Line) (rest : List FifoEntry) : Line :=
  { x with fifo := rest, ready := if rest.length ≤ Config.fifoLow then true else x.ready }

/-- The store with one message changed. -/
def Store.withMsg (t : Store) (serial : Serial) (f : Message → Message) : Store :=
  { t with messages := t.messages.map fun m => if m.serial = serial then f m else m }

/-- The active table with one record changed. -/
def Subscribers.withRec (t : Subscribers) (sub : Nat) (f : Record → Record) : Subscribers :=
  { t with active := t.active.map fun r => if r.admin.sub = sub then f r else r }

/-- The office map with one entry changed. -/
def Custody.withEntry (t : Custody) (k : Station) (f : MapEntry → MapEntry) : Custody :=
  { t with map := t.map.map fun e => if e.station = k then f e else e }

/-- A serial at the tail of the ready list of a priority (R109). -/
def Store.readyTail (t : Store) (p : Priority) (serial : Serial) : Store :=
  match p with
  | .urgent => { t with urgent := t.urgent ++ [serial] }
  | .normal => { t with normal := t.normal ++ [serial] }

/-- The message READY with this ladder, at the tail of its list (R156, R157). -/
def Store.readied (t : Store) (m : Message) (l : Ladder) : Store :=
  (t.withMsg m.serial fun x => { x with state := .ready, target := none, ladder := some l }).readyTail
    m.priority m.serial

/-- The ANSWER to request `tag` of peer k, as it enters the outbox (R24, R28). -/
def answerNote (k : Station) (tag : Tag) (res : Result) : Note :=
  { dest := k, body := .answer tag res, serial := none, awaiting := false, sends := 0, route := .here,
    held := false, stale := false, walk := .none }

/-- The station with an ANSWER behind every older note of its outbox. -/
def State.answered (s : State) (k : Station) (tag : Tag) (res : Result) : State :=
  { s with stn.bus.outbox := s.stn.bus.outbox ++ [answerNote k tag res] }

/-! ### The conditions a request meets -/

/-- A FORWARD of peer k can be taken and answered: the station is in the office, its outbox has a place, and
k is not viewed SILENT or FAILED (R28, R34). -/
def MayAnswer (s : Stn) (k : Station) : Prop :=
  s.ctl.phase = .closed ∧ k ≠ s.self ∧ inSet s.img.roster k = true ∧
    s.bus.outbox.length < Config.outboxCap ∧ (s.view k).down = false

/-- A request by subscriber number finds record r here (R5, R93). -/
def FoundHere (s : Stn) (sub : Nat) (r : Record) : Prop :=
  s.cust.state ≠ .joining ∧ (s.homeOf sub).isSome = true ∧ s.rec? sub = some r ∧ r.returning = false

/-- A submit of peer k for the record r found here passes every test (R93, R94, R106, R163). -/
def Admits (s : Stn) (k : Station) (sub : Nat) (body : List Byte) (r : Record) : Prop :=
  MayAnswer s k ∧ FoundHere s sub r ∧ sub < Config.subscriberLimit ∧ 1 ≤ body.length ∧ body.length ≤ 200 ∧
    (r.admin.pagerClass = .numeric → body.length ≤ 20 ∧ ∀ b ∈ body, 0x30 ≤ b.toNat ∧ b.toNat ≤ 0x39) ∧
    r.admin.service = .active ∧
    (∀ q, r.admin.quota = some q →
      r.meter.current + r.meter.reserved + (s.tariffOf r).fullCharge (segments body) ≤ q.toNat) ∧
    s.store.messages.length < Config.entryCap ∧
    (s.store.messages.map (·.blocks.length)).sum + segments body ≤ Config.blockCap

/-- The message that the next acceptance makes, in this state (R103, R106). -/
def Stn.newMessage (s : Stn) (sub : Nat) (p : Priority) (origin : MsgOrigin) (body : List Byte)
    (reserved : Nat) (state : MsgState) : Message :=
  { serial := s.nextSerial, sub := sub, priority := p, origin := origin, blocks := blocksOf body, tag := none,
    state := state, target := none, ladder := none,
    expiry := s.air.frame + BitVec.ofNat 16
      (match p with | .urgent => s.img.validUrgent | .normal => s.img.validNormal),
    reserved := reserved, transmissions := 0, pending := none }

/-- A closed entry can be handed over: a pending entry is free, no line waits for one, and the entries
that hold a reply are live (R69, R82, R101). -/
def MayHandOver (s : Stn) : Prop :=
  s.ctl.phase = .closed ∧ s.req.pend.length < Config.pendingCap ∧ s.intake.waiting = [] ∧
    ∀ t ∈ s.req.holdOrder, ∃ e ∈ s.req.pend, e.tag = t

/-- The request tag of the next hand-off (R83). -/
def Stn.nextTag (s : Stn) : Tag :=
  firstFree (Config.pendingCap + 1) s.req.tagCounter (s.req.pend.map (·.tag))

/-- The reply of a request of context c is in the queue of line l and the context is IDLE; the request has
come and gone but for its request tag (R74, R83, R100). -/
def State.replied (s : State) (l : LineNo) (c : CtxNo) (text : List Byte) : State :=
  let x := s.stn.line l
  { s.withLine l { x.withCtx c { x.ctx c with state := .idle, buffer := [] } with
      replies := x.replies ++ [⟨c, (x.ctx c).gen, text⟩] } with
    stn.req.tagCounter := s.stn.nextTag + 1 }

/-- Command i hands over the closed entry of the COLLECTING current context c of line l, with this text and
this result of the parse; y is the line without what the command takes from it. A command of section 5.4 brings
its request by its fields and takes nothing (the model's choice, log 10); TERMINATOR takes the terminator, whose
loss mark has no context left to damage (R66, R73). -/
def HandsOver (i : Instr) (s : Stn) (l : LineNo) (c : CtxNo) (text : List Byte)
    (parsed : Except Word Request) (y : Line) : Prop :=
  (s.line l).current = some c ∧ ((s.line l).ctx c).state = .collecting ∧
    ((∃ q, i.request? = some q ∧ i.requester? = some (.context l c) ∧ text = requestText q ∧
        parsed = admitted (s.lineSettings l).role q ∧ y = s.line l) ∨
      ∃ lost rest, i = .terminator l ∧ (s.line l).fifo = ⟨0x0D, false, lost⟩ :: rest ∧
        text = ((s.line l).ctx c).buffer ∧ parsed = parseEntry (s.lineSettings l).role text ∧
        y = (s.line l).took rest)

/-- The pending entry of a request that context c has just handed over (R82). -/
def Stn.handedEntry (s : Stn) (l : LineNo) (c : CtxNo) (text : List Byte) (q : Request) (route : Route)
    (target : Station) (state : PendState) : PendEntry :=
  { line := l, ctx := c, gen := ((s.line l).ctx c).gen, role := (s.lineSettings l).role,
    text := text, request := some q, tag := s.nextTag, route := route, target := some target,
    state := state, deferrals := 0, rounds := 0, wait := 0 }

/-- The station with context c AWAITING and this entry in the pending request table (R73, R82, R83). -/
def Stn.handed (s : Stn) (l : LineNo) (c : CtxNo) (e : PendEntry) : Stn :=
  { s with
    intake.lines := s.intake.lines.set l.val
      ((s.line l).withCtx c { (s.line l).ctx c with state := .awaiting, buffer := [] }) l.isLt,
    req := { s.req with pend := s.req.pend ++ [e], tagCounter := s.nextTag + 1 } }

/-- The request of entry e is finished with this text: the reply is in the queue of its line, whose context is
IDLE, and the entry is gone (R74, R100). -/
def State.finished (s : State) (e : PendEntry) (text : List Byte) : State :=
  let x := s.stn.line e.line
  { s.withLine e.line { x.withCtx e.ctx { x.ctx e.ctx with state := .idle, buffer := [] } with
      replies := x.replies ++ [⟨e.ctx, e.gen, text⟩] } with
    stn.req.pend := s.stn.req.pend.filter fun p => decide (p.tag ≠ e.tag) }

/-- The line of entry e accepts its reply (R74). -/
def ReplyFits (s : Stn) (e : PendEntry) : Prop :=
  ((s.line e.line).ctx e.ctx).gen = e.gen ∧ (s.line e.line).replies.length < Config.replyCap

/-- The FORWARD of an entry for station m, as it enters the outbox: held under a SILENT or FOREIGN view
(R24, R33, R90). -/
def Stn.forwardNote (s : Stn) (tag : Tag) (text : List Byte) (route : Route) (m : Station) : Note :=
  { dest := m, body := .forward tag text, serial := none, awaiting := false, sends := 0, route := route,
    held := decide (s.view m = .silent ∨ s.view m = .foreign), stale := false, walk := .none }

/-! ### A final outcome (R114, R165) -/

/-- The charge of a final outcome (R166). -/
def Message.charge (m : Message) (fee : Nat) (o : Outcome) : Nat :=
  if m.origin = MsgOrigin.notice then 0
  else if o = .delivered ∨ o = .unconfirmed then m.reserved
  else if m.transmissions = 0 then 0
  else min fee m.reserved

/-- The message is present with record r, and it ends alone: no roll is due, the charge stays below the limit of
R167, and no other message waits in the queue. -/
def EndsAlone (s : Stn) (m : Message) (r : Record) (o : Outcome) : Prop :=
  ActiveUnique s ∧ s.msg? m.serial = some m ∧ s.rec? m.sub = some r ∧
    later s.bill.period r.meter.period = false ∧
    r.meter.current + m.charge (s.tariffOf r).fee o ≤ Config.unitLimit ∧ r.queue = [m.serial]

/-- The message ends alone, and no notice can be called for. -/
def EndsPlainly (s : Stn) (m : Message) (r : Record) (o : Outcome) : Prop :=
  EndsAlone s m r o ∧ r.admin.threshold = none

/-- The station after the message has left flight: out of its claim, its page or its ready list
(R114 step 1). -/
def Stn.landed (s : Stn) (m : Message) : Stn :=
  match m.state with
  | .claimed => { s with air.claims := s.air.claims.map fun c =>
      if c.message = some m.serial then { c with message := none } else c }
  | .loaded => { s with air.buffer := s.air.buffer.filter fun p => decide (p.message ≠ m.serial) }
  | .ready => { s with store.urgent := s.store.urgent.filter (· ≠ m.serial),
                       store.normal := s.store.normal.filter (· ≠ m.serial) }
  | _ => s

/-- The station after such an end: the message has left flight, queue and store, its outcome is the newest
of the list, its reservation is released and its charge applied. -/
def Stn.ended (s : Stn) (m : Message) (r : Record) (o : Outcome) : Stn :=
  let a := m.charge (s.tariffOf r).fee o
  let t := s.landed m
  { t with
    store := { t.store with
      messages := s.store.messages.filter fun x => decide (x.serial ≠ m.serial),
      outcomes := s.store.outcomes.drop (s.store.outcomes.length - 63) ++ [(m.serial, o)] },
    subs := s.subs.withRec m.sub fun x => { x with
      queue := x.queue.filter (· ≠ m.serial),
      meter := { x.meter with reserved := x.meter.reserved - m.reserved, current := x.meter.current + a } },
    meter.charged := s.meter.charged + units a }

/-! ### The ladder (R152) -/

/-- The ladder brought within a plan: step, inner and outer remaining at most what the plan has. -/
def Ladder.inside (l : Ladder) (p : Plan) : Ladder :=
  let step := min l.step (p.steps.length - 1)
  { step := step, inner := min l.inner (p.stepAt step).repeats, outer := min l.outer p.rounds,
    wait := l.wait }

/-- The step ends its round: its exit is END, or it is the plan's last (R151). -/
def Plan.endsRound (p : Plan) (step : Nat) : Prop :=
  (p.stepAt step).ends = true ∨ p.steps.length ≤ step + 1

/-! ### Reports (R142, R144) -/

/-- The command that brings a good report. -/
def Report.command : Report → Instr
  | .received a tag => .reportReceived a tag
  | .full a tag => .reportFull a tag
  | .ready a => .reportReady a
  | .register a z => .reportRegister a z

/-- No identical report was accepted less than W frames ago. -/
def Report.isFresh (q : Report) (s : Stn) : Prop :=
  ∀ e ∈ s.ret.recent, e.report = q → s.img.width ≤ (s.air.frame - e.frame).toNat

/-- The station with a report at the newest end of the recent report list. -/
def Stn.accepted (s : Stn) (q : Report) : Stn :=
  let others := s.ret.recent.filter fun x => decide (x.report ≠ q)
  { s with ret.recent := others.drop (others.length - 15) ++ [⟨q, s.air.frame⟩] }

/-- A fresh report finds record r, which is not in transit. -/
def Report.finds (q : Report) (s : Stn) (r : Record) : Prop :=
  s.ctl.phase = .closed ∧ q.isFresh s ∧ s.recAt? q.addr = some r ∧ s.inTransit r.admin.sub = false

/-! ### Rounds (chapter 2) -/

/-- Rounds run at position r. -/
def InRound (s : Stn) (r : RoundPos) : Prop := s.ctl.phase = .closed ∧ s.bus.round = some r

/-- The next window of the round is station k's: the declaring window of this station has ended with its
adoption (R19, R45). -/
def AtWindow (s : Stn) (r : RoundPos) (k : Station) : Prop :=
  InRound s r ∧ r.left.head? = some k ∧ s.cust.declaration ≠ .declaring

/-- Every window of the round has ended (R19, R45). -/
def AtRoundEnd (s : Stn) (r : RoundPos) : Prop :=
  InRound s r ∧ r.left = [] ∧ s.cust.declaration ≠ .declaring

/-- The VALID frame f of peer p is heard in p's window (R22); no line waits for a pending entry. -/
def Hears (s : Stn) (r : RoundPos) (p : Station) (heard : List Byte) (f : RoundFrame) : Prop :=
  AtWindow s r p ∧ p ≠ s.self ∧ s.intake.waiting = [] ∧ heard ≠ [] ∧
    readFrame s.img.roster heard = some f ∧ f.office = s.img.office ∧ f.sender = p ∧ f.index = r.index

/-- A frame of a LIVE peer that changes no view and no custodian: it is viewed LIVE, lists no custody and has
none but its own, and no JOINING rounds run here. -/
def KeepsTheMap (s : Stn) (p : Station) (f : RoundFrame) : Prop :=
  f.state = .live ∧ s.view p = .live ∧ f.custody = 0 ∧ (s.custodian p).isSome = true ∧
    (∀ k ∈ s.roster, k ≠ p → s.custodian k ≠ some p) ∧ ∀ x, s.cust.join ≠ .running x

/-- Such a frame of no later period. -/
def ChangesNothing (s : Stn) (p : Station) (f : RoundFrame) : Prop :=
  KeepsTheMap s p f ∧ later f.period s.bill.period = false

/-- The station after a VALID frame that keeps view and custodians, but for its takes and notes (R38, R126,
R175). -/
def Stn.heard (s : Stn) (p : Station) (r : RoundPos) (f : RoundFrame) : Stn :=
  { s with
    cust := s.cust.withEntry p fun e => { e with silent := 0, silence := f.silence },
    bus := { s.bus with
      round := some { r with left := r.left.tail },
      lastSender := s.bus.lastSender.set p.val (some f.state) p.isLt },
    bill.peers := s.bill.peers.set p.val (some (f.period, f.draining)) p.isLt,
    air.peerClaims := if r.index = 3 then s.air.peerClaims
      else s.air.peerClaims.set p.val
        (if f.state = .joining then [] else f.claims.filter fun c => decide (c.target = r.frame + 2)) p.isLt }

/-- The station after the note with this serial has been taken from peer p, but for what its owner does with it
(R28, R29). -/
def Stn.took (s : Stn) (p : Station) (serial : NoteSerial) : Stn :=
  let memory := s.bus.memory.get p
  { s with bus := { s.bus with
    takes := s.bus.takes ++ [(p, serial)],
    memory := s.bus.memory.set p.val (memory.drop (memory.length - 15) ++ [serial]) p.isLt } }

/-- The frame holds one note, to this station, whose serial is not remembered, and no take; no note to p waits
for its take (R28, R29). -/
def BringsNote (s : Stn) (p : Station) (f : RoundFrame) (w : WireNote) : Prop :=
  f.takes = [] ∧ f.notes = [w] ∧ w.dest = s.self ∧ w.serial ∉ s.bus.memory.get p ∧
    ∀ n ∈ s.bus.outbox, n.dest = p → n.awaiting = false

/-- The frame brings its lists alone: no take, no note, and no later period. -/
def BringsLists (s : Stn) (f : RoundFrame) : Prop :=
  f.takes = [] ∧ f.notes = [] ∧ later f.period s.bill.period = false

/-- Station p is the custodian of no other roster station but, it may be, k. -/
def HoldsNoneBut (s : Stn) (p k : Station) : Prop :=
  ∀ j ∈ s.roster, j ≠ p → j ≠ k → s.custodian j ≠ some p

/-- State u is state t but for its office map, in which this function gives each entry. -/
def MapsTo (u t : State) (f : Station → MapEntry → MapEntry) : Prop :=
  u = { t with stn.cust.map := u.stn.cust.map } ∧ ∀ h, u.stn.entry? h = (t.stn.entry? h).map (f h)

/-- No request waits on the office map: the outbox and the pending request table are empty, and no JOINING
rounds run here. -/
def NoRequests (s : Stn) : Prop :=
  s.bus.outbox = [] ∧ s.req.pend = [] ∧ ∀ x, s.cust.join ≠ .running x

/-- No peer is viewed SILENT or FAILED but those of the list. -/
def OthersUp (s : Stn) (down : List Station) : Prop :=
  ∀ k ∈ s.roster, k ≠ s.self → k ∉ down → (s.view k).down = false

/-- The peers that agree, with this station, that the ward is silent (R44). -/
def Quorum (s : Stn) : Nat :=
  1 + (s.roster.filter fun j => decide (j ≠ s.self ∧ j ≠ s.ward) && (s.view j).heard &&
    (s.entry? j).any fun e => inSet e.silence s.ward).length

/-- The return walk from its start, with the grant: the ward's ADOPTED records are returning; without one the
walk is in phase STANDBY at once (R54). -/
def Subscribers.returning (t : Subscribers) (ward : Station) : Subscribers :=
  let active := t.active.map fun r =>
    if r.origin = .adopted ∧ r.home = ward then { r with returning := true } else r
  { t with
    active := active, grant := .ret,
    ret := if active.any (·.returning) then .running .adopted none else .running .standby none }

/-- The station with the grant that the drain walk or the return walk has released: to a WAITING return walk,
else to the pending close, else to nobody (R18, R178). -/
def Stn.released (s : Stn) : Stn :=
  match s.subs.ret, s.bill.pendingClose with
  | .waiting, _ => { s with subs := s.subs.returning s.ward }
  | _, none => { s with subs.grant := .nobody }
  | _, some q =>
    { s with
      bill := { s.bill with period := q, pendingClose := none, forming := [], pause := .none },
      subs := { s.subs with grant := .drain, drain := .running none } }

/-- A block of these entries is plain: no total needs a scale and no carry is beyond its limit (R182). -/
def FormsPlainly (s : Stn) (es : List FormEntry) : Prop :=
  (∀ e ∈ es, e.total ≤ 65535) ∧ (∀ x ∈ s.subs.active, x.meter.carry ≤ Config.carryLimit) ∧ ActiveUnique s

/-- The number of the next block of period p: the counter's where it counts p, else 0 (R183). -/
def Billing.nextNumber (b : Billing) (p : Period) : BitVec 16 :=
  if b.counted = some p then b.counter else 0

/-- The station with such a block, of the period that the walk drains, at the newest end of this queue (R181 to
R183). -/
def Stn.formed (s : Stn) (es : List FormEntry) (queue : List Block) : Stn :=
  let number := s.bill.nextNumber (s.bill.period - 1)
  { s with
    meter.billed := s.meter.billed + units (es.map (·.total)).sum,
    bill := { s.bill with
      forming := [], pause := .none, counter := number + 1, counted := some (s.bill.period - 1),
      queue := queue ++ [
        { station := s.self, period := s.bill.period - 1, number := number, scale := 0,
          entries := es.map fun e =>
            { sub := e.sub, field := BitVec.ofNat 16 e.total, limited := false, adopted := e.adopted,
              final := e.final } }] } }

/-- The lost windows of a heard peer in rounds 0 to 2 make the target frame abstained, once (R127). -/
def Stn.abstained (s : Stn) (t : FrameNo) : Stn :=
  if t ∈ s.air.abstain then s
  else { s with air := { s.air with
    abstain := s.air.abstain ++ [t], framesAbstained := satInc s.air.framesAbstained } }

/-- No station's buddy is viewed FAILED, so that no view change makes a double failure (R42). -/
def NoneFailed (s : Stn) : Prop := ∀ k ∈ s.roster, s.view (buddyOf s.img.roster k) ≠ .failed

/-- No peer is FAILED anew by the double failure test: a SILENT or FAILED peer whose buddy is viewed FAILED is viewed
FAILED itself, and has no custodian already (R42). -/
def NoDoubleFailure (s : Stn) : Prop :=
  ∀ k ∈ s.roster, k ≠ s.self → (s.view k).down = true → s.view (buddyOf s.img.roster k) = .failed →
    s.view k = .failed ∧ s.custodian k = none

/-- No wait kept in rounds runs: LIVE, the ward LIVE, the return walk IDLE, no retry delay, no RESTART WAIT,
and no line waits for a pending entry. -/
def QuietRound (s : Stn) : Prop :=
  s.cust.state = .live ∧ s.view s.ward = .live ∧ s.subs.ret = .idle ∧ s.cust.retryDelay = none ∧
    (∀ n, s.subs.mirror ≠ .restartWait n) ∧ s.intake.waiting = []

/-- Every window of the round at r has ended and no line waits for a pending entry; the round after it is `next`, or
there is none after round 3 where no mark has been noted and no JOINING rounds run (R20). The end of round 2, which
closes the slot map, is none of these. -/
def EndsInto (s : Stn) (r : RoundPos) (next : Option RoundPos) : Prop :=
  AtRoundEnd s r ∧ s.intake.waiting = [] ∧
    ((∃ k : Fin 4, r.index.val < 2 ∧ k.val = r.index.val + 1 ∧
        next = some { r with index := k, left := s.roster }) ∨
      r.index = 3 ∧ s.bus.noted = false ∧ (∀ f, s.cust.join ≠ .running f) ∧ next = none)

/-- No check of a round end is due: no buddy wait runs (R50), and no declaration or re-declaration meets its quorum
(R44, R47). -/
def NoCheckDue (s : Stn) : Prop :=
  s.cust.state ≠ .reclaiming ∧ (s.cust.state = .live → s.view s.ward = .silent → Quorum s < s.img.quorum)

/-- A pending entry after the count of one round end (R92). -/
def PendEntry.aged (e : PendEntry) : PendEntry :=
  match e.state with
  | .holding _ => e
  | .localHere => { e with rounds := e.rounds + 1 }
  | _ => { e with rounds := e.rounds + 1, wait := e.wait + 1 }

/-- The count of a round end brings the entry to none of its limits (R92). -/
def PendEntry.staysBelow (e : PendEntry) : Prop :=
  (∃ text, e.state = .holding text) ∨
    e.rounds < 23 ∧ (e.state = .awaiting → e.wait < 11) ∧ (e.state = .deferred → e.wait < 3)

/-- A note of this outbox may go in a frame: it is DUE, no held FORWARD, and either sent before or one to an addressee
with fewer than 16 sent notes in the outbox (R25, R33). -/
def Note.maySend (n : Note) (outbox : List Note) : Prop :=
  n.awaiting = false ∧ (n.forwardTag? ≠ none → n.held = false) ∧
    (n.sends = 0 → (outbox.filter fun o => decide (o.dest = n.dest ∧ 0 < o.sends)).length < 16)

/-- The notes that a frame has changed, each as it stood in the outbox before and after it (R25). -/
def sentPairs (before after : List Note) : List (Note × Note) :=
  (before.zip after).filter fun p => decide (p.1 ≠ p.2)

/-- The bytes that these notes take in a frame (R200). -/
def noteBytes (l : List (Note × Note)) : Nat := (l.map fun p => 3 + p.1.body.content.length).sum

/-- An older note to the addressee of n might have gone in the frame, and was left for want of room; so n waits behind
it (R199). -/
def ShutOut (n : Note) (older olderAfter younger : List Note) : Prop :=
  ∃ (a a' b b' : List Note) (o : Note), older = a ++ o :: b ∧ olderAfter = a' ++ o :: b' ∧
    a.length = a'.length ∧ o.dest = n.dest ∧ o.maySend (a' ++ o :: (b ++ n :: younger))

/-- No entry of the pending request table waits in SENDING for an outbox place (R90). -/
def NoEntryWaits (s : Stn) : Prop :=
  ∀ e ∈ s.req.pend, e.state = .sending → ∃ n ∈ s.bus.outbox, n.forwardTag? = some e.tag

/-- The return walk takes no outbox place ahead of the mirror walk (R24). -/
def NoVisitWaits (s : Stn) : Prop :=
  ∀ pos, s.subs.ret ≠ .running .adopted pos ∧ s.subs.ret ≠ .running .standby pos

end Sys2Proof.Machine
end

