-- ==== Sys2Proof/Certificates/Slice0/Obligations.lean ====
section
/-!
DEFINITION. The statements about the station, for the provers. Each is a closed proposition; its docstring
names the rules it rests on.
-/

section

open Sys2Proof Sys2Proof.Machine

/-! ### The machine -/

/-- One step runs the command at the front of the queue on the rest of it; on an empty queue the slot under way
on the air feed ends and nothing else happens (the queue and its empty step are the model's choice, log 1). -/
def Obligations.StepRunsTheFrontCommand : Prop :=
  (∀ (c : Instr) (rest : List Instr) (s : State),
    step { s with pending := c :: rest } = exec c { s with pending := rest }) ∧
  ∀ s : State, s.pending = [] → step s = .next { s with stn.air.feed := none }

/-- Every command answers a next state in every state; its effect on the station does not depend on the
queue, which it leaves as it is. It is the model's choice that a command without its occasion changes nothing
(log 5), and that the commands wait in a queue (log 1). -/
def Obligations.EveryCommandCompletesAndLeavesTheQueue : Prop :=
  ∀ (c : Instr) (s : Stn), ∃ t : Stn, ∀ queue : List Instr,
    exec c { stn := s, pending := queue } = .next { stn := t, pending := queue }

/-- What reset leaves (R188): no table, store, queue or list of any block holds anything, every count, counter
and total is 0, every mark is clear, no walk or wait runs, and the outputs are at rest. The store's frame number
(the model's choice, log 4) and the Bus Unit's (DEDUCED, log 7) are 0 too. -/
def Obligations.ResetLeavesEveryBlockEmpty : Prop :=
  let s := State.reset.stn
  State.reset.pending = [] ∧ s.ctl.phase = .held ∧ s.ctl.image = none ∧ s.ctl.port = [] ∧ s.alarm = true ∧
    s.configSelect = false ∧
    (∀ l, (s.line l).fifo = [] ∧ (s.line l).ready = false ∧ (s.line l).current = none ∧
      (s.line l).replies = [] ∧ (s.line l).sending = none ∧
      ∀ c, (s.line l).ctx c = { state := .idle, buffer := [], gen := 0 }) ∧
    s.intake.waiting = [] ∧ s.req.pend = [] ∧ s.req.holdOrder = [] ∧ s.req.cache = [] ∧
    s.req.tagCounter = 0 ∧
    s.subs.active = [] ∧ s.subs.standby = [] ∧ s.subs.standbyComplete = false ∧ s.subs.grant = .nobody ∧
    s.subs.drain = .idle ∧ s.subs.ret = .idle ∧ s.subs.mirror = .idle ∧
    s.store.messages = [] ∧ s.store.serial = 0 ∧ s.store.urgent = [] ∧ s.store.normal = [] ∧
    s.store.outcomes = [] ∧ s.store.frame = 0 ∧
    s.air.frame = 0 ∧ s.air.begun = false ∧ s.air.claims = [] ∧
    (∀ k : Station, s.air.peerClaims.get k = []) ∧
    s.air.maps = [] ∧ s.air.buffer = [] ∧ s.air.abstain = [] ∧ s.air.feed = none ∧ s.ret.recent = [] ∧
    s.bill.period = 0 ∧ s.bill.pendingClose = none ∧ (∀ k : Station, s.bill.peers.get k = none) ∧
    s.bill.forming = [] ∧ s.bill.pause = .none ∧ s.bill.queue = [] ∧ s.bill.sending = none ∧
    s.bill.counter = 0 ∧ s.bill.counted = none ∧
    s.bus.mark = 0 ∧ s.bus.round = none ∧ s.bus.noted = false ∧ s.bus.outbox = [] ∧ s.bus.takes = [] ∧
    s.bus.frameOut = [] ∧
    (∀ k : Station, s.bus.counters.get k = 0 ∧ s.bus.memory.get k = [] ∧ s.bus.lastSender.get k = none) ∧
    s.cust.map = [] ∧ s.cust.custody = 0 ∧ s.cust.declaration = .none ∧ s.cust.join = .before ∧
    s.cust.heard = [] ∧ s.cust.buddyWait = 0 ∧ s.cust.returnTaken = false ∧ s.cust.returnEndTaken = false ∧
    s.cust.retryDelay = none ∧
    s.counts = List.replicate 31 0 ∧ s.totals = List.replicate 5 0

/-! ### Start-up (chapter 11) -/

/-- POWER_ON, RESET_LINE_ASSERTED and SUPPLY_BELOW_VALID_LEVEL put every block to its reset values, in every
state, and record the levels (R188; that a supply below its level acts like the reset line is DEDUCED,
log 15). RESET_LINE_RELEASED and SUPPLY_VALID (R188, R189): HELD ends when the line is released with the
supply valid; the straps are sampled then, and the first read of the image is asked for at the configuration port
(R190, R204); otherwise the level alone changes. That a POWER_ON with the line not asserted and the supply valid
leaves the controller HELD until one of these two rows is the model's choice (log 2). -/
def Obligations.StartUpFollowsResetLineAndSupply : Prop :=
  (∀ (s : State) (r v : Bool),
     let restarted (r v : Bool) : State :=
       { s with stn := { Stn.reset with ctl := { Stn.reset.ctl with resetAsserted := r, supplyValid := v } } }
     exec (.powerOn r v) s = .next (restarted r v) ∧
     exec .resetLineAsserted s = .next (restarted true s.stn.ctl.supplyValid) ∧
     exec .supplyBelowValidLevel s = .next (restarted s.stn.ctl.resetAsserted false)) ∧
  (∀ (s : State) (straps : BitVec 4),
     let c := s.stn.ctl
     (c.phase = .held ∧ c.supplyValid = true →
       exec (.resetLineReleased straps) s = .next { s with stn.ctl :=
         { c with resetAsserted := false, phase := .reading false, station := straps.toFin,
                  port := c.port ++ [.select true, .send 0x03, .send 0x00, .send 0x00] } }) ∧
     (¬(c.phase = .held ∧ c.supplyValid = true) →
       exec (.resetLineReleased straps) s = .next { s with stn.ctl := { c with resetAsserted := false } }) ∧
     (c.phase = .held ∧ c.resetAsserted = false →
       exec (.supplyValid straps) s = .next { s with stn.ctl :=
         { c with supplyValid := true, phase := .reading false, station := straps.toFin,
                  port := c.port ++ [.select true, .send 0x03, .send 0x00, .send 0x00] } }) ∧
     (¬(c.phase = .held ∧ c.resetAsserted = false) →
       exec (.supplyValid straps) s = .next { s with stn.ctl := { c with supplyValid := true } }))

/-- CONFIGURATION_READ_COMPLETE (R190, R191, R192, R193, R196, R204): select is deasserted; a first bad read is
repeated with a new read request, a second one and an image that fails its validation lead to REFUSED, a valid
image is closed. The image holds its check, which is over the bytes before it (R191). -/
def Obligations.ConfigurationReadOutcomes : Prop :=
  ∀ (s : State) (second : Bool) (bytes : List Byte), s.stn.ctl.phase = .reading second →
    let up := s.stn.intake.lines.map fun x => { x with ready := true }
    let port := s.stn.ctl.port ++ [.select false]
    let refused : State := { s with
      stn.ctl := { s.stn.ctl with phase := .refused, port := port }, stn.intake.lines := up }
    (goodRead bytes = false → second = false →
      exec (.configurationReadComplete bytes) s = .next { s with
        stn.ctl := { s.stn.ctl with
          phase := .reading true,
          port := port ++ [.select true, .send 0x03, .send 0x00, .send 0x00] } }) ∧
    (goodRead bytes = false → second = true →
      exec (.configurationReadComplete bytes) s = .next refused) ∧
    (goodRead bytes = true → readImage s.stn.self bytes = none →
      exec (.configurationReadComplete bytes) s = .next refused) ∧
    (∀ img, goodRead bytes = true → readImage s.stn.self bytes = some img →
      exec (.configurationReadComplete bytes) s = .next { s with
        stn.ctl := { s.stn.ctl with phase := .closed, image := some img, port := port },
        stn.intake.lines := up,
        stn.cust := { s.stn.cust with
          state := .joining,
          map := (members img.roster).map fun k =>
            { station := k, view := .joining, silent := 0, custodian := some k, silence := 0 } } }) ∧
    ∀ img, goodRead bytes = true → readImage s.stn.self bytes = some img → 511 ≤ bytes.length →
      be 2 img.check.toNat = (bytes.drop 509).take 2 ∧ be 2 img.check.toNat = be 2 (check (bytes.take 509))

/-! ### Intake lines (chapter 4) -/

/-- CHARACTER_RECEIVED (R62 to R66) on a line that has started: a good character enters the FIFO, whose ready
output falls at 6, or is lost as an overrun; a bad one is counted; a loss marks the newest entry, or damages
the current COLLECTING context when the FIFO is empty. The parity covers the data bits and the mark bit, and
a character sent carries the bit that is right on the line (R62, R75). -/
def Obligations.CharacterReceivedIsStoredOrLost : Prop :=
  (∀ (s : State) (l : LineNo) (v : Byte) (mark parityBit stopBit : Bool), s.stn.linesUp = true →
     let x := s.stn.line l
     let good := stopBit && parityRight (s.stn.lineSettings l).parity v mark parityBit
     let i : Instr := .characterReceived l v mark parityBit stopBit
     let marked := x.fifo.dropLast ++ (x.fifo.getLast?.toList.map fun e => { e with lossFollows := true })
     let bad := { x with parityFraming := satInc x.parityFraming }
     (good = true → x.fifo.length < 8 → exec i s = .next (s.withLine l
       { x with fifo := x.fifo ++ [⟨v, mark, false⟩], ready := if 5 ≤ x.fifo.length then false else x.ready })) ∧
     (good = true → 8 ≤ x.fifo.length → exec i s = .next (s.withLine l
       { x with overrun := satInc x.overrun, fifo := marked })) ∧
     (good = false → x.fifo ≠ [] → exec i s = .next (s.withLine l { bad with fifo := marked })) ∧
     (good = false → x.fifo = [] → (∀ c, x.current = some c → (x.ctx c).state ≠ .collecting) →
       exec i s = .next (s.withLine l bad)) ∧
     (∀ c, good = false → x.fifo = [] → x.current = some c → (x.ctx c).state = .collecting →
       exec i s = .next (s.withLine l
         (bad.withCtx c { x.ctx c with state := .damaged .damaged, buffer := [] })))) ∧
  (∀ (v : Byte) (mark parityBit : Bool),
     let ones := ((List.range 8).filter v.getLsbD).length + mark.toNat + parityBit.toNat
     parityRight .none v mark parityBit = true ∧
     (parityRight .even v mark parityBit = true ↔ ones % 2 = 0) ∧
     (parityRight .odd v mark parityBit = true ↔ ones % 2 = 1) ∧
     sentParity .none v mark = none ∧
     (sentParity .even v mark = some parityBit ↔ ones % 2 = 0) ∧
     (sentParity .odd v mark = some parityBit ↔ ones % 2 = 1))

/-- BREAK (R67): the receiving side of the line is reset and the line leaves the waiting order. MARK_SELECT,
MARK_ABANDON and ORPHAN_MARK (R66, R70): the mark character at the oldest end of the FIFO selects, abandons, or
is an orphan; a loss behind a selection damages the context it selected. -/
def Obligations.BreakAndMarkCharactersChangeContexts : Prop :=
  (∀ (s : State) (l : LineNo),
     let x := s.stn.line l
     s.stn.linesUp = true → exec (.lineBreak l) s = .next { s with stn.intake :=
       { lines := s.stn.intake.lines.set l.val
           { x with fifo := [], ready := true, current := none,
                    ctxs := x.ctxs.map fun k => { state := .idle, buffer := [], gen := k.gen + 1 } } l.isLt,
         waiting := s.stn.intake.waiting.filter (· ≠ l) } }) ∧
  (∀ (s : State) (l : LineNo) (e : FifoEntry) (rest : List FifoEntry), s.stn.linesUp = true →
     (s.stn.line l).fifo = e :: rest → e.mark = true →
     let y := (s.stn.line l).took rest
     let c : CtxNo := Fin.ofNat 16 (e.value.toNat % 16)
     let selected := { y with current := some c }
     (e.value.toNat ≤ 0x0F → e.lossFollows = false →
       exec (.markSelect l) s = .next (s.withLine l selected)) ∧
     (e.value.toNat ≤ 0x0F → e.lossFollows = true → (y.ctx c).state = .collecting →
       exec (.markSelect l) s = .next (s.withLine l
         (selected.withCtx c { y.ctx c with state := .damaged .damaged, buffer := [] }))) ∧
     (e.value.toNat ≤ 0x0F → e.lossFollows = true → (y.ctx c).state ≠ .collecting →
       exec (.markSelect l) s = .next (s.withLine l selected)) ∧
     (0x80 ≤ e.value.toNat ∧ e.value.toNat ≤ 0x8F → e.lossFollows = false →
       exec (.markAbandon l) s = .next (s.withLine l
         (y.withCtx c { state := .idle, buffer := [], gen := (y.ctx c).gen + 1 }))) ∧
     (0x0F < e.value.toNat → ¬(0x80 ≤ e.value.toNat ∧ e.value.toNat ≤ 0x8F) → e.lossFollows = false →
       exec (.orphanMark l) s = .next (s.withLine l { y with orphans := satInc y.orphans })))

/-- DATA_CHARACTER (R72, R66): the table of R72 for the data character at the oldest end of the FIFO, and the
loss that follows it, if any; with no current context every data character, the terminator included, is an
orphan. -/
def Obligations.DataCharactersAreAssembled : Prop :=
  (∀ (s : State) (l : LineNo) (lost : Bool) (rest : List FifoEntry), s.stn.linesUp = true →
    (s.stn.line l).fifo = ⟨0x0D, false, lost⟩ :: rest → (s.stn.line l).current = none →
    let y := (s.stn.line l).took rest
    exec (.terminator l) s = .next (s.withLine l { y with orphans := satInc y.orphans })) ∧
  ∀ (s : State) (l : LineNo) (v : Byte) (lost : Bool) (rest : List FifoEntry), s.stn.linesUp = true →
    (s.stn.line l).fifo = ⟨v, false, lost⟩ :: rest → v ≠ 0x0D →
    let y := (s.stn.line l).took rest
    let isPrintable := 0x20 ≤ v.toNat ∧ v.toNat ≤ 0x7E
    let put (c : CtxNo) (st : CtxState) (b : List Byte) : State :=
      s.withLine l (y.withCtx c { y.ctx c with state := st, buffer := b })
    (y.current = none →
      exec (.dataCharacter l) s = .next (s.withLine l { y with orphans := satInc y.orphans })) ∧
    ∀ c, y.current = some c →
      let k := y.ctx c
      let collected (b : List Byte) : State :=
        if lost then put c (.damaged .damaged) [] else put c .collecting b
      (k.state = .idle → isPrintable → exec (.dataCharacter l) s = .next (collected [v])) ∧
      (k.state = .idle → ¬isPrintable → exec (.dataCharacter l) s = .next (s.withLine l y)) ∧
      (k.state = .collecting → isPrintable → k.buffer.length < 240 →
        exec (.dataCharacter l) s = .next (collected (k.buffer ++ [v]))) ∧
      (k.state = .collecting → isPrintable → 240 ≤ k.buffer.length →
        exec (.dataCharacter l) s = .next (put c (.damaged .tooLong) [])) ∧
      (k.state = .collecting → ¬isPrintable →
        exec (.dataCharacter l) s = .next (put c (.damaged .damaged) [])) ∧
      (∀ w, k.state = .damaged w → exec (.dataCharacter l) s = .next (s.withLine l y)) ∧
      (k.state = .awaiting →
        exec (.dataCharacter l) s = .next (s.withLine l { y with orphans := satInc y.orphans }))

/-- TERMINATOR (R66, R68, R69, R73, R78, R82, R83, R100), with or without a loss mark behind it, which then finds
no COLLECTING context: discarded, refused at once, stopped for lack of what it
needs; and a handed-over entry that the parse refuses takes a request tag and has its refusal in the reply
queue in the same event. -/
def Obligations.TerminatorsDiscardRefuseOrStop : Prop :=
  (∀ (s : State) (l : LineNo) (lost : Bool) (rest : List FifoEntry), s.stn.linesUp = true →
     (s.stn.line l).fifo = ⟨0x0D, false, lost⟩ :: rest →
     let y := (s.stn.line l).took rest
     let refuse (c : CtxNo) (text : List Byte) (n : Count) : State :=
       s.withLine l { y.withCtx c { y.ctx c with state := .idle, buffer := [] } with
         replies := y.replies ++ [⟨c, (y.ctx c).gen, text⟩], damagedEntries := n }
     (y.current = none →
       exec (.terminator l) s = .next (s.withLine l { y with orphans := satInc y.orphans })) ∧
     ∀ c, y.current = some c →
       let k := y.ctx c
       (k.state = .idle → exec (.terminator l) s = .next (s.withLine l y)) ∧
       (k.state = .awaiting →
         exec (.terminator l) s = .next (s.withLine l { y with orphans := satInc y.orphans })) ∧
       (s.stn.ctl.phase = .closed → y.replies.length < 8 → k.state = .damaged .damaged →
         exec (.terminator l) s = .next (refuse c (str "X/DAMAGED") (satInc y.damagedEntries))) ∧
       (s.stn.ctl.phase = .closed → y.replies.length < 8 → k.state = .damaged .tooLong →
         exec (.terminator l) s = .next (refuse c (str "X/TOO LONG") (satInc y.damagedEntries))) ∧
       (s.stn.ctl.phase = .refused → y.replies.length < 8 →
         (k.state = .collecting ∨ ∃ w, k.state = .damaged w) →
         exec (.terminator l) s = .next (refuse c (str "X/OFFLINE") y.damagedEntries)) ∧
       (8 ≤ y.replies.length → (∃ w, k.state = .damaged w) →
         exec (.terminator l) s = .next s) ∧
       (s.stn.ctl.phase = .closed → 16 ≤ s.stn.req.pend.length → k.state = .collecting →
         exec (.terminator l) s = .next { s with stn.intake.waiting :=
           if l ∈ s.stn.intake.waiting then s.stn.intake.waiting else s.stn.intake.waiting ++ [l] })) ∧
  (∀ (s : State) (l : LineNo) (lost : Bool) (rest : List FifoEntry) (c : CtxNo)
     (w : Sys2Proof.Machine.Word),
     MayHandOver s.stn → (s.stn.line l).fifo = ⟨0x0D, false, lost⟩ :: rest →
     (s.stn.line l).current = some c → ((s.stn.line l).ctx c).state = .collecting →
     parseEntry (s.stn.lineSettings l).role ((s.stn.line l).ctx c).buffer = .error w →
     (s.stn.line l).replies.length < 8 →
     let y := (s.stn.line l).took rest
     exec (.terminator l) s = .next ((s.withLine l y).replied l c (str "X/" ++ w.text)))

/-- REPLY_TRANSMIT_START and REPLY_SENT (R74, R75) where no held reply and no stopped refusal waits for a
place: the transmitter sends the oldest reply of its context's generation behind its mark character, at the
line's parity, drops the older ones, and the reply leaves the queue when it has been sent. The place that
REPLY_SENT frees in a full queue goes to a stopped refusal, and then no held reply is offered; else to the only
held reply. HELD_REPLY_OFFER (R101, R74) for the only held reply: it enters the queue and its entry is freed, or
it is discarded where its context has changed. Two clauses are the model's choice (log 5: a command whose event
cannot happen changes nothing): REPLY_TRANSMIT_START while a reply is under transmission, and HELD_REPLY_OFFER
while the queue holds 8 replies, which is no offer even to a context that has changed. -/
def Obligations.RepliesLeaveInTurnAndHeldOnesFollow : Prop :=
  (∀ (s : State) (l : LineNo), s.stn.linesUp = true → s.stn.req.holdOrder = [] →
     s.stn.intake.waiting = [] → (s.stn.line l).fifo = [] →
     let x := s.stn.line l
     let char (v : Byte) (mark : Bool) : LineChar :=
       LineChar.mk v mark (sentParity (s.stn.lineSettings l).parity v mark)
     (x.sending = none →
       (∀ (dropped : List LineReply) (r : LineReply) (rest : List LineReply),
         x.replies = dropped ++ r :: rest → (∀ d ∈ dropped, (x.ctx d.ctx).gen ≠ d.gen) →
         (x.ctx r.ctx).gen = r.gen →
         exec (.replyTransmitStart l) s = .next (s.withLine l { x with
           replies := r :: rest,
           sending := some (char (BitVec.ofNat 8 r.ctx.val) true :: r.text.map (fun b => char b false) ++
             [char 0x0D false]) })) ∧
       ((∀ d ∈ x.replies, (x.ctx d.ctx).gen ≠ d.gen) →
         exec (.replyTransmitStart l) s = .next (s.withLine l { x with replies := [] }))) ∧
     (∀ cs, x.sending = some cs →
       exec (.replyTransmitStart l) s = .next s ∧
       exec (.replySent l) s = .next (s.withLine l { x with replies := x.replies.drop 1, sending := none }))) ∧
  (∀ (s : State) (l : LineNo) (lost : Bool) (rest : List FifoEntry) (c : CtxNo) (cs : List LineChar),
     s.stn.ctl.phase = .closed → s.stn.intake.waiting = [] →
     (s.stn.line l).fifo = ⟨0x0D, false, lost⟩ :: rest → (s.stn.line l).current = some c →
     ((s.stn.line l).ctx c).state = .damaged .damaged → (s.stn.line l).sending = some cs →
     (s.stn.line l).replies.length = 8 →
     let y := (s.stn.line l).took rest
     exec (.replySent l) s = .next (s.withLine l { y.withCtx c { y.ctx c with state := .idle, buffer := [] } with
       replies := y.replies.drop 1 ++ [⟨c, (y.ctx c).gen, str "X/DAMAGED"⟩], sending := none,
       damagedEntries := satInc y.damagedEntries })) ∧
  (∀ (s : State) (e : PendEntry) (text : List Byte), s.stn.req.holdOrder = [e.tag] →
     s.stn.pend? e.tag = some e → e.state = .holding text → s.stn.intake.waiting = [] →
     (s.stn.line e.line).fifo = [] →
     let x := s.stn.line e.line
     let freed : Requests :=
       { s.stn.req with pend := s.stn.req.pend.filter (fun p => decide (p.tag ≠ e.tag)), holdOrder := [] }
     (∀ cs, x.replies.length = 8 → x.sending = some cs → (x.ctx e.ctx).gen = e.gen →
       exec (.replySent e.line) s = .next { s.withLine e.line
         { x.withCtx e.ctx { x.ctx e.ctx with state := .idle, buffer := [] } with
           replies := x.replies.drop 1 ++ [⟨e.ctx, e.gen, text⟩], sending := none } with
         stn.req := freed }) ∧
     (x.replies.length < 8 → (x.ctx e.ctx).gen = e.gen →
       exec (.heldReplyOffer e.line) s = .next { s.withLine e.line
         { x.withCtx e.ctx { x.ctx e.ctx with state := .idle, buffer := [] } with
           replies := x.replies ++ [⟨e.ctx, e.gen, text⟩] } with stn.req := freed }) ∧
     (x.replies.length < 8 → (x.ctx e.ctx).gen ≠ e.gen →
       exec (.heldReplyOffer e.line) s = .next { s with stn.req := freed }) ∧
     (8 ≤ x.replies.length → exec (.heldReplyOffer e.line) s = .next s))

/-! ### Requests (chapter 5) -/

/-- The parse reads back every well-formed request from its entry text, on an OPERATOR line; on a CALLER
line it refuses every kind but submit, cancel and query NOT PERMITTED (R83 to R85). -/
def Obligations.ParseReadsBackEveryEntryText : Prop :=
  (∀ q : Request, q.wf = true → parseEntry .operator (requestText q) = .ok q) ∧
  ∀ q : Request, q.wf = true → parseEntry .caller (requestText q) =
    match q with
    | .submit .. | .cancel .. | .query .. => .ok q
    | _ => .error .notPermitted

/-- The request that a well-formed command brings passes the field tests of the parse. -/
def Obligations.WellFormedCommandsPassTheFieldTests : Prop :=
  ∀ i : Instr, Sys2Proof.Laws.FieldTests.Statement i

/-- Routing by subscriber number (R86) and by receipt (R87); and the lookup of a subscriber number with home station
h, row by row (R5). -/
def Obligations.RoutingAndLookupOfARequest : Prop :=
  (∀ (s : Stn) (q : Request),
     (∀ sub, requestSub q = some sub →
       (s.homeOf sub = none → s.routing q = .refuse .unknownSubscriber) ∧
       (∀ h m, s.homeOf sub = some h → (sub, m) ∈ s.req.cache → (s.req.cache.map (·.1)).Nodup →
         s.routing q = .to (.home h) m) ∧
       (∀ h m, s.homeOf sub = some h → (∀ e ∈ s.req.cache, e.1 ≠ sub) → s.custodian h = some m →
         s.routing q = .to (.home h) m) ∧
       (∀ h, s.homeOf sub = some h → (∀ e ∈ s.req.cache, e.1 ≠ sub) → s.custodian h = none →
         s.routing q = .refuse .noService)) ∧
     ∀ k serial, q = .cancel k serial ∨ q = .query k serial →
       (inSet s.img.roster k = false → s.routing q = .refuse .unknownReceipt) ∧
       (inSet s.img.roster k = true → (k = s.self ∨ s.view k = .live ∨ s.view k = .reclaiming) →
         s.routing q = .to (.receipt k) k) ∧
       (inSet s.img.roster k = true → ¬(k = s.self ∨ s.view k = .live ∨ s.view k = .reclaiming) →
         s.routing q = .refuse .unknownReceipt)) ∧
  (∀ (s : Stn) (sub : Nat) (h : Station),
     let walking := h = s.ward ∧ s.subs.ret ≠ .idle
     (∀ r, s.rec? sub = some r → s.lookup sub h = if r.returning then .notYet else .found) ∧
     (∀ b, s.rec? sub = none → s.standby? sub = some b →
       (b.mark = .returned → s.lookup sub h = .moved h) ∧
       (b.mark = .unadopted → s.lookup sub h = .noService) ∧
       (b.mark = .plain → walking → s.lookup sub h = .notYet) ∧
       (∀ m, b.mark = .plain → ¬walking → s.custodian h = some m → m ≠ s.self →
         s.lookup sub h = .moved m) ∧
       (b.mark = .plain → ¬walking → (s.custodian h = none ∨ s.custodian h = some s.self) →
         s.lookup sub h = .noService)) ∧
     (s.rec? sub = none → s.standby? sub = none →
       (walking → s.lookup sub h = .notYet) ∧
       (¬walking → h = s.self → s.lookup sub h = .absent) ∧
       (¬walking → h ≠ s.self → s.custodian h = some s.self →
         s.lookup sub h = if s.subs.standbyComplete then .absent else .noService) ∧
       (∀ m, ¬walking → h ≠ s.self → s.custodian h = some m → m ≠ s.self → s.lookup sub h = .moved m) ∧
       (¬walking → h ≠ s.self → s.custodian h = none → s.lookup sub h = .noService)))

/-- A closed entry that a call context hands over, by a row of section 5.4 (SUBMIT, CANCEL, QUERY, ENROL, AMEND,
SUSPEND, RESUME, WITHDRAW, METER_READ, PERIOD_CLOSE, STATUS, STATUS_CLEAR) or by TERMINATOR with or without a
loss mark behind it, of a request that is routed to this station: it is executed in the same event, and its
reply is in the line's queue (R73, R83, R86, R90, R100). Outbox places that the execution frees go to the
entries that wait (R24). That a row brings its request by its fields is the model's choice (log 10). -/
def Obligations.ContextRequestsAreExecutedHere : Prop :=
  ∀ (i : Instr) (q : Request) (s : State) (l : LineNo) (c : CtxNo) (entered : List Byte) (y : Line)
    (route : Route) (n : Stn) (text : List Byte),
    HandsOver i s.stn l c entered (.ok q) y → MayHandOver s.stn →
    (s.stn.cust.state ≠ .joining ∨ ∃ clear, q = .status clear) →
    s.stn.routing q = .to route s.stn.self → y.replies.length < 8 →
    let u := (s.withLine l y).stn
    (u.handed l c (u.handedEntry l c entered q route s.stn.self .localHere)).execute q = (n, .reply text) →
    let answered : Stn := { n with
      intake.lines := n.intake.lines.set l.val
        { (n.line l).withCtx c { y.ctx c with state := .idle, buffer := [] } with
          replies := y.replies ++ [⟨c, (y.ctx c).gen, text⟩] } l.isLt,
      req.pend := s.stn.req.pend }
    exec i s = .next { s with stn := answered.givePlaces s.stn }

/-- Closed entries handed over in the same way where they are not executed here: refused by the parse or by
routing, forwarded to their station, or LOCAL until JOINING ends (R69, R83, R86, R89, R90, R33). An entry that
enters the outbox finds no older entry waiting for the place. The rows of section 5.4 bring their requests by
their fields (the model's choice, log 10); without a free pending entry, without a COLLECTING current context
and before the configuration is closed such a row changes nothing (the model's choice, log 5). -/
def Obligations.ContextRequestsAreRefusedForwardedOrKept : Prop :=
  (∀ (i : Instr) (q : Request) (s : State) (l : LineNo) (c : CtxNo) (entered : List Byte)
     (parsed : Except Sys2Proof.Machine.Word Request) (y : Line),
     HandsOver i s.stn l c entered parsed y → MayHandOver s.stn →
     let t := s.withLine l y
     let kept (route : Route) (m : Station) (state : PendState) : Stn :=
       t.stn.handed l c (t.stn.handedEntry l c entered q route m state)
     (∀ w, y.replies.length < 8 →
       (parsed = .error w ∨ parsed = .ok q ∧ s.stn.routing q = .refuse w) →
       exec i s = .next (t.replied l c (str "X/" ++ w.text))) ∧
     (∀ route m, parsed = .ok q → s.stn.routing q = .to route m → m ≠ s.stn.self →
       s.stn.bus.outbox.length < 32 → NoEntryWaits s.stn →
       (∀ n ∈ s.stn.bus.outbox, n.forwardTag? ≠ some s.stn.nextTag) →
       exec i s = .next { s with stn := { kept route m .sending with
         bus.outbox := s.stn.bus.outbox ++ [s.stn.forwardNote s.stn.nextTag entered route m] } }) ∧
     (∀ route m, parsed = .ok q → s.stn.routing q = .to route m → m ≠ s.stn.self →
       32 ≤ s.stn.bus.outbox.length → exec i s = .next { s with stn := kept route m .sending }) ∧
     (∀ route, parsed = .ok q → s.stn.routing q = .to route s.stn.self → s.stn.cust.state = .joining →
       (∀ clear, q ≠ .status clear) →
       exec i s = .next { s with stn := kept route s.stn.self .localHere })) ∧
  ∀ (i : Instr) (s : State) (l : LineNo) (c : CtxNo), (∃ q, i.request? = some q) →
    i.requester? = some (.context l c) →
    (16 ≤ s.stn.req.pend.length ∨ s.stn.ctl.phase ≠ .closed ∨ (s.stn.line l).current ≠ some c ∨
      ((s.stn.line l).ctx c).state ≠ .collecting) →
    exec i s = .next s

/-- A closed entry that holds a period close or a status request, by PERIOD_CLOSE, STATUS or STATUS_CLEAR (their
fields: log 10) or by TERMINATOR. Period close (R98, R176): the period number advances, the grant goes to DRAIN,
the drain walk starts, and the reply is O; while a walk holds the grant or a LIVE peer is behind, it is refused
DRAIN BUSY and nothing else changes. Status (R99): the status reply; T/C clears every count behind the reply and
leaves unit totals, views and custodians. The status reply (R99, R205) field by field, its fields separated by `/`,
and its numbers in decimal without leading zeros. -/
def Obligations.PeriodCloseAndStatusOfACallContext : Prop :=
  (∀ (i : Instr) (s : State) (l : LineNo) (c : CtxNo) (entered : List Byte) (y : Line),
     HandsOver i s.stn l c entered (.ok .periodClose) y → MayHandOver s.stn →
     s.stn.cust.state ≠ .joining → y.replies.length < 8 →
     let t := s.withLine l y
     let peerBehind := ∃ k ∈ s.stn.roster, k ≠ s.stn.self ∧ s.stn.view k = .live ∧
       ∃ p drains, s.stn.bill.peers.get k = some (p, drains) ∧ (drains = true ∨ p ≠ s.stn.bill.period)
     (s.stn.subs.drain = .idle → s.stn.subs.grant ≠ .ret → ¬peerBehind →
       exec i s = .next { t.replied l c (str "O") with
         stn.bill.period := s.stn.bill.period + 1, stn.bill.forming := [], stn.bill.pause := .none,
         stn.subs.grant := .drain, stn.subs.drain := .running none }) ∧
     ((s.stn.subs.drain ≠ .idle ∨ s.stn.subs.grant = .ret ∨ peerBehind) →
       exec i s = .next (t.replied l c (str "X/DRAIN BUSY")))) ∧
  (∀ (i : Instr) (s : State) (l : LineNo) (c : CtxNo) (entered : List Byte) (y : Line) (clear : Bool),
     HandsOver i s.stn l c entered (.ok (.status clear)) y → MayHandOver s.stn → y.replies.length < 8 →
     let r := (s.withLine l y).replied l c s.stn.statusText
     (clear = false → exec i s = .next r) ∧
     (clear = true → exec i s = .next { r with
       stn.intake.lines := r.stn.intake.lines.map fun x =>
         { x with overrun := 0, parityFraming := 0, damagedEntries := 0, orphans := 0 },
       stn.bus.damaged := 0, stn.bus.foreign := 0, stn.bus.resent := 0, stn.bus.failed := 0,
       stn.bus.lateAnswers := 0, stn.air.claimsLost := 0, stn.air.forfeits := 0,
       stn.air.framesAbstained := 0, stn.ret.badChecks := 0, stn.ret.suppressed := 0,
       stn.ret.foreign := 0, stn.ret.stale := 0, stn.ret.late := 0, stn.bill.blocksSent := 0,
       stn.bill.entriesLimited := 0 })) ∧
  (∀ s : Stn,
     let hex (k : Station) : Byte := (str "0123456789ABCDEF").getD k.val 0
     let bit (b : Bool) : List Byte := if b then str "1" else str "0"
     let stationFields : List (List Byte) :=
       [[hex s.self],
        (match s.cust.state with
         | .joining => str "JOINING" | .reclaiming => str "RECLAIMING" | .live => str "LIVE"),
        dec s.air.frame.toNat, dec s.bill.period.toNat, bit (decide (s.subs.drain ≠ .idle)),
        bit s.subs.standbyComplete]
     let mapField (k : Station) : List Byte :=
       [hex k] ++ str "=" ++
       (match s.view k with
        | .joining => str "JOINING" | .reclaiming => str "RECLAIMING" | .live => str "LIVE"
        | .silent => str "SILENT" | .failed => str "FAILED" | .foreign => str "FOREIGN") ++
       str ":" ++ (match s.custodian k with
        | some c => [hex c]
        | none => str "N")
     let counts : List Count :=
       ((List.finRange 4).flatMap fun l => [(s.line l).overrun, (s.line l).parityFraming,
         (s.line l).damagedEntries, (s.line l).orphans]) ++
       [s.bus.damaged, s.bus.foreign, s.bus.resent, s.bus.failed, s.bus.lateAnswers,
        s.air.claimsLost, s.air.forfeits, s.air.framesAbstained,
        s.ret.badChecks, s.ret.suppressed, s.ret.foreign, s.ret.stale, s.ret.late,
        s.bill.blocksSent, s.bill.entriesLimited]
     let totals : List Total :=
       [s.meter.charged, s.meter.billed, s.meter.unmetered, s.meter.returnedIn, s.meter.returnedOut]
     s.statusText = str "T/" ++ (str "/").intercalate (stationFields ++
       ((List.finRange 16).filter fun k => s.img.roster.getLsbD k.val).map mapField ++
       counts.map (fun c => dec c.toNat) ++ totals.map (fun t => dec t.toNat))) ∧
  (∀ n < 10, dec n = [BitVec.ofNat 8 (0x30 + n)]) ∧
  ∀ n, 10 ≤ n → n < 2 ^ 48 → dec n = dec (n / 10) ++ dec (n % 10)

/-- SUBMIT of a peer, admitted, for a subscriber without messages and without a threshold (R94, R105, R106, R108,
R163, R164): the message is stored, stands READY at the head of the queue and at the tail of its list, its full
charge is reserved, and the ANSWER carries its receipt. Refused (R93, R94, R163): the first test that fails gives
the word, and nothing but the ANSWER changes. -/
def Obligations.SubmitIsAcceptedOrRefused : Prop :=
  (∀ (s : State) (k : Station) (tag : Tag) (sub : Nat) (p : Priority) (body : List Byte) (r : Record),
     MayAnswer s.stn k → FoundHere s.stn sub r → sub < 10000000 → 1 ≤ body.length → body.length ≤ 200 →
     let t := s.stn.img.tariffs.get r.admin.tariff
     let segs := (body.length + 39) / 40
     let charge := t.base + t.perSegment * segs
     let serial := s.stn.nextSerial
     (r.admin.pagerClass = .numeric → body.length ≤ 20 ∧ ∀ b ∈ body, 0x30 ≤ b.toNat ∧ b.toNat ≤ 0x39) →
     r.admin.service = .active → r.admin.threshold = none →
     (∀ q, r.admin.quota = some q → r.meter.current + r.meter.reserved + charge ≤ q.toNat) →
     s.stn.store.messages.length < 512 →
     (s.stn.store.messages.map (·.blocks.length)).sum + segs ≤ 1024 → r.queue = [] →
     let m : Message :=
       { serial := serial, sub := sub, priority := p, origin := .caller, blocks := blocksOf body, tag := none,
         state := .ready, target := none, ladder := none,
         expiry := s.stn.air.frame + BitVec.ofNat 16
           (match p with | .urgent => s.stn.img.validUrgent | .normal => s.stn.img.validNormal),
         reserved := charge, transmissions := 0, pending := none }
     ActiveUnique s.stn → serial ∉ s.stn.store.messages.map (·.serial) →
     exec (.submit (.peer k tag) sub p body) s = .next
       { s.answered k tag (.reply (str "K/" ++ receiptText s.stn.self serial)) with
         stn.store := { s.stn.store with
           messages := s.stn.store.messages ++ [m], serial := serial + 1 }.readyTail p serial,
         stn.subs := s.stn.subs.withRec sub fun r => { r with
           queue := [serial], meter := { r.meter with reserved := r.meter.reserved + charge } } }) ∧
  (∀ (s : State) (k : Station) (tag : Tag) (sub : Nat) (p : Priority) (body : List Byte) (r : Record),
     MayAnswer s.stn k → FoundHere s.stn sub r → sub < 10000000 → 1 ≤ body.length → body.length ≤ 200 →
     let t := s.stn.img.tariffs.get r.admin.tariff
     let segs := (body.length + 39) / 40
     let charge := t.base + t.perSegment * segs
     let suits := r.admin.pagerClass = .numeric →
       body.length ≤ 20 ∧ ∀ b ∈ body, 0x30 ≤ b.toNat ∧ b.toNat ≤ 0x39
     let exceeds := ∃ q, r.admin.quota = some q ∧ q.toNat < r.meter.current + r.meter.reserved + charge
     let room := s.stn.store.messages.length < 512 ∧
       (s.stn.store.messages.map (·.blocks.length)).sum + segs ≤ 1024
     let gives (word : List Byte) : Prop :=
       exec (.submit (.peer k tag) sub p body) s = .next (s.answered k tag (.reply (str "X/" ++ word)))
     (¬suits → gives (str "BAD BODY")) ∧
     (suits → r.admin.service = .suspended → gives (str "SUSPENDED")) ∧
     (suits → r.admin.service = .barred → gives (str "BARRED")) ∧
     (suits → r.admin.service = .active → exceeds → gives (str "QUOTA")) ∧
     (suits → r.admin.service = .active → ¬exceeds → ¬room → gives (str "STORE FULL")))

/-- SUBMIT of a peer, admitted, for a subscriber with messages (R106, R108): a NORMAL message waits at the end of
the queue, an URGENT one behind the URGENT ones that follow the head, or in front of a NORMAL head without a tag,
which then waits as second. Then the notice test (R164, R165, R169), after the reservation and after the
settlement of a message that expires: where it calls, the notice is stored and sent is set, behind the caller's
message or READY in an empty queue, or it is owed for lack of room or under the returning mark. -/
def Obligations.QueuePlacesAndThresholdNotices : Prop :=
  (∀ (s : State) (k : Station) (tag : Tag) (sub : Nat) (p : Priority) (body : List Byte) (r : Record)
     (head : Serial) (h : Message) (urg norm : List Serial),
     Admits s.stn k sub body r → ActiveUnique s.stn → r.queue = head :: urg ++ norm →
     s.stn.msg? head = some h → s.stn.nextSerial ∉ s.stn.store.messages.map (·.serial) →
     s.stn.nextSerial ∉ r.queue → (r.meter.sent = true ∨ r.admin.threshold = none) →
     (∀ x ∈ urg, s.stn.isUrgent x = true) → (∀ x, norm.head? = some x → s.stn.isUrgent x = false) →
     let serial := s.stn.nextSerial
     let charge := (s.stn.tariffOf r).fullCharge (segments body)
     let m (state : MsgState) : Message := s.stn.newMessage sub p .caller body charge state
     let placed (store : Store) (queue : List Serial) : State :=
       { s.answered k tag (.reply (str "K/" ++ receiptText s.stn.self serial)) with
         stn.store := { store with serial := serial + 1 },
         stn.subs := s.stn.subs.withRec sub fun x => { x with
           queue := queue, meter := { x.meter with reserved := x.meter.reserved + charge } } }
     let i : Instr := .submit (.peer k tag) sub p body
     let waits : Store := { s.stn.store with messages := s.stn.store.messages ++ [m .waiting] }
     (p = .normal → exec i s = .next (placed waits (r.queue ++ [serial]))) ∧
     (p = .urgent → ¬(h.priority = .normal ∧ h.tag = none) →
       exec i s = .next (placed waits (head :: urg ++ serial :: norm))) ∧
     (p = .urgent → h.priority = .normal → h.tag = none →
       exec i s = .next (placed
         { s.stn.store.withMsg head (fun x => { x with state := .waiting }) with
           messages := (s.stn.store.withMsg head fun x => { x with state := .waiting }).messages ++ [m .ready],
           urgent := s.stn.store.urgent.filter (· ≠ head) ++ [serial],
           normal := s.stn.store.normal.filter (· ≠ head) }
         (serial :: r.queue)))) ∧
  (∀ (s : State) (k : Station) (tag : Tag) (sub : Nat) (p : Priority) (body : List Byte) (r : Record)
     (q n : BitVec 32),
     Admits s.stn k sub body r → ActiveUnique s.stn → r.queue = [] →
     s.stn.nextSerial ∉ s.stn.store.messages.map (·.serial) →
     r.admin.quota = some q → r.admin.threshold = some n → r.meter.sent = false →
     let serial := s.stn.nextSerial
     let charge := (s.stn.tariffOf r).fullCharge (segments body)
     let a : State :=
       { s.answered k tag (.reply (str "K/" ++ receiptText s.stn.self serial)) with
         stn.store := { s.stn.store with
           messages := s.stn.store.messages ++ [s.stn.newMessage sub p .caller body charge .ready],
           serial := serial + 1 }.readyTail p serial,
         stn.subs := s.stn.subs.withRec sub fun x => { x with
           queue := [serial], meter := { x.meter with reserved := x.meter.reserved + charge } } }
     let notice := s.stn.img.notice
     let next := a.stn.nextSerial
     let room := a.stn.store.messages.length < 512 ∧
       (a.stn.store.messages.map (·.blocks.length)).sum + segments notice ≤ 1024
     let called := q.toNat ≤ r.meter.current + r.meter.reserved + charge + n.toNat
     let i : Instr := .submit (.peer k tag) sub p body
     (¬called → exec i s = .next a) ∧
     (called → room → exec i s = .next { a with
       stn.store := { a.stn.store with
         messages := a.stn.store.messages ++ [a.stn.newMessage sub .normal .notice notice 0 .waiting],
         serial := next + 1 },
       stn.subs := a.stn.subs.withRec sub fun x => { x with
         queue := [serial, next], meter := { x.meter with sent := true, owed := false } } }) ∧
     (called → ¬room → exec i s = .next { a with
       stn.subs := a.stn.subs.withRec sub fun x => { x with meter := { x.meter with owed := true } } })) ∧
  ∀ (s : State) (m : Message) (r : Record) (q n : BitVec 32), EndsAlone s.stn m r .expired →
    reached s.stn.store.frame m.expiry = true → m.state ≠ .awaitAck → s.stn.committed m = false →
    r.admin.quota = some q → r.admin.threshold = some n → r.meter.sent = false →
    let e := s.stn.ended m r .expired
    let notice := s.stn.img.notice
    let next := e.nextSerial
    let room := e.store.messages.length < 512 ∧
      (e.store.messages.map (·.blocks.length)).sum + segments notice ≤ 1024
    let called := q.toNat ≤ r.meter.current + m.charge (s.stn.tariffOf r).fee .expired +
      (r.meter.reserved - m.reserved) + n.toNat
    let i : Instr := .messageExpiry m.serial
    let owed : State := { s with stn := { e with
      subs := e.subs.withRec m.sub fun x => { x with meter := { x.meter with owed := true } } } }
    (¬called → exec i s = .next { s with stn := e }) ∧
    (called → r.returning = true → exec i s = .next owed) ∧
    (called → r.returning = false → ¬room → exec i s = .next owed) ∧
    (called → r.returning = false → room → next ∉ e.store.messages.map (·.serial) →
      exec i s = .next { s with stn := { e with
        store := { e.store with
          messages := e.store.messages ++ [e.newMessage m.sub .normal .notice notice 0 .ready],
          serial := next + 1, normal := e.store.normal ++ [next] },
        subs := e.subs.withRec m.sub fun x => { x with
          queue := [next], meter := { x.meter with sent := true, owed := false } } } })

/-- Any request of a peer by subscriber number that finds no record to act on (R93): NOT YET in JOINING and
while the record is on its way, MOVED, NO SERVICE, UNKNOWN SUBSCRIBER. That a FORWARD whose number falls in no
range, which no station sends (R86), is answered UNKNOWN SUBSCRIBER is the model's choice (log 11). -/
def Obligations.PeerRequestsWithoutARecordAreAnswered : Prop :=
  ∀ (i : Instr) (q : Request) (s : State) (k : Station) (tag : Tag) (sub : Nat),
    i.request? = some q → i.requester? = some (.peer k tag) → requestSub q = some sub → q.wf = true →
    MayAnswer s.stn k →
    let gives (res : Result) : Prop := exec i s = .next (s.answered k tag res)
    let served := s.stn.cust.state ≠ .joining
    (s.stn.cust.state = .joining → gives .notYet) ∧
    (served → s.stn.homeOf sub = none → gives (.reply (str "X/UNKNOWN SUBSCRIBER"))) ∧
    ∀ h, served → s.stn.homeOf sub = some h →
      (s.stn.lookup sub h = .notYet → gives .notYet) ∧
      (∀ m, s.stn.lookup sub h = .moved m → gives (.moved m)) ∧
      (s.stn.lookup sub h = .noService → gives (.reply (str "X/NO SERVICE"))) ∧
      (s.stn.lookup sub h = .absent → s.stn.cust.state = .reclaiming → h = s.stn.self → gives .notYet) ∧
      (s.stn.lookup sub h = .absent → ¬(s.stn.cust.state = .reclaiming ∧ h = s.stn.self) →
        (∀ a b c d e f g n, q ≠ .enrol a b c d e f g n) → gives (.reply (str "X/UNKNOWN SUBSCRIBER")))

/-- CANCEL of a peer (R95, R117). QUERY of a peer (R95): the word of the message's state, or of its outcome; CANCEL or
QUERY in JOINING (R93); and no ANSWER enters the outbox for a peer viewed SILENT or FAILED (R24, R34). That a
FORWARDed receipt is served by its serial alone, whatever station it names, is the model's choice (log 11). -/
def Obligations.CancelAndQueryActByTheMessage : Prop :=
  (∀ (s : State) (k : Station) (tag : Tag) (h : Station) (serial : Serial), MayAnswer s.stn k →
     s.stn.cust.state ≠ .joining →
     let receipt := receiptText h serial
     let gives (st : State) (text : List Byte) : Prop :=
       exec (.cancel (.peer k tag) h serial) s = .next (st.answered k tag (.reply text))
     (∀ m, s.stn.msg? serial = some m → s.stn.committed m = true →
       (m.pending = none → gives { s with
         stn.store := s.stn.store.withMsg serial fun m => { m with pending := some .cancel } }
         (str "D/" ++ receipt ++ str "/CANCELLED")) ∧
       (m.pending = some .cancel → gives s (str "D/" ++ receipt ++ str "/CANCELLED")) ∧
       (m.pending = some .delivered → gives s (str "X/TOO LATE/DELIVERED"))) ∧
     (∀ m r, m.serial = serial → EndsPlainly s.stn m r .cancelled → s.stn.committed m = false →
       gives { s with stn := s.stn.ended m r .cancelled } (str "D/" ++ receipt ++ str "/CANCELLED")) ∧
     (∀ o, s.stn.msg? serial = none → s.stn.outcome? serial = some o →
       gives s (str "X/TOO LATE/" ++ o.text)) ∧
     (s.stn.msg? serial = none → s.stn.outcome? serial = none → gives s (str "X/UNKNOWN RECEIPT"))) ∧
  (∀ (s : State) (k : Station) (tag : Tag) (h : Station) (serial : Serial),
     let gives (res : Result) : Prop :=
       exec (.query (.peer k tag) h serial) s = .next (s.answered k tag res)
     let word (w : List Byte) : Result := .reply (str "D/" ++ receiptText h serial ++ str "/" ++ w)
     (MayAnswer s.stn k → s.stn.cust.state ≠ .joining →
       (∀ m, s.stn.msg? serial = some m →
         (m.state = .waiting ∨ m.state = .ready → gives (word (str "QUEUED"))) ∧
         (m.state = .claimed ∨ m.state = .loaded → gives (word (str "IN AIR"))) ∧
         (m.state = .awaitAck ∨ m.state = .paused → gives (word (str "AWAITING"))) ∧
         (m.state = .held → gives (word (str "HELD")))) ∧
       (∀ o, s.stn.msg? serial = none → s.stn.outcome? serial = some o → gives (word o.text)) ∧
       (s.stn.msg? serial = none → s.stn.outcome? serial = none →
         gives (.reply (str "X/UNKNOWN RECEIPT")))) ∧
     (MayAnswer s.stn k → s.stn.cust.state = .joining → gives .notYet ∧
       exec (.cancel (.peer k tag) h serial) s = .next (s.answered k tag .notYet)) ∧
     ((s.stn.view k).down = true → exec (.query (.peer k tag) h serial) s = .next s))

/-- ENROL of a peer (R3, R7, R12, R96): a new record in the table, with its MIRROR note to a buddy that is
heard where it is a HOME record; EXISTS and TABLE FULL otherwise. That ENROL tests its pager address against the
active table only, where R4 speaks of both tables, is DEDUCED (log 21). -/
def Obligations.EnrolCreatesARecord : Prop :=
  ∀ (s : State) (k : Station) (tag : Tag) (sub : Nat) (addr : PagerAddr) (cls : PagerClass)
    (t p : Fin 8) (z : ZoneSet) (quota threshold : Option (BitVec 32)) (h : Station),
    MayAnswer s.stn k → s.stn.cust.state ≠ .joining → sub < 10000000 → z ≠ 0 →
    let i : Instr := .enrol (.peer k tag) sub addr cls t p z quota threshold
    let a : Admin := ⟨sub, addr, cls, t, p, z, .active, quota, threshold⟩
    let created (o : Origin) : Record :=
      { admin := a, origin := o, home := h, returning := false, nextTag := 0, queue := [], lastZone := none,
        meter := ⟨0, 0, 0, 0, s.stn.bill.period, false, false, false⟩ }
    let placed (o : Origin) : State :=
      { s.answered k tag (.reply (str "O")) with
        stn.subs.active := insertBy (·.admin.sub) (created o) s.stn.subs.active }
    (∀ r, FoundHere s.stn sub r → exec i s = .next (s.answered k tag (.reply (str "X/EXISTS")))) ∧
    (s.stn.homeOf sub = some h → s.stn.lookup sub h = .absent →
      ¬(s.stn.cust.state = .reclaiming ∧ h = s.stn.self) →
      ((∃ r ∈ s.stn.subs.active, r.admin.addr = addr) →
        exec i s = .next (s.answered k tag (.reply (str "X/EXISTS")))) ∧
      ((∀ r ∈ s.stn.subs.active, r.admin.addr ≠ addr) → 1024 ≤ s.stn.subs.active.length →
        exec i s = .next (s.answered k tag (.reply (str "X/TABLE FULL")))) ∧
      ((∀ r ∈ s.stn.subs.active, r.admin.addr ≠ addr) → s.stn.subs.active.length < 1024 →
        (h ≠ s.stn.self → exec i s = .next (placed .adopted)) ∧
        (h = s.stn.self → (s.stn.view s.stn.buddy).down = true → exec i s = .next (placed .home)) ∧
        (h = s.stn.self → (s.stn.view s.stn.buddy).down = false → s.stn.bus.outbox.length < 31 →
          exec i s = .next { placed .home with
            stn.bus.outbox := (placed .home).stn.bus.outbox ++
              [Note.fresh s.stn.buddy (.mirror false a 0) .here .none] })))

/-- SUSPEND, RESUME and AMEND of a peer (R9 to R12, R24, R60, R96). For an ADOPTED record no note is sent. For a
HOME record in any service state a change hands one MIRROR note with the record as it then stands to a buddy that is
not SILENT or FAILED; where the outbox is full the mirror walk waits to restart, and a RUNNING one is aborted first.
An amend of X=1 alone that leaves the service state hands none (that a suspend or resume that changes nothing hands
none is DEDUCED, log 16). No entry waits for the places that the abort frees. -/
def Obligations.ServiceStateAndAmendOfARecord : Prop :=
  (∀ (s : State) (k : Station) (tag : Tag) (sub : Nat) (r : Record) (groups : List Group),
     MayAnswer s.stn k → FoundHere s.stn sub r → sub < 10000000 → r.origin = .adopted →
     ActiveUnique s.stn →
     let met (r : Record) : Prop := ∀ q, r.admin.quota = some q → r.meter.current + r.meter.reserved ≤ q.toNat
     let after (f : Record → Record) : State :=
       { s.answered k tag (.reply (str "O")) with stn.subs := s.stn.subs.withRec sub f }
     let service (v : Service) (x : Record) : Record := { x with admin := { x.admin with service := v } }
     (exec (.suspend (.peer k tag) sub) s = .next (after (service .suspended))) ∧
     ((r.admin.service = .active ∨ met r) →
       exec (.resume (.peer k tag) sub) s = .next (after (service .active))) ∧
     (r.admin.service ≠ .active → ¬met r →
       exec (.resume (.peer k tag) sub) s = .next (after (service .barred))) ∧
     (1 ≤ groups.length → groups.length ≤ 8 → .zones 0 ∉ groups →
       let g := groups.foldl applyGroup r
       (r.admin.service = .suspended →
         exec (.amend (.peer k tag) sub groups) s = .next (after fun _ => g)) ∧
       (r.admin.service ≠ .suspended → met g →
         exec (.amend (.peer k tag) sub groups) s = .next (after fun _ => service .active g)) ∧
       (r.admin.service ≠ .suspended → ¬met g →
         exec (.amend (.peer k tag) sub groups) s = .next (after fun _ => service .barred g)))) ∧
  ∀ (s : State) (k : Station) (tag : Tag) (sub : Nat) (r : Record), MayAnswer s.stn k →
    FoundHere s.stn sub r → sub < 10000000 → r.origin = .home → ActiveUnique s.stn →
    let met (r : Record) : Prop := ∀ q, r.admin.quota = some q → r.meter.current + r.meter.reserved ≤ q.toNat
    let service (v : Service) (x : Record) : Record := { x with admin := { x.admin with service := v } }
    let after (x : Record) : State :=
      { s.answered k tag (.reply (str "O")) with stn.subs := s.stn.subs.withRec sub fun _ => x }
    let restarts (x : Record) (outbox : List Note) : State := { after x with
      stn.subs.mirror := .restartWait 16, stn.bus.outbox := outbox }
    let changes (i : Instr) (x : Record) : Prop :=
      ((s.stn.view s.stn.buddy).down = true → exec i s = .next (after x)) ∧
      ((s.stn.view s.stn.buddy).down = false →
        (s.stn.bus.outbox.length < 31 → exec i s = .next { after x with
          stn.bus.outbox := (after x).stn.bus.outbox ++
            [Note.fresh s.stn.buddy (.mirror false x.admin x.nextTag) .here .none] }) ∧
        (s.stn.bus.outbox.length = 31 → (∀ pos first ended, s.stn.subs.mirror ≠ .running pos first ended) →
          exec i s = .next (restarts x (after x).stn.bus.outbox)) ∧
        ∀ pos first ended, s.stn.bus.outbox.length = 31 → s.stn.subs.mirror = .running pos first ended →
          NoEntryWaits s.stn → exec i s = .next (restarts x ((after x).stn.bus.outbox.filter fun n => !n.body.isMirror)))
    let suspend : Instr := .suspend (.peer k tag) sub
    let resume : Instr := .resume (.peer k tag) sub
    (r.admin.service ≠ .suspended → changes suspend (service .suspended r)) ∧
    (r.admin.service = .suspended → exec suspend s = .next (after r)) ∧
    (r.admin.service ≠ .active → met r → changes resume (service .active r)) ∧
    (r.admin.service = .suspended → ¬met r → changes resume (service .barred r)) ∧
    (r.admin.service = .barred → ¬met r → exec resume s = .next (after r)) ∧
    (r.admin.service = .active → exec resume s = .next (after r)) ∧
    ∀ (groups : List Group) (x : Record), 1 ≤ groups.length → groups.length ≤ 8 → .zones 0 ∉ groups →
      let g := groups.foldl applyGroup r
      (r.admin.service = .suspended ∧ x = g ∨
        r.admin.service ≠ .suspended ∧ (met g ∧ x = service .active g ∨ ¬met g ∧ x = service .barred g)) →
      let amend : Instr := .amend (.peer k tag) sub groups
      ((∃ y ∈ groups, y ≠ .clearLimit) ∨ x.admin.service ≠ r.admin.service → changes amend x) ∧
      ((∀ y ∈ groups, y = .clearLimit) → x.admin.service = r.admin.service →
        exec amend s = .next (after x))

/-- METER_READ of a peer (R97, R205): a V/ reply, and no roll. WITHDRAW of a peer (R8, R12, R24, R60, R97, R182 to
R184): its refusals, and the FINAL block of its one entry with the least scale that carries the total, whose
remainder is written off; for a HOME record one MIRROR REMOVE, or the mirror walk that waits to restart where the
outbox is full. No entry waits for the places that an abort of the mirror walk frees. -/
def Obligations.MeterReadAndWithdrawOfARecord : Prop :=
  (∀ (s : State) (k : Station) (tag : Tag) (sub : Nat) (r : Record), MayAnswer s.stn k →
     FoundHere s.stn sub r → sub < 10000000 →
     exec (.meterRead (.peer k tag) sub) s = .next (s.answered k tag (.reply
       (str "V/" ++ dec r.meter.current ++ str "/" ++ dec r.meter.reserved ++ str "/" ++
         (match r.admin.quota with | some q => dec q.toNat | none => str "-") ++ str "/" ++
         dec r.meter.carry ++ str "/" ++ dec r.meter.period.toNat ++ str "/" ++
         (if r.meter.limit then str "1" else str "0"))))) ∧
  (∀ (s : State) (k : Station) (tag : Tag) (sub : Nat) (r : Record), MayAnswer s.stn k →
     FoundHere s.stn sub r → sub < 10000000 → ActiveUnique s.stn →
     let i : Instr := .withdraw (.peer k tag) sub
     let total := r.meter.current + r.meter.closed + r.meter.carry
     (r.queue ≠ [] → exec i s = .next (s.answered k tag (.reply (str "X/SUBSCRIBER BUSY")))) ∧
     (r.queue = [] → s.stn.subs.drain ≠ .idle →
       exec i s = .next (s.answered k tag (.reply (str "X/DRAIN BUSY")))) ∧
     (r.queue = [] → s.stn.subs.drain = .idle → 4 ≤ s.stn.bill.queue.length →
       exec i s = .next (s.answered k tag (.reply (str "X/BILLING BUSY")))) ∧
     (∀ scale, r.queue = [] → s.stn.subs.drain = .idle → s.stn.bill.queue.length < 4 →
       scale ≤ 3 → (∀ j < scale, 65535 < total / 16 ^ j) → (scale = 3 ∨ total / 16 ^ scale ≤ 65535) →
       let field := min (total / 16 ^ scale) 65535
       let limited := decide (65535 < total / 16 ^ scale)
       let number := if s.stn.bill.counted = some s.stn.bill.period then s.stn.bill.counter else 0
       let done (mirror : MirrorWalk) (outbox : List Note) : State :=
         { s.answered k tag (.reply (str "O")) with
           stn.bus.outbox := outbox,
           stn.subs := { s.stn.subs with
             active := s.stn.subs.active.filter (fun x => decide (x.admin.sub ≠ sub)), mirror := mirror },
           stn.meter := { s.stn.meter with
             billed := s.stn.meter.billed + units (field * 16 ^ scale),
             unmetered := s.stn.meter.unmetered + units (total - field * 16 ^ scale) },
           stn.bill := { s.stn.bill with
             counted := some s.stn.bill.period, counter := number + 1,
             entriesLimited :=
               if limited then satInc s.stn.bill.entriesLimited else s.stn.bill.entriesLimited,
             queue := s.stn.bill.queue ++ [
               { station := s.stn.self, period := s.stn.bill.period, number := number, scale := scale,
                 entries := [{ sub := sub, field := BitVec.ofNat 16 field, limited := limited,
                               adopted := decide (r.origin = .adopted), final := true }] }] } }
       let answered := (s.answered k tag (.reply (str "O"))).stn.bus.outbox
       let mirror := s.stn.subs.mirror
       (r.origin = .adopted ∨ (s.stn.view s.stn.buddy).down = true →
         exec i s = .next (done mirror answered)) ∧
       (r.origin = .home → (s.stn.view s.stn.buddy).down = false →
         (s.stn.bus.outbox.length < 31 → exec i s = .next (done mirror
           (answered ++ [Note.fresh s.stn.buddy (.mirrorRemove sub) .here .none]))) ∧
         (s.stn.bus.outbox.length = 31 → (∀ pos first ended, mirror ≠ .running pos first ended) →
           exec i s = .next (done (.restartWait 16) answered)) ∧
         ∀ pos first ended, s.stn.bus.outbox.length = 31 → mirror = .running pos first ended →
           NoEntryWaits s.stn → exec i s = .next (done (.restartWait 16) (answered.filter fun n => !n.body.isMirror)))))

/-- REQUEST_OVERALL_LIMIT and ANSWER_LIMIT (R92, R100), the last count of one entry whose line has room: the
entry is freed with X/RETRY, its FORWARD leaves the outbox and counts no failure, and the place it frees goes to
the entry that waits for one (R24, R90). DEFERRAL_END (R91, R92), the last count of a deferral: the entry is
routed afresh, here to another station with an outbox place free that no entry waits for. FORWARD_REOFFER (R24,
R90): the oldest entry that waits in SENDING with no note hands its FORWARD when the outbox has a place;
otherwise nothing changes. That these rows are the last count of their entry, or an offer by itself, is the
model's choice (log 5). -/
def Obligations.PendingEntriesMeetTheirLimits : Prop :=
  (∀ (s : State) (e : PendEntry), s.stn.pend? e.tag = some e → s.stn.intake.waiting = [] →
     (s.stn.req.pend.map (·.tag)).Nodup → s.stn.req.holdOrder = [] → ReplyFits s.stn e →
     let rest := s.stn.bus.outbox.filter fun n => decide (n.forwardTag? ≠ some e.tag)
     let finished (outbox : List Note) : State :=
       { s.finished e (str "X/RETRY") with stn.bus.outbox := outbox }
     (e.rounds = 23 → (∀ text, e.state ≠ .holding text) →
       (NoEntryWaits s.stn → exec (.requestOverallLimit e.tag) s = .next (finished rest)) ∧
       ∀ w m, w ∈ s.stn.req.pend → w.state = .sending → w.target = some m → w.tag ≠ e.tag →
         (∀ n ∈ s.stn.bus.outbox, n.forwardTag? ≠ some w.tag) → 32 = s.stn.bus.outbox.length →
         (∃ n ∈ s.stn.bus.outbox, n.forwardTag? = some e.tag) →
         (∀ p ∈ s.stn.req.pend, p.state = .sending → p.tag ≠ w.tag →
           ∃ n ∈ s.stn.bus.outbox, n.forwardTag? = some p.tag) →
         exec (.requestOverallLimit e.tag) s = .next
           (finished (rest ++ [s.stn.forwardNote w.tag w.text w.route m]))) ∧
     (e.rounds < 23 → e.state = .awaiting → e.wait = 11 →
       exec (.answerLimit e.tag) s = .next (finished s.stn.bus.outbox))) ∧
  (∀ (s : State) (e : PendEntry) (q : Request) (route : Route) (m : Station),
     s.stn.pend? e.tag = some e → s.stn.intake.waiting = [] → (s.stn.req.pend.map (·.tag)).Nodup →
     NoEntryWaits s.stn → (∀ n ∈ s.stn.bus.outbox, n.forwardTag? ≠ some e.tag) →
     e.state = .deferred → e.wait = 3 → e.rounds < 23 → e.request = some q →
     s.stn.routing q = .to route m → m ≠ s.stn.self → s.stn.bus.outbox.length < 32 →
     exec (.deferralEnd e.tag) s = .next { s with
       stn.req.pend := s.stn.req.pend.map fun p => if p.tag = e.tag then
         { e with rounds := e.rounds + 1, wait := 0, state := .sending, route := route, target := some m }
         else p,
       stn.bus.outbox := s.stn.bus.outbox ++ [s.stn.forwardNote e.tag e.text route m] }) ∧
  (∀ (s : State) (older younger : List PendEntry) (e : PendEntry) (m : Station),
     s.stn.req.pend = older ++ e :: younger → (∀ p ∈ older, p.state ≠ .sending) →
     (∀ p ∈ older, p.tag ≠ e.tag) → e.state = .sending → e.target = some m →
     (∀ n ∈ s.stn.bus.outbox, n.forwardTag? ≠ some e.tag) →
     (s.stn.bus.outbox.length < 32 →
       exec .forwardReoffer s = .next { s with
         stn.bus.outbox := s.stn.bus.outbox ++ [s.stn.forwardNote e.tag e.text e.route m] }) ∧
     (32 ≤ s.stn.bus.outbox.length → exec .forwardReoffer s = .next s))

/-! ### The Message Store (chapter 6) and the ladder (chapter 8) -/

/-- A body is cut into blocks of 40 characters, in their order, the last of 1 to 40 (R104). The claims that fit a
frame take its slots in one run without gaps, each claim skipped only where it would pass slot 31; they are this
station's and every roster peer's, URGENT ones first, then by station from the number of the frame modulo 16 on,
then by claim number (R130). The close of a map brings the slot buffer at most as many pages as this station has
claims (R131). -/
def Obligations.BlocksAndSlotRunsAreContiguous : Prop :=
  (∀ body : List Byte,
    (blocksOf body).flatten = body ∧ (blocksOf body).length = (body.length + 39) / 40 ∧
    ∀ (i : Nat) (b : List Byte), (blocksOf body)[i]? = some b →
      b = (body.drop (40 * i)).take 40 ∧ 1 ≤ b.length) ∧
  (∀ claims : List (Station × Claim),
    let fit := assignSlots 0 claims
    let used (l : List (Nat × Station × Claim)) : Nat := (l.map (·.2.2.slots)).sum
    (mapSlots fit).length = 32 ∧
    (∀ x ∈ fit, ∀ i < x.2.2.slots,
      (mapSlots fit)[x.1 + i]? = some (some ⟨x.2.1, x.2.2.number, x.2.2.urgent⟩)) ∧
    (∀ i, used fit ≤ i → i < 32 → (mapSlots fit)[i]? = some none) ∧
    ∀ (before after : List (Station × Claim)) (k : Station) (c : Claim), claims = before ++ (k, c) :: after →
      let n := used (assignSlots 0 before)
      fit = assignSlots 0 before ++
        if n + c.slots ≤ 32 then (n, k, c) :: assignSlots (n + c.slots) after else assignSlots n after) ∧
  (∀ (s : Stn) (t : FrameNo),
    (∀ k c, (k, c) ∈ s.claimOrder t ↔
      inSet s.img.roster k = true ∧ c ∈ if k = s.self then s.air.claims else s.air.peerClaims.get k) ∧
    let place (k : Station) : Nat := (k.val + 16 - t.toNat % 16) % 16
    ((∀ k, (if k = s.self then s.air.claims else s.air.peerClaims.get k).Pairwise
        fun c d => c.number < d.number) →
      (s.claimOrder t).Pairwise fun x y =>
        x.2.urgent = true ∧ y.2.urgent = false ∨
          x.2.urgent = y.2.urgent ∧ (place x.1 < place y.1 ∨ x.1 = y.1 ∧ x.2.number < y.2.number))) ∧
  ∀ (s : Stn) (f : FrameNo),
    (s.closeMap f).air.buffer.length ≤ s.air.buffer.length + s.air.claims.length

/-- Receipt serials (R105): an acceptance, of a caller's message or of a notice, takes the first value from
the counter on that no message and no entry of the outcome list holds, and the counter then stands behind
it; serials are unique; a receipt is this station's number with the serial. The counter is 0 after power-on
and after the reset line, a stand-down leaves it, and a refused acceptance does not advance it. -/
def Obligations.ReceiptSerialsAreFirstFreeAndUnique : Prop :=
  (∀ (s : Stn) (sub : Nat) (p : Priority) (origin : MsgOrigin) (body : List Byte) (reserved : Nat),
    s.store.messages.length ≤ 512 → s.store.outcomes.length ≤ 64 →
    let inUse (t : Stn) : List Serial := t.store.messages.map (·.serial) ++ t.store.outcomes.map (·.1)
    let t := s.acceptMessage sub p origin body reserved
    (∃ n : Nat,
      let serial := s.store.serial + BitVec.ofNat 16 n
      s.nextSerial = serial ∧
      (∀ i < n, s.store.serial + BitVec.ofNat 16 i ∈ inUse s) ∧ serial ∉ inUse s ∧
      t.store.messages.map (·.serial) = s.store.messages.map (·.serial) ++ [serial] ∧
      t.store.outcomes = s.store.outcomes ∧ t.store.serial = serial + 1) ∧
    ((inUse s).Nodup → (inUse t).Nodup)) ∧
  (∀ (s n : Stn) (sub : Nat) (p : Priority) (body text : List Byte),
    (s.execute (.submit sub p body) = (n, .reply (str "K/" ++ text)) →
      text = receiptText s.self s.nextSerial) ∧
    (s.execute (.submit sub p body) = (n, .reply (str "X/" ++ text)) →
      n.store.serial = s.store.serial)) ∧
  (∀ (s : Stn) (sub : Nat), s.createNotice sub = none →
    (s.offerNotice sub).store.serial = s.store.serial) ∧
  (∀ s : Stn, s.standDown.store.serial = s.store.serial) ∧
  ∀ (s : State) (a b : Bool) (t : State),
    exec (.powerOn a b) s = .next t ∨ exec .resetLineAsserted s = .next t → t.stn.store.serial = 0

/-- AIR_FRAME_START (R115, R155) where no message expires: every wait and hold is counted down by one frame,
and nothing else changes; the one hold that runs out ends as HOLD_END gives. -/
def Obligations.AirFrameStartCountsEveryWait : Prop :=
  ∀ (s : State) (f : FrameNo) (order : List Serial), s.stn.ctl.phase = .closed →
    (∀ m ∈ s.stn.store.messages, reached f m.expiry = false ∨ m.state = .awaitAck ∨
      (m.state = .loaded ∧ ∃ t, m.target = some t ∧ reached f t = true)) →
    let waits (m : Message) : Prop := m.state = .awaitAck ∨ m.state = .paused ∨ m.state = .held
    let lasts (m : Message) : Prop := waits m → ∃ l, m.ladder = some l ∧ 2 ≤ l.wait
    let counted : State := { s with stn.store := { s.stn.store with
      frame := f,
      messages := s.stn.store.messages.map fun m =>
        if m.state = .awaitAck ∨ m.state = .paused ∨ m.state = .held then
          { m with ladder := m.ladder.map fun l => { l with wait := l.wait - 1 } }
        else m } }
    ((∀ m ∈ s.stn.store.messages, lasts m) →
      exec (.airFrameStart f order) s = .next counted) ∧
    ∀ m ∈ s.stn.store.messages, m.state = .held → (∃ l, m.ladder = some l ∧ l.wait = 1) →
      (s.stn.store.messages.map (·.serial)).Nodup →
      (∀ x ∈ s.stn.store.messages, x.serial ≠ m.serial → lasts x) →
      (∀ x ∈ s.stn.store.messages, reached f x.expiry = false) →
      exec (.airFrameStart f order) s = exec (.holdEnd m.serial) counted

/-- WAIT_END (R152, R154, R156, R159), the last count of a wait: a repeat, the next step, the round gap, the
next round, or the final outcome. That the row is the last count of the wait is the model's choice (log 5); that
the ladder brought within the plan is stored is DEDUCED (log 20). -/
def Obligations.WaitEndFollowsTheLadder : Prop :=
  ∀ (s : State) (m : Message) (r : Record) (l0 : Ladder), s.stn.msg? m.serial = some m →
    s.stn.rec? m.sub = some r → m.ladder = some l0 → (m.state = .awaitAck ∨ m.state = .paused) →
    l0.wait ≤ 1 →
    let p := s.stn.img.plans.get r.admin.plan
    let l := l0.inside p
    let i : Instr := .waitEnd m.serial
    let inGap := m.state = .paused ∧ l0.inner = 0
    let ready (step inner outer : Nat) : State :=
      { s with stn.store := s.stn.store.readied m ⟨step, inner, outer, 0⟩ }
    let paused : State := { s with stn.store := s.stn.store.withMsg m.serial fun x =>
      { x with state := .paused, ladder := some ⟨l.step, 0, l.outer - 1, p.roundGap⟩ } }
    let o : Outcome := if m.state = .awaitAck then .expired else .unconfirmed
    (inGap → exec i s = .next (ready 0 (p.stepAt 0).repeats l.outer)) ∧
    (¬inGap → 1 < l.inner → exec i s = .next (ready l.step (l.inner - 1) l.outer)) ∧
    (¬inGap → l.inner ≤ 1 → ¬p.endsRound l.step →
      exec i s = .next (ready (l.step + 1) (p.stepAt (l.step + 1)).repeats l.outer)) ∧
    (¬inGap → l.inner ≤ 1 → p.endsRound l.step → 1 < l.outer → p.roundGap = 0 →
      exec i s = .next (ready 0 (p.stepAt 0).repeats (l.outer - 1))) ∧
    (¬inGap → l.inner ≤ 1 → p.endsRound l.step → 1 < l.outer → 0 < p.roundGap →
      exec i s = .next paused) ∧
    (¬inGap → l.inner ≤ 1 → p.endsRound l.step → l.outer ≤ 1 → EndsPlainly s.stn m r o →
      exec i s = .next { s with stn := s.stn.ended m r o })

/-- HOLD_END (R157), the last count of a hold: the message is READY at its step, or at a round start. MESSAGE_EXPIRY
(R116): the message whose expiry is reached becomes EXPIRED, unless it is AWAIT_ACK or committed. A final outcome
at the head of a queue (R114): the message is gone, its outcome is the newest of the list, and the next message,
if WAITING, is READY at the tail of its list. That HOLD_END is the last count, and MESSAGE_EXPIRY the test of one
message alone, is the model's choice (log 5); the ladder is stored as brought within the plan (DEDUCED, log 20);
a message is committed from the start of its target frame at the store or at the Airtime Unit, whichever comes
first (the model's choice, log 4). -/
def Obligations.HoldsAndValidityRunOut : Prop :=
  (∀ (s : State) (m : Message) (r : Record), s.stn.msg? m.serial = some m → s.stn.rec? m.sub = some r →
     (∀ l0, m.ladder = some l0 → m.state = .held → l0.wait ≤ 1 →
       let p := s.stn.img.plans.get r.admin.plan
       let l := l0.inside p
       (l.inner = 0 → exec (.holdEnd m.serial) s =
         .next { s with stn.store := s.stn.store.readied m ⟨0, (p.stepAt 0).repeats, l.outer, 0⟩ }) ∧
       (l.inner ≠ 0 → exec (.holdEnd m.serial) s =
         .next { s with stn.store :=
           s.stn.store.readied m ⟨l.step, (p.stepAt l.step).repeats, l.outer, 0⟩ })) ∧
     (reached s.stn.store.frame m.expiry = true → m.state ≠ .awaitAck → s.stn.committed m = false →
       EndsPlainly s.stn m r .expired →
       exec (.messageExpiry m.serial) s = .next { s with stn := s.stn.ended m r .expired }) ∧
     (reached s.stn.store.frame m.expiry = false ∨ m.state = .awaitAck ∨ s.stn.committed m = true →
       exec (.messageExpiry m.serial) s = .next s)) ∧
  (∀ (s : State) (m n : Message) (r : Record) (rest : List Serial),
     ActiveUnique s.stn → (s.stn.store.messages.map (·.serial)).Nodup →
     s.stn.msg? m.serial = some m → s.stn.msg? n.serial = some n → s.stn.rec? m.sub = some r →
     r.queue = m.serial :: n.serial :: rest → m.serial ≠ n.serial → m.serial ∉ rest → n.state = .waiting →
     r.admin.threshold = none → reached s.stn.store.frame m.expiry = true → m.state ≠ .awaitAck →
     s.stn.committed m = false →
     ∃ t : State, exec (.messageExpiry m.serial) s = .next t ∧ t.stn.msg? m.serial = none ∧
       (t.stn.rec? m.sub).map (·.queue) = some (n.serial :: rest) ∧
       t.stn.msg? n.serial = some { n with state := .ready, target := none } ∧
       (n.priority = .urgent → t.stn.store.urgent.getLast? = some n.serial) ∧
       (n.priority = .normal → t.stn.store.normal.getLast? = some n.serial) ∧
       t.stn.store.outcomes.getLast? = some (m.serial, .expired))

/-- OWED_NOTICE_OFFERS (R107, R170): the only owed notice is stored and READY and its marks change; a store
without room changes nothing, nor does a mark held back by the returning mark. -/
def Obligations.OwedNoticesAreOffered : Prop :=
  ∀ s : State, s.stn.ctl.phase = .closed → 1 ≤ s.stn.img.notice.length →
    let body := s.stn.img.notice
    let room := s.stn.store.messages.length < 512 ∧
      (s.stn.store.messages.map (·.blocks.length)).sum + (body.length + 39) / 40 ≤ 1024
    let serial := s.stn.nextSerial
    let owed := s.stn.subs.active.filter fun r => r.meter.owed && !r.returning
    (owed = [] → exec .owedNoticeOffers s = .next s) ∧
    (¬room → exec .owedNoticeOffers s = .next s) ∧
    ∀ r : Record, owed = [r] → room → r.queue = [] → ActiveUnique s.stn →
      serial ∉ s.stn.store.messages.map (·.serial) →
      let m : Message :=
        { serial := serial, sub := r.admin.sub, priority := .normal, origin := .notice,
          blocks := blocksOf body, tag := none, state := .ready, target := none, ladder := none,
          expiry := s.stn.air.frame + BitVec.ofNat 16 s.stn.img.validNormal, reserved := 0,
          transmissions := 0, pending := none }
      exec .owedNoticeOffers s = .next { s with
        stn.store := { s.stn.store with
          messages := s.stn.store.messages ++ [m], serial := serial + 1,
          normal := s.stn.store.normal ++ [serial] },
        stn.subs := s.stn.subs.withRec r.admin.sub fun x => { x with
          queue := [serial], meter := { x.meter with sent := true, owed := false } } }

/-- PAGE_COMPLETION (R113, R118, R123, R134, R154): the page leaves the slot buffer, its last slot's drive of the
air feed ends, its transmission is counted, and the message waits for its acknowledgement, pauses, or takes its
final outcome. A page whose slots are not all sent in a frame not yet over is not complete, and the row then
changes nothing (the model's choice, log 5); the ladder is stored as brought within the plan, where R154 leaves it
(DEDUCED, log 20). -/
def Obligations.PageCompletionAdvancesTheMessage : Prop :=
  ∀ (s : State) (p : Page) (m : Message) (r : Record) (l0 : Ladder),
    s.stn.air.buffer.find? (fun q => decide (q.message = m.serial)) = some p →
    s.stn.msg? m.serial = some m → s.stn.rec? m.sub = some r → m.ladder = some l0 → m.state = .loaded →
    let i : Instr := .pageCompletion m.serial
    let complete := p.committed = true ∧ (p.slots ≤ p.sent ∨ p.target ≠ s.stn.air.frame)
    let plan := s.stn.img.plans.get r.admin.plan
    let l := l0.inside plan
    let sent : Message := { m with transmissions := m.transmissions + 1 }
    let last := l.inner ≤ 1 ∧ plan.endsRound l.step ∧ l.outer ≤ 1
    let feed := s.stn.air.feed.filter fun x => decide (x.slot.val + 1 ≠ p.first + p.slots)
    let waiting (st : MsgState) : State := { s with
      stn.air.buffer := s.stn.air.buffer.filter fun q => decide (q.message ≠ m.serial),
      stn.air.feed := feed,
      stn.store := s.stn.store.withMsg m.serial fun x => { x with
        transmissions := x.transmissions + 1, target := none, state := st,
        ladder := some { l with wait := (plan.stepAt l.step).gap } } }
    let ends (o : Outcome) : Prop := EndsPlainly s.stn m r o →
      r.meter.current + sent.charge (s.stn.tariffOf r).fee o ≤ Config.unitLimit →
      exec i s = .next { s with stn := { s.stn.ended sent r o with air.feed := feed } }
    (¬complete → exec i s = .next s) ∧
    (complete → m.pending = none → r.admin.pagerClass = .twoWay → exec i s = .next (waiting .awaitAck)) ∧
    (complete → m.pending = none → r.admin.pagerClass ≠ .twoWay → ¬last →
      exec i s = .next (waiting .paused)) ∧
    (complete → m.pending = none → r.admin.pagerClass ≠ .twoWay → last → ends .unconfirmed) ∧
    (complete → m.pending = some .cancel → ends .cancelled) ∧
    (complete → m.pending = some .delivered → ends .delivered)

/-! ### The Airtime Unit (chapter 7) -/

/-- OFFICE_MARK_AIRTIME (R123, R133, R134): the frame number advances, exactly the pages of the new frame are
committed, and the frame just past ends; that maps and abstain marks are kept while a rule can still read them is
DEDUCED (log 14). OFFICE_MARK_BUS (R20, R194): rounds begin for the frame that the mark has begun where none run,
else the mark is noted; the Bus Unit numbers the frames of its marks by itself, its number is the air frame number
behind every mark that both have taken, in either order (DEDUCED, log 7), and a row with another number is no mark
(the model's choice, log 7). Neither is taken before the configuration is closed. SLOT_START (R136): this station
drives the slots its map gives it, with the page in its buffer or idle fill; it drives nothing elsewhere, before the
first frame, or in a frame it abstains from. A slot of a page whose turn it is not is the model's choice
(log 5). -/
def Obligations.OfficeMarksAndSlots : Prop :=
  (∀ (s : State) (n : Fin 32), s.stn.ctl.phase = .closed →
     let i : Instr := .slotStart n
     let drives := s.stn.air.begun = true ∧ s.stn.air.frame ∉ s.stn.air.abstain
     let quiet : State := { s with stn.air.feed := none }
     (¬drives → exec i s = .next quiet) ∧
     (s.stn.slotOwner n.val = none → exec i s = .next quiet) ∧
     ∀ o, drives → s.stn.slotOwner n.val = some o →
       (o.station ≠ s.stn.self → exec i s = .next quiet) ∧
       (o.station = s.stn.self → s.stn.pageOf o.number = none →
         exec i s = .next { s with stn.air := { s.stn.air with
           feed := some ⟨n, idleFill s.stn.self⟩, forfeits := satInc s.stn.air.forfeits } }) ∧
       ∀ p, o.station = s.stn.self → s.stn.pageOf o.number = some p →
         (p.first + p.sent = n.val ∧ p.sent < p.slots →
           exec i s = .next { s with stn.air := { s.stn.air with
             feed := some ⟨n, p.slotBytes p.sent⟩,
             buffer := s.stn.air.buffer.map fun q =>
               if q.message = p.message then { q with sent := q.sent + 1 } else q } }) ∧
         (¬(p.first + p.sent = n.val ∧ p.sent < p.slots) → exec i s = .next s)) ∧
  (∀ s : State,
     let f := s.stn.air.frame + 1
     let g := s.stn.bus.mark + 1
     (s.stn.ctl.phase ≠ .closed → exec .officeMarkAirtime s = .next s) ∧
     (∀ x, s.stn.ctl.phase ≠ .closed ∨ x ≠ g → exec (.officeMarkBus x) s = .next s) ∧
     (s.stn.ctl.phase = .closed →
       (∃ t : State, exec .officeMarkAirtime s = .next t ∧ t.stn.air.frame = f ∧ t.stn.air.begun = true ∧
         t.stn.air.feed = none ∧ ∀ p ∈ t.stn.air.buffer, p.committed = decide (p.target = f)) ∧
       ((∀ p ∈ s.stn.air.buffer, p.committed = true → p.target = f) →
         exec .officeMarkAirtime s = .next { s with stn.air := { s.stn.air with
           frame := f, begun := true, feed := none,
           buffer := s.stn.air.buffer.map fun p => if p.target = f then { p with committed := true } else p,
           maps := s.stn.air.maps.filter fun m => decide ((m.frame - f).toNat ≤ 2),
           abstain := s.stn.air.abstain.filter fun x =>
             decide ((x - f).toNat ≤ 2 ∨ ∃ r ∈ s.stn.bus.round, r.frame + 2 = x) } }) ∧
       (s.stn.bus.round = none → exec (.officeMarkBus g) s = .next { s with
         stn.bus := { s.stn.bus with
           mark := g, round := some { frame := g, index := 0, left := s.stn.roster }, noted := false },
         stn.cust.join := if s.stn.cust.state = .joining ∧ s.stn.cust.join = .before then .running g
           else s.stn.cust.join }) ∧
       (∀ r, s.stn.bus.round = some r → exec (.officeMarkBus g) s = .next { s with
         stn.bus := { s.stn.bus with mark := g, noted := true } }) ∧
       ∀ t u : State, s.stn.bus.mark = s.stn.air.frame →
         (exec .officeMarkAirtime s = .next t ∧ exec (.officeMarkBus f) t = .next u ∨
           exec (.officeMarkBus f) s = .next t ∧ exec .officeMarkAirtime t = .next u) →
         u.stn.bus.mark = f ∧ u.stn.air.frame = f))

/-! ### The Return Unit (chapter 8) -/

/-- Reports that act on no message (R140, R142, R144, R145): suppressed, foreign, late, stale; bad reports and
gaps inside a report; and the ageing of the recent report list. That the rows carry the bytes is the model's
choice (log 6), and that bytes which are no whole report by the length of their kind, or a good one, are no bad
report, and bytes outside a report no gap, so that the row changes nothing (log 5). -/
def Obligations.ReportsWithoutEffectAreCounted : Prop :=
  ∀ s : State, s.stn.ctl.phase = .closed →
    (∀ q : Report,
      let i := q.command
      let t := s.stn.accepted q
      let late : State := { s with stn := { t with ret.late := satInc s.stn.ret.late } }
      (¬q.isFresh s.stn → exec i s = .next { s with stn.ret.suppressed := satInc s.stn.ret.suppressed }) ∧
      (q.isFresh s.stn → s.stn.recAt? q.addr = none →
        exec i s = .next { s with stn := { t with ret.foreign := satInc s.stn.ret.foreign } }) ∧
      (∀ r, q.isFresh s.stn → s.stn.recAt? q.addr = some r → s.stn.inTransit r.admin.sub = true →
        exec i s = .next late) ∧
      ∀ r a tag, q.finds s.stn r → (q = .received a tag ∨ q = .full a tag) →
        (s.stn.head? r = none → exec i s = .next late) ∧
        (∀ m, s.stn.head? r = some m → m.tag = none → exec i s = .next late) ∧
        ∀ m x, s.stn.head? r = some m → m.tag = some x → x ≠ tag →
          exec i s = .next { s with stn := { t with ret.stale := satInc s.stn.ret.stale } }) ∧
    (∀ bytes,
      let counted : State := { s with stn.ret.badChecks := satInc s.stn.ret.badChecks }
      (∀ kind rest, bytes = kind :: rest →
        let size := if kind = 0x31 ∨ kind = 0x32 ∨ kind = 0x34 then 7 else if kind = 0x33 then 6 else 1
        (rest.length + 1 = size → judgeReport bytes = none → exec (.badReport bytes) s = .next counted) ∧
        (rest.length + 1 ≠ size ∨ judgeReport bytes ≠ none → exec (.badReport bytes) s = .next s) ∧
        (rest.length + 1 < size → exec (.reportGap bytes) s = .next counted) ∧
        (size ≤ rest.length + 1 → exec (.reportGap bytes) s = .next s)) ∧
      (bytes = [] → exec (.badReport bytes) s = .next s ∧ exec (.reportGap bytes) s = .next s)) ∧
    (∀ q : Report, judgeReport q.bytes = some q ∧ exec (.badReport q.bytes) s = .next s ∧
      exec (.reportGap q.bytes) s = .next s ∧
      ∀ n, 1 ≤ n → n < q.bytes.length →
        exec (.reportGap (q.bytes.take n)) s =
          .next { s with stn.ret.badChecks := satInc s.stn.ret.badChecks }) ∧
    ∀ f, exec (.reportEntryAged f) s = .next { s with
      stn.ret.recent := s.stn.ret.recent.filter fun e =>
        decide ((f - e.frame).toNat < s.stn.img.width) }

/-- REPORT_RECEIVED (R146, R118): a matching tag ends the message DELIVERED, or sets its pending outcome where
it is committed; a second one is late. REPORT_FULL (R148): a matching tag holds the head for the hold limit
of its plan. REPORT_REGISTER (R150): the last zone, and the wait of a PAUSED head ends, its round gap counting
as 0. REPORT_READY (R149): a HELD head is READY at once, at its step or at a round start as the end of a hold
gives (R157); with a head in any other state, or an empty queue, the accepted report has no effect. The ladder is
stored as brought within the plan, where R148 keeps its fields (DEDUCED from R152, log 20). -/
def Obligations.ReportsActOnTheHead : Prop :=
  (∀ (s : State) (r : Record) (m : Message) (a : PagerAddr) (tag : Tag), s.stn.head? r = some m →
     s.stn.msg? m.serial = some m → s.stn.rec? r.admin.sub = some r → m.sub = r.admin.sub →
     let plan := s.stn.img.plans.get r.admin.plan
     let late (q : Report) : State :=
       { s with stn := { s.stn.accepted q with ret.late := satInc s.stn.ret.late } }
     (let q : Report := .received a tag
      q.finds s.stn r → m.tag = some tag →
       (s.stn.committed m = true → m.pending = none → exec q.command s = .next { s with
         stn := { s.stn.accepted q with
           store := s.stn.store.withMsg m.serial fun x => { x with pending := some .delivered } } }) ∧
       (s.stn.committed m = true → m.pending ≠ none → exec q.command s = .next (late q)) ∧
       (s.stn.committed m = false → EndsPlainly s.stn m r .delivered →
         exec q.command s = .next { s with stn := (s.stn.accepted q).ended m r .delivered })) ∧
     (let q : Report := .full a tag
      q.finds s.stn r → m.tag = some tag →
       (s.stn.committed m = true → exec q.command s = .next (late q)) ∧
       (m.state = .held → exec q.command s = .next { s with stn := s.stn.accepted q }) ∧
       (m.state ≠ .held → s.stn.committed m = false →
         let t := (s.stn.accepted q).landed m
         exec q.command s = .next { s with stn := { t with
           store := t.store.withMsg m.serial fun x => { x with
             state := .held, target := none,
             ladder := x.ladder.map fun l => { l.inside plan with wait := plan.hold } } } })) ∧
     ∀ z : Zone,
       let q : Report := .register a z
       let t : Stn := { s.stn.accepted q with
         subs := s.stn.subs.withRec r.admin.sub fun x => { x with lastZone := some z } }
       let ready (step inner outer : Nat) : State :=
         { s with stn := { t with store := s.stn.store.readied m ⟨step, inner, outer, 0⟩ } }
       q.finds s.stn r → ActiveUnique s.stn →
       (m.state ≠ .paused → exec q.command s = .next { s with stn := t }) ∧
       ∀ l0, m.state = .paused → m.ladder = some l0 →
         let l := l0.inside plan
         (l0.inner = 0 → exec q.command s = .next (ready 0 (plan.stepAt 0).repeats l.outer)) ∧
         (l0.inner ≠ 0 → 1 < l.inner → exec q.command s = .next (ready l.step (l.inner - 1) l.outer)) ∧
         (l0.inner ≠ 0 → l.inner ≤ 1 → ¬plan.endsRound l.step →
           exec q.command s = .next (ready (l.step + 1) (plan.stepAt (l.step + 1)).repeats l.outer)) ∧
         (l0.inner ≠ 0 → l.inner ≤ 1 → plan.endsRound l.step → 1 < l.outer →
           exec q.command s = .next (ready 0 (plan.stepAt 0).repeats (l.outer - 1)))) ∧
  (∀ (s : State) (r : Record) (a : PagerAddr),
     let q : Report := .ready a
     q.finds s.stn r →
     (r.queue = [] → exec (.reportReady a) s = .next { s with stn := s.stn.accepted q }) ∧
     ∀ m, s.stn.head? r = some m →
       (m.state ≠ .held → exec (.reportReady a) s = .next { s with stn := s.stn.accepted q }) ∧
       ∀ l0, m.state = .held → s.stn.rec? m.sub = some r → m.ladder = some l0 →
         let p := s.stn.img.plans.get r.admin.plan
         let l := l0.inside p
         (l.inner = 0 → exec (.reportReady a) s = .next { s with stn := { s.stn.accepted q with
           store := s.stn.store.readied m ⟨0, (p.stepAt 0).repeats, l.outer, 0⟩ } }) ∧
         (l.inner ≠ 0 → exec (.reportReady a) s = .next { s with stn := { s.stn.accepted q with
           store := s.stn.store.readied m ⟨l.step, (p.stepAt l.step).repeats, l.outer, 0⟩ } }))

/-! ### The Bus Unit (chapter 2) -/

/-- Queued takes (R31): they wait for this station's next window, whose frame lists the oldest 8 of them;
the others are discarded and the queue is emptied. The queue is empty after power-on and after the reset
line, and no other command takes a take out of it. -/
def Obligations.QueuedTakesWaitForTheNextWindow : Prop :=
  (∀ (s : State) (r : RoundPos), InRound s.stn r → r.left.head? = some s.stn.self →
    ∃ (t : State) (f : RoundFrame), exec .roundFrameSend s = .next t ∧ t.stn.bus.frameOut = f.bytes ∧
      f.sender = s.stn.self ∧ f.frame = r.frame ∧ f.index = r.index ∧
      f.takes = s.stn.bus.takes.take 8 ∧ t.stn.bus.takes = []) ∧
  (∀ (s : State) (a b : Bool) (t : State),
    exec (.powerOn a b) s = .next t ∨ exec .resetLineAsserted s = .next t → t.stn.bus.takes = []) ∧
  ∀ (s t : State) (i : Instr), exec i s = .next t → i ≠ .roundFrameSend → i ≠ .resetLineAsserted →
    i ≠ .supplyBelowValidLevel → (∀ a b, i ≠ .powerOn a b) → s.stn.bus.takes <+: t.stn.bus.takes

/-- ROUND_FRAME_SEND (R21, R25, R31, R111, R125, R127, R153) while no declaration is pending: the frame, the claim
of the only READY message, the abstention of a JOINING station, and the only note of the outbox, sent for the first
time or again. A JOINING station marks the target frame at its own window start (the model's choice, log 14). In every
round and whatever the outbox holds (R25, R33, R199): the frame is within 472 bytes and carries at most 4 notes, in
their age order. A note goes where it is DUE, no held FORWARD, sent before or among fewer than 16 in flight to its
addressee, and fits, and no older one to its addressee was left for want of room; it takes its serial at its first
send, its send count advances, and it is AWAITING TAKE. Every other note stays as it is. -/
def Obligations.RoundFrameCarriesClaimsAndNotes : Prop :=
  (∀ (s : State) (r : RoundPos), InRound s.stn r → r.left.head? = some s.stn.self →
     s.stn.cust.declaration ≠ .pending →
     let f2 := r.frame + 2
     let frame (claims : List Claim) (notes : List WireNote) : RoundFrame :=
       { sender := s.stn.self, state := s.stn.cust.state, office := s.stn.img.office, frame := r.frame,
         draining := s.stn.draining, index := r.index, period := s.stn.bill.period,
         silence := s.stn.silenceList,
         custody := if s.stn.cust.declaration = .declaring then setAdd s.stn.cust.custody s.stn.ward
           else s.stn.cust.custody,
         takes := s.stn.bus.takes.take 8, claims := claims, notes := notes }
     let sent (st : Stn) (f : RoundFrame) : State := { s with stn := { st with bus := { st.bus with
       frameOut := f.bytes, takes := [], round := some { r with left := r.left.tail } } } }
     (s.stn.bus.outbox = [] →
       (r.index = 3 → exec .roundFrameSend s = .next (sent s.stn (frame [] []))) ∧
       (r.index ≠ 3 → s.stn.cust.state = .joining →
         exec .roundFrameSend s = .next (sent (s.stn.abstained f2) (frame [] []))) ∧
       (r.index ≠ 3 → s.stn.cust.state ≠ .joining →
         (f2 ∈ s.stn.air.abstain ∨ s.stn.store.urgent ++ s.stn.store.normal = [] ∨
           8 ≤ s.stn.air.claims.length) →
         exec .roundFrameSend s = .next (sent s.stn (frame s.stn.air.claims []))) ∧
       ∀ (m : Message) (rec : Record), r.index ≠ 3 → s.stn.cust.state ≠ .joining →
         f2 ∉ s.stn.air.abstain → s.stn.air.claims = [] →
         s.stn.store.urgent ++ s.stn.store.normal = [m.serial] → s.stn.msg? m.serial = some m →
         s.stn.rec? m.sub = some rec →
         let p := s.stn.img.plans.get rec.admin.plan
         let c : Claim := { target := f2, urgent := decide (m.priority = .urgent), slots := m.blocks.length,
                            number := 0, message := some m.serial }
         let taken (f : Message → Message) : Stn := { s.stn with
           air.claims := [c],
           store := { s.stn.store.withMsg m.serial fun x =>
             f { x with state := .claimed, target := some f2 } with urgent := [], normal := [] } }
         (m.tag ≠ none → exec .roundFrameSend s = .next (sent (taken id) (frame [c] []))) ∧
         (m.tag = none → exec .roundFrameSend s = .next (sent
           { taken fun x => { x with tag := some rec.nextTag,
                                     ladder := some ⟨0, (p.stepAt 0).repeats, p.rounds, 0⟩ } with
             subs := s.stn.subs.withRec m.sub fun x => { x with nextTag := x.nextTag + 1 } }
           (frame [c] [])))) ∧
     ∀ n : Note, r.index = 3 → s.stn.bus.outbox = [n] → n.awaiting = false →
       (n.forwardTag? ≠ none → n.held = false) →
       20 + 2 * (s.stn.bus.takes.take 8).length + 3 + n.body.content.length ≤ 472 →
       (∀ x, n.serial = some x → 0 < n.sends →
         exec .roundFrameSend s = .next (sent { s.stn with
           bus.outbox := [{ n with sends := n.sends + 1, awaiting := true }],
           bus.resent := satInc s.stn.bus.resent }
           (frame [] [{ dest := n.dest, serial := x, body := n.body }]))) ∧
       (n.serial = none → n.sends = 0 →
         let x := s.stn.bus.counters.get n.dest
         exec .roundFrameSend s = .next (sent { s.stn with
           bus.outbox := [{ n with serial := some x, sends := 1, awaiting := true }],
           bus.counters := s.stn.bus.counters.set n.dest.val (x + 1) n.dest.isLt }
           (frame [] [{ dest := n.dest, serial := x, body := n.body }])))) ∧
  ∀ (s : State) (r : RoundPos), InRound s.stn r → r.left.head? = some s.stn.self → s.stn.air.claims.length ≤ 8 →
    ∃ (t : State) (f : RoundFrame), exec .roundFrameSend s = .next t ∧ t.stn.bus.frameOut = f.bytes ∧
      f.sender = s.stn.self ∧ f.frame = r.frame ∧ f.index = r.index ∧ f.takes = s.stn.bus.takes.take 8 ∧
      f.claims = (if r.index = 3 ∨ s.stn.cust.state = .joining then [] else t.stn.air.claims) ∧
      f.bytes.length ≤ 472 ∧ f.notes.length ≤ 4 ∧
      let before := s.stn.bus.outbox
      let after := t.stn.bus.outbox
      let firstTo (k : Station) (l : List (Note × Note)) : NoteSerial :=
        BitVec.ofNat 8 (l.filter fun p => decide (p.1.dest = k ∧ p.1.serial = none)).length
      after.length = before.length ∧
      f.notes = (sentPairs before after).map (fun p =>
        { dest := p.1.dest, serial := p.2.serial.getD 0, body := p.1.body }) ∧
      (∀ k : Station, t.stn.bus.counters.get k =
        s.stn.bus.counters.get k + firstTo k (sentPairs before after)) ∧
      t.stn.bus.resent = ((sentPairs before after).filter fun p => decide (1 ≤ p.1.sends)).foldl
        (fun c _ => satInc c) s.stn.bus.resent ∧
      ∀ (older younger olderAfter youngerAfter : List Note) (n m : Note),
        before = older ++ n :: younger → after = olderAfter ++ m :: youngerAfter →
        older.length = olderAfter.length →
        let sent := sentPairs older olderAfter
        let goes := n.maySend (olderAfter ++ n :: younger) ∧ sent.length < 4 ∧
          20 + 2 * f.takes.length + 3 * f.claims.length + noteBytes sent + 3 + n.body.content.length ≤ 472 ∧
          ¬ShutOut n older olderAfter younger
        (goes → m = { n with
          serial := some (n.serial.getD (s.stn.bus.counters.get n.dest + firstTo n.dest sent)),
          sends := n.sends + 1, awaiting := true }) ∧
        (¬goes → m = n)

/-- WINDOW_READING (R22, R36 to R38, R127) for a peer to which no note waits for its take: NOTHING, DAMAGED,
FOREIGN, and a VALID frame that changes no view. What of the bytes heard is no frame, where the spec leaves it open,
is the model's (log 12). -/
def Obligations.WindowReadingsUpdateTheOfficeMap : Prop :=
  ∀ (s : State) (r : RoundPos) (p : Station) (e : MapEntry) (heard : List Byte), AtWindow s.stn r p →
    p ≠ s.stn.self → s.stn.entry? p = some e →
    s.stn.intake.waiting = [] → (∀ n ∈ s.stn.bus.outbox, n.dest = p → n.awaiting = false) →
    let i : Instr := .windowReading p heard
    let silentCount := satInc8 e.silent
    let lost : Stn := if r.index ≠ 3 ∧ e.view.heard = true then s.stn.abstained (r.frame + 2) else s.stn
    let after (st : Stn) (bus : Bus) (f : MapEntry → MapEntry) : State := { s with stn := { st with
      bus := { bus with round := some { r with left := r.left.tail } },
      cust := s.stn.cust.withEntry p f } }
    let bus := s.stn.bus
    (heard = [] → (silentCount.toNat < s.stn.img.silence ∨ e.view.down = true) →
      exec i s = .next (after lost bus fun e => { e with silent := silentCount })) ∧
    (heard ≠ [] → readFrame s.stn.img.roster heard = none →
      exec i s = .next (after lost { bus with damaged := satInc bus.damaged }
        fun e => { e with silent := 0 })) ∧
    ∀ f : RoundFrame, heard ≠ [] → readFrame s.stn.img.roster heard = some f →
      (f.office = s.stn.img.office → (f.sender ≠ p ∨ f.index ≠ r.index) →
        exec i s = .next (after lost { bus with damaged := satInc bus.damaged }
          fun e => { e with silent := 0 })) ∧
      (f.office ≠ s.stn.img.office → e.view = .failed →
        exec i s = .next (after s.stn { bus with foreign := satInc bus.foreign }
          fun e => { e with silent := 0 })) ∧
      (f.office ≠ s.stn.img.office → e.view ≠ .failed → bus.outbox = [] → NoneFailed s.stn →
        exec i s = .next (after s.stn { bus with foreign := satInc bus.foreign }
          fun e => { e with silent := 0, view := .foreign })) ∧
      (f.office = s.stn.img.office → f.sender = p → f.index = r.index → ChangesNothing s.stn p f →
        f.takes = [] → f.notes = [] → exec i s = .next { s with stn := s.stn.heard p r f })

/-- The takes and notes of a VALID frame (R26, R28 to R30): a take resolves the note it names, a duplicate is taken
again and not acted on, a note is remembered, taken and acted on, and one whose condition fails, or to another
station, leaves no trace; behind a refused note a later one of the frame is refused too, but for a duplicate. No
entry waits for the outbox place that a take frees. A MIRROR REMOVE acts whoever sends it (the model's choice, log
23). -/
def Obligations.TakesAndNotesOfAValidFrame : Prop :=
  ∀ (s : State) (r : RoundPos) (p : Station) (heard : List Byte) (f : RoundFrame),
    Hears s.stn r p heard f → ChangesNothing s.stn p f →
    let i : Instr := .windowReading p heard
    let t := s.stn.heard p r f
    (∀ (older younger : List Note) (n : Note) (x : NoteSerial), NoEntryWaits s.stn →
      f.takes = [(s.stn.self, x)] → f.notes = [] → s.stn.bus.outbox = older ++ n :: younger →
      n.dest = p → n.serial = some x →
      (∀ o ∈ older ++ younger, o.dest = p → o.serial ≠ some x ∧ o.awaiting = false) →
      ((∃ tag res, n.body = .answer tag res) ∨ (n.body.isMirror = true ∧ ∀ b, n.body ≠ .mirrorEnd b) →
        exec i s = .next { s with stn := { t with bus.outbox := older ++ younger } }) ∧
      ∀ tag text, n.body = .forward tag text →
        exec i s = .next { s with stn := { t with
          bus.outbox := older ++ younger,
          req.pend := s.stn.req.pend.map fun e =>
            if e.tag = tag then { e with state := .awaiting, wait := 0 } else e } }) ∧
    (∀ w x : WireNote, f.takes = [] → f.notes = [w, x] →
      (∀ n ∈ s.stn.bus.outbox, n.dest = p → n.awaiting = false) → 32 ≤ s.stn.bus.outbox.length →
      w.dest = s.stn.self → w.serial ∉ s.stn.bus.memory.get p → (∃ tag text, w.body = .forward tag text) →
      x.dest = s.stn.self →
      (x.serial ∉ s.stn.bus.memory.get p → exec i s = .next { s with stn := t }) ∧
      (x.serial ∈ s.stn.bus.memory.get p → exec i s = .next { s with stn := { t with
        bus.takes := s.stn.bus.takes ++ [(p, x.serial)] } })) ∧
    ∀ w : WireNote, f.takes = [] → f.notes = [w] →
      (∀ n ∈ s.stn.bus.outbox, n.dest = p → n.awaiting = false) →
      let memory := s.stn.bus.memory.get p
      let acted : Stn := t.took p w.serial
      (w.dest ≠ s.stn.self → exec i s = .next { s with stn := t }) ∧
      (w.dest = s.stn.self → w.serial ∈ memory →
        exec i s = .next { s with stn := { t with
          bus.takes := s.stn.bus.takes ++ [(p, w.serial)] } }) ∧
      (∀ tag text, w.dest = s.stn.self → w.serial ∉ memory → w.body = .forward tag text →
        32 ≤ s.stn.bus.outbox.length → exec i s = .next { s with stn := t }) ∧
      (∀ sub, w.dest = s.stn.self → w.serial ∉ memory → w.body = .mirrorRemove sub →
        exec i s = .next { s with stn := { acted with
          subs.standby := s.stn.subs.standby.filter fun b => decide (b.admin.sub ≠ sub) } }) ∧
      (∀ a tag zone m, w.dest = s.stn.self → w.serial ∉ memory → w.body = .ret a tag zone m →
        s.stn.subs.active.length < 1024 → s.stn.occupied a = false →
        exec i s = .next { s with stn := { acted with
          meter.returnedIn := s.stn.meter.returnedIn + units (m.current + m.closed + m.carry),
          cust.returnTaken := true,
          subs.active := insertBy (·.admin.sub)
            { admin := a, origin := .home, home := s.stn.self, returning := false, nextTag := tag,
              queue := [], lastZone := zone, meter := m } s.stn.subs.active } })

/-- An ANSWER is taken (R88, R91). One that fits no entry, or whose FORWARD has not been sent, is late. Another
takes the FORWARD out of the outbox: a reply finishes the request, is discarded where its context has a new
generation, and is held where its line has no place; NOT YET and MOVED defer the request, up to four times, after
which it is answered RETRY; and MOVED installs the route of a request by subscriber number. No entry waits for the
place of the FORWARD. -/
def Obligations.AnswersFinishOrDeferTheirRequest : Prop :=
  ∀ (s : State) (r : RoundPos) (p : Station) (heard : List Byte) (f : RoundFrame) (w : WireNote) (tag : Tag)
    (res : Result),
    Hears s.stn r p heard f → ChangesNothing s.stn p f → BringsNote s.stn p f w → w.body = .answer tag res →
    let i : Instr := .windowReading p heard
    let t : State := { s with stn := (s.stn.heard p r f).took p w.serial }
    let late : State := { t with stn.bus.lateAnswers := satInc s.stn.bus.lateAnswers }
    let sent : Prop := ∃ n ∈ s.stn.bus.outbox, n.forwardTag? = some tag ∧ 0 < n.sends
    (s.stn.pend? tag = none → exec i s = .next late) ∧
    ∀ e, s.stn.pend? tag = some e →
      (e.target ≠ some p ∨ (e.state ≠ .awaiting ∧ ¬(e.state = .sending ∧ sent)) → exec i s = .next late) ∧
      (e.target = some p → (e.state = .awaiting ∨ e.state = .sending ∧ sent) → NoEntryWaits s.stn →
        s.stn.req.holdOrder = [] →
        let gone : State := { t with
          stn.bus.outbox := s.stn.bus.outbox.filter fun n => decide (n.forwardTag? ≠ some tag) }
        let freed : State := { gone with
          stn.req.pend := s.stn.req.pend.filter fun x => decide (x.tag ≠ tag) }
        let deferred : State := { gone with stn.req.pend := s.stn.req.pend.map fun x =>
          if x.tag = tag then { x with state := .deferred, deferrals := x.deferrals + 1, wait := 0 } else x }
        (∀ text, res = .reply text →
          (ReplyFits s.stn e → exec i s = .next (gone.finished e text)) ∧
          (((s.stn.line e.line).ctx e.ctx).gen ≠ e.gen → exec i s = .next freed) ∧
          (((s.stn.line e.line).ctx e.ctx).gen = e.gen → 8 ≤ (s.stn.line e.line).replies.length →
            exec i s = .next { gone with
              stn.req.pend := s.stn.req.pend.map (fun x =>
                if x.tag = tag then { x with state := .holding text } else x),
              stn.req.holdOrder := [tag] })) ∧
        (res = .notYet →
          (e.deferrals < 4 → exec i s = .next deferred) ∧
          (4 ≤ e.deferrals → ReplyFits s.stn e → exec i s = .next (gone.finished e (str "X/RETRY")))) ∧
        ∀ m, res = .moved m →
          (∀ sub q, e.request = some q → requestSub q = some sub →
            let others := s.stn.req.cache.filter fun x => decide (x.1 ≠ sub)
            let cache := others.drop (others.length - 7) ++ [(sub, m)]
            (e.deferrals < 4 → exec i s = .next { deferred with stn.req.cache := cache }) ∧
            (4 ≤ e.deferrals → ReplyFits s.stn e →
              exec i s = .next { gone.finished e (str "X/RETRY") with stn.req.cache := cache })) ∧
          (e.request.bind requestSub = none → e.deferrals < 4 → exec i s = .next deferred))

/-- The notes that a taking station acts on at once (R4, R13, R14, R28, R50, R57, R171). MIRROR and MIRROR END keep
the standby table; RETURN needs a place of the active table, and its units are written off where a key is held in
either table (R4 read so: DEDUCED, log 21); RETURN END ends RECLAIMING, where no double failure is due; a FORWARD of
a roster peer is executed as the row of section 5.4 that brings its request executes it, and its ANSWER enters the
outbox, a text that does not parse being answered with the parse's refusal, and one that holds a request of a line
alone SYNTAX (the model's choice, log 11). Mirror notes act whoever sends them (the model's choice, log 23). -/
def Obligations.NotesAreTakenAndActedOn : Prop :=
  ∀ (s : State) (r : RoundPos) (p : Station) (heard : List Byte) (f : RoundFrame) (w : WireNote),
    Hears s.stn r p heard f → ChangesNothing s.stn p f → BringsNote s.stn p f w →
    let i : Instr := .windowReading p heard
    let refused : State := { s with stn := s.stn.heard p r f }
    let t : State := { s with stn := (s.stn.heard p r f).took p w.serial }
    (∀ refresh a tag, w.body = .mirror refresh a tag →
      let copy : StandbyRec := { admin := a, nextTag := tag, mark := .plain }
      (refresh = true →
        let standby : List StandbyRec := if (s.stn.rec? a.sub).isSome then [] else [copy]
        exec i s = .next { t with stn.subs := { s.stn.subs with
          standby := standby, standbyComplete := false } }) ∧
      (refresh = false → ∀ b, s.stn.standby? a.sub = some b →
        exec i s = .next { t with stn.subs.standby := s.stn.subs.standby.map fun x =>
          if x.admin.sub = a.sub then { x with admin := a, nextTag := tag } else x }) ∧
      (refresh = false → s.stn.standby? a.sub = none →
        (1024 ≤ s.stn.subs.standby.length → exec i s = .next refused) ∧
        (s.stn.subs.standby.length < 1024 → (s.stn.rec? a.sub).isSome = true → exec i s = .next t) ∧
        (s.stn.subs.standby.length < 1024 → s.stn.rec? a.sub = none →
          exec i s = .next { t with
            stn.subs.standby := insertBy (·.admin.sub) copy s.stn.subs.standby }))) ∧
    (∀ refresh, w.body = .mirrorEnd refresh → exec i s = .next { t with stn.subs := { s.stn.subs with
      standby := if refresh then [] else s.stn.subs.standby, standbyComplete := true } }) ∧
    (∀ a tag zone m, w.body = .ret a tag zone m →
      (1024 ≤ s.stn.subs.active.length → exec i s = .next refused) ∧
      (s.stn.subs.active.length < 1024 →
        (∃ x ∈ s.stn.subs.active, x.admin.sub = a.sub ∨ x.admin.addr = a.addr) ∨
          (∃ x ∈ s.stn.subs.standby, x.admin.sub = a.sub ∨ x.admin.addr = a.addr) →
        let u := units (m.current + m.closed + m.carry)
        exec i s = .next { t with
          stn.meter := { s.stn.meter with
            returnedIn := s.stn.meter.returnedIn + u, unmetered := s.stn.meter.unmetered + u },
          stn.cust.returnTaken := true })) ∧
    (w.body = .retEnd →
      (s.stn.cust.state = .live → exec i s = .next t) ∧
      (s.stn.cust.state = .joining → exec i s = .next { t with stn.cust.returnEndTaken := true }) ∧
      (s.stn.cust.state = .reclaiming → s.stn.bus.outbox = [] → s.stn.buddy ≠ s.stn.self →
        (s.stn.custodian s.stn.self).isSome = true → NoDoubleFailure s.stn →
        exec i s = .next { t with
          stn.cust.state := .live,
          stn.subs.mirror := if s.stn.view s.stn.buddy = .live then .running none true false
            else s.stn.subs.mirror })) ∧
    ∀ tag text, w.body = .forward tag text → s.stn.bus.outbox.length < 32 →
      (∀ wd, parseEntry .operator text = .error wd →
        exec i s = .next (t.answered p tag (.reply (refusal wd)))) ∧
      (parseEntry .operator text = .ok .periodClose ∨ (∃ c, parseEntry .operator text = .ok (.status c)) →
        exec i s = .next (t.answered p tag (.reply (str "X/SYNTAX")))) ∧
      (∀ (j : Instr) (q : Request), parseEntry .operator text = .ok q → inSet s.stn.img.roster p = true →
        j.request? = some q → j.requester? = some (.peer p tag) → exec i s = exec j t) ∧
      ∀ q, parseEntry .operator text = .ok q → (∃ sub, q = .meterRead sub) ∨ (∃ k x, q = .query k x) →
        exec i s = .next (t.answered p tag (s.stn.execute q).2)

/-- The takes of the walks' notes (R15, R54, R55, R59, R171): a returned record goes to the standby table and its
units to returned-out, a copy of the ward takes the returned mark; with the last record in REVISIT, or in ADOPTED,
the walk enters STANDBY; RETURN END gives the ward back its custody and releases the grant; MIRROR END makes the
mirror walk IDLE. The outbox holds the taken note alone, and the standby table takes the record although it be full
(the model's choice, log 13). -/
def Obligations.TakenNotesOfTheWalks : Prop :=
  ∀ (s : State) (r : RoundPos) (p : Station) (heard : List Byte) (f : RoundFrame) (n : Note) (x : NoteSerial),
    Hears s.stn r p heard f → ChangesNothing s.stn p f → NoEntryWaits s.stn →
    f.takes = [(s.stn.self, x)] → f.notes = [] → s.stn.bus.outbox = [n] → n.dest = p → n.serial = some x →
    let i : Instr := .windowReading p heard
    let t : State := { s with stn := { s.stn.heard p r f with bus.outbox := [] } }
    (∀ a tag zone m, n.body = .ret a tag zone m →
      (∀ rec : Record, s.stn.rec? a.sub = some rec →
        let left := s.stn.subs.active.filter fun y => decide (y.admin.sub ≠ a.sub)
        let moved (ret : ReturnWalk) : State := { t with
          stn.subs := { s.stn.subs with
            active := left, ret := ret,
            standby := insertBy (·.admin.sub)
              { admin := rec.admin, nextTag := rec.nextTag, mark := .returned } s.stn.subs.standby },
          stn.meter.returnedOut := s.stn.meter.returnedOut +
            units (rec.meter.current + rec.meter.closed + rec.meter.carry) }
        ((∀ y ∈ left, y.returning = false) → ∀ pos, (s.stn.subs.ret = .running .adopted pos ∨
            s.stn.subs.ret = .running .revisit pos) → exec i s = .next (moved (.running .standby none))) ∧
        ((∃ y ∈ left, y.returning = true) → ∀ pos, s.stn.subs.ret = .running .revisit pos →
          exec i s = .next (moved (.running .revisit pos))) ∧
        ((∃ y ∈ left, y.returning = true ∧ ∀ q, s.stn.subs.ret = .running .adopted (some q) →
            q < y.admin.sub) →
          ∀ pos, s.stn.subs.ret = .running .adopted pos →
            exec i s = .next (moved (.running .adopted pos))) ∧
        ∀ q, s.stn.subs.ret = .running .adopted (some q) → (∃ y ∈ left, y.returning = true) →
          (∀ y ∈ left, y.returning = true → y.admin.sub ≤ q) →
          exec i s = .next (moved (.running .revisit none))) ∧
      (s.stn.rec? a.sub = none → exec i s = .next { t with
        stn.subs.standby := s.stn.subs.standby.map fun b =>
          if b.admin.sub = a.sub then { b with mark := .returned } else b })) ∧
    (∀ phase pos, n.body = .retEnd → s.stn.subs.ret = .running phase pos → p = s.stn.ward →
      s.stn.custodian p = some s.stn.self →
      (∀ q, s.stn.bill.pendingClose = some q → later f.period q = false) →
      exec i s = .next { t with stn := Stn.released { t.stn with
        req.cache := [],
        cust := { t.stn.cust.withEntry p fun e => { e with custodian := some p } with
          custody := setDel s.stn.cust.custody p },
        subs := { s.stn.subs with
          standby := s.stn.subs.standby.map fun b =>
            if b.mark = .returned then { b with mark := .plain } else b,
          ret := .idle } } }) ∧
    ∀ refresh, n.body = .mirrorEnd refresh →
      (∀ pos first, s.stn.subs.mirror = .running pos first true →
        exec i s = .next { t with stn.subs.mirror := .idle }) ∧
      ((∀ pos first, s.stn.subs.mirror ≠ .running pos first true) → exec i s = .next t)

/-- The custody list of a VALID frame (R38 to R42), read where no request waits. A listed station gets the sender as
custodian, but for those this station holds itself; a SILENT or FOREIGN one becomes FAILED, which leaves the entries
it held without a custodian, this station's own excepted while it is LIVE, and makes its ward FAILED too where the
ward is down. A station that a RECLAIMING or LIVE sender no longer lists goes back to itself, and so does a LIVE
sender without a custodian; a FAILED view then becomes LIVE. Several entries change in ascending station number
(the model's choice, log 17), and a LIVE station's own entry gets NONE and then itself (DEDUCED, log 17). -/
def Obligations.CustodyListsAreRead : Prop :=
  ∀ (s : State) (r : RoundPos) (p : Station) (heard : List Byte) (f : RoundFrame),
    Hears s.stn r p heard f → BringsLists s.stn f → NoRequests s.stn →
    let i : Instr := .windowReading p heard
    let t : State := { s with stn := s.stn.heard p r f }
    let live : Prop := f.state = .live ∧ s.stn.view p = .live
    let entered (k : Station) (g : MapEntry → MapEntry) : State :=
      { t with stn.req.cache := [], stn.cust := t.stn.cust.withEntry k g }
    let mirror (k : Station) : MirrorWalk :=
      if k = s.stn.buddy ∧ s.stn.cust.state = .live then .running none true false else s.stn.subs.mirror
    (∀ k, live → (s.stn.custodian p).isSome = true → f.custody = setAdd 0 k → k ≠ p →
      HoldsNoneBut s.stn p k →
      (k = s.stn.self → inSet f.silence s.stn.self = false →
        (s.stn.custodian k = some p → exec i s = .next t) ∧
        (s.stn.custodian k ≠ some p →
          exec i s = .next (entered k fun e => { e with custodian := some p }))) ∧
      (k ≠ s.stn.self → inSet s.stn.cust.custody k = true ∨ s.stn.custodian k = some p →
        exec i s = .next t) ∧
      (k ≠ s.stn.self → inSet s.stn.cust.custody k = false → s.stn.custodian k ≠ some p →
        (s.stn.view k ≠ .silent ∧ s.stn.view k ≠ .foreign →
          exec i s = .next (entered k fun e => { e with custodian := some p })) ∧
        (s.stn.view k = .silent ∨ s.stn.view k = .foreign → inSet s.stn.img.roster p = true →
          s.stn.subs.ret = .idle → (s.stn.cust.state = .reclaiming → s.stn.cust.returnTaken = false) →
          let after (w : Option Station) (h : Station) (e : MapEntry) : MapEntry :=
            if h = k then { e with view := .failed, custodian := some p }
            else if w = some h then { e with view := .failed, custodian := none }
            else if inSet s.stn.img.roster h = true ∧
                (e.custodian = some k ∨ w ≠ none ∧ e.custodian = w) then
              { e with custodian :=
                  if h = s.stn.self ∧ s.stn.cust.state = .live then some s.stn.self else none }
            else e
          (OthersUp s.stn [k] → ∃ u, exec i s = .next u ∧
            MapsTo u { t with stn.req.cache := [] } (after none)) ∧
          ∀ w ∈ s.stn.roster, w ≠ s.stn.self → w ≠ k → buddyOf s.stn.img.roster w = k →
            s.stn.view w = .silent → OthersUp s.stn [k, w] → ∃ u, exec i s = .next u ∧
              MapsTo u { t with stn.req.cache := [] } (after (some w))))) ∧
    (live → (s.stn.custodian p).isSome = true → f.custody = 0 → ∀ k ∈ s.stn.roster, k ≠ p →
      s.stn.custodian k = some p → HoldsNoneBut s.stn p k →
      (s.stn.view k ≠ .failed → exec i s = .next (entered k fun e => { e with custodian := some k })) ∧
      (s.stn.view k = .failed → OthersUp s.stn [k] → exec i s = .next { entered k fun e =>
        { e with custodian := some k, view := .live } with stn.subs.mirror := mirror k })) ∧
    (f.state = .live → s.stn.custodian p = none → f.custody = 0 → HoldsNoneBut s.stn p p →
      (s.stn.view p = .live → exec i s = .next (entered p fun e =>
        { e with silent := 0, silence := f.silence, custodian := some p })) ∧
      (s.stn.view p = .failed → OthersUp s.stn [p] → (∃ e, s.stn.entry? p = some e) →
        exec i s = .next { entered p fun e =>
          { e with silent := 0, silence := f.silence, custodian := some p, view := .live } with
          stn.subs.mirror := mirror p })) ∧
    (f.state ≠ .joining → s.stn.view p = .failed → (s.stn.custodian p).isSome = true → f.custody = 0 →
      HoldsNoneBut s.stn p p → exec i s = .next t) ∧
    (f.state = .joining → s.stn.view p = .joining → s.stn.bus.lastSender.get p = some .joining →
      f.custody = 0 → exec i s = .next t)

/-- Declaration and re-declaration of the ward (R44, R45, R47). At the ends of rounds 0 and 1, where no request
waits: a LIVE station whose ward is SILENT declares with a quorum of Q; one that holds the ward already, with the
return walk IDLE, re-declares it, and adopts again the copies without the UNADOPTED mark. At the start of its window
the station sends the declaring frame, or withdraws the declaration where it or its ward has changed. -/
def Obligations.DeclarationFollowsTheQuorum : Prop :=
  (∀ (s : State) (r : RoundPos) (k : Fin 4), AtRoundEnd s.stn r → r.index.val < 2 → k.val = r.index.val + 1 →
    s.stn.cust.state = .live → s.stn.subs.ret = .idle → s.stn.req.pend = [] → s.stn.intake.waiting = [] →
    (∀ n, s.stn.subs.mirror ≠ .restartWait n) →
    let ward := s.stn.ward
    let quorum : Prop := s.stn.img.quorum ≤ Quorum s.stn
    let t : State := { s with stn.bus.round := some { r with index := k, left := s.stn.roster } }
    (s.stn.cust.retryDelay = none →
      (s.stn.view ward = .silent → inSet s.stn.cust.custody ward = false → quorum →
        s.stn.cust.declaration = .none → exec .roundEnd s = .next { t with stn.cust.declaration := .pending }) ∧
      (s.stn.view ward ≠ .silent ∨ ¬quorum → exec .roundEnd s = .next t) ∧
      (inSet s.stn.cust.custody ward = false → s.stn.cust.declaration ≠ .none → exec .roundEnd s = .next t)) ∧
    (s.stn.view ward = .silent → inSet s.stn.cust.custody ward = true → quorum → s.stn.bus.outbox = [] →
      inSet s.stn.img.roster s.stn.self = true → OthersUp s.stn [ward] →
      (∀ j ∈ s.stn.roster, s.stn.custodian j ≠ some ward) →
      let after (active : List Record) (standby : List StandbyRec) : State := { t with
        stn.cust := { s.stn.cust.withEntry ward fun e => { e with view := .failed } with retryDelay := none },
        stn.subs := { s.stn.subs with active := active, standby := standby } }
      (s.stn.subs.standby = [] → exec .roundEnd s = .next (after s.stn.subs.active [])) ∧
      ∀ b, s.stn.subs.standby = [b] →
        let taken := 1024 ≤ s.stn.subs.active.length ∨
          ∃ x ∈ s.stn.subs.active, x.admin.addr = b.admin.addr ∨ x.admin.sub = b.admin.sub
        (b.mark = .unadopted ∨ taken →
          exec .roundEnd s = .next (after s.stn.subs.active [{ b with mark := .unadopted }])) ∧
        (b.mark ≠ .unadopted → ¬taken → exec .roundEnd s = .next (after
          (insertBy (·.admin.sub)
            { admin := b.admin, origin := .adopted, home := ward, returning := false,
              nextTag := b.nextTag + 128, queue := [], lastZone := none,
              meter := ⟨0, 0, 0, 0, s.stn.bill.period, false, false, false⟩ } s.stn.subs.active) [])))) ∧
  ∀ (s : State) (r : RoundPos), InRound s.stn r → r.left.head? = some s.stn.self → r.index = 3 →
    s.stn.bus.outbox = [] → s.stn.cust.declaration = .pending →
    let frame (custody : StationSet) : RoundFrame :=
      { sender := s.stn.self, state := s.stn.cust.state, office := s.stn.img.office, frame := r.frame,
        draining := s.stn.draining, index := r.index, period := s.stn.bill.period,
        silence := s.stn.silenceList, custody := custody, takes := s.stn.bus.takes.take 8, claims := [],
        notes := [] }
    let sent (d : Declaration) (f : RoundFrame) : State := { s with
      stn.cust.declaration := d,
      stn.bus := { s.stn.bus with
        frameOut := f.bytes, takes := [], round := some { r with left := r.left.tail } } }
    let stands : Prop := s.stn.cust.state = .live ∧ s.stn.view s.stn.ward = .silent
    (stands → exec .roundFrameSend s = .next
      (sent .declaring (frame (setAdd s.stn.cust.custody s.stn.ward)))) ∧
    (¬stands → exec .roundFrameSend s = .next (sent .none (frame s.stn.cust.custody)))

/-- A stand-down (R42, R51, R52, R76, R102, R127, R137): a VALID frame whose custody list and silence list both name
this station, outside JOINING, clears the working state of every block; the sender is this station's custodian, and
the stations it held have none; the change of the own view brings the double failure test, by which a FAILED station
with a FAILED buddy has none either. A context that awaits a reply is answered RETRY, or has a new generation. The
frames it marks abstained are the frame in progress, the next, those whose maps are held and the one being claimed
(DEDUCED, log 14). In JOINING the frame only sets the own custodian. -/
def Obligations.StandDownClearsTheStation : Prop :=
  ∀ (s : State) (r : RoundPos) (p : Station) (heard : List Byte) (f : RoundFrame),
    Hears s.stn r p heard f → BringsLists s.stn f → f.state = .live → s.stn.view p = .live →
    (s.stn.custodian p).isSome = true → f.custody = setAdd 0 s.stn.self → inSet f.silence s.stn.self = true →
    HoldsNoneBut s.stn p s.stn.self →
    let i : Instr := .windowReading p heard
    let t : Stn := s.stn.heard p r f
    let frames : List FrameNo := [s.stn.air.frame, s.stn.air.frame + 1] ++ s.stn.air.maps.map (·.frame) ++
      if r.index = 3 then [] else [r.frame + 2]
    let drop (x : Line) : Line := { x with ctxs := x.ctxs.map fun k =>
      if k.state = .awaiting then { state := .idle, buffer := [], gen := k.gen + 1 } else k }
    let cleared (intake : Intake) : State := { s with stn := { t with
      intake := { intake with lines := intake.lines.map drop },
      req := { s.stn.req with pend := [], holdOrder := [], cache := [] },
      subs := { active := [], standby := [], standbyComplete := false, grant := .nobody, drain := .idle,
                ret := .idle, mirror := .idle },
      store := { s.stn.store with messages := [], urgent := [], normal := [], outcomes := [] },
      air := { (frames.foldl Stn.abstained s.stn).air with
        feed := none, claims := [], peerClaims := Vector.replicate 16 [], buffer := [], maps := [] },
      ret.recent := [],
      meter := { charged := 0, billed := 0, unmetered := 0, returnedIn := 0, returnedOut := 0 },
      bill := { t.bill with forming := [], pause := .none, pendingClose := none },
      bus := { t.bus with outbox := [] },
      cust := { t.cust with
        state := .joining, custody := 0, join := .before, heard := [], buddyWait := 0, returnTaken := false,
        returnEndTaken := false, retryDelay := none } } }
    let custodians (h : Station) (e : MapEntry) : MapEntry :=
      if inSet s.stn.cust.custody h = true then { e with custodian := none }
      else if h = s.stn.self then { e with custodian := some p }
      else if inSet s.stn.img.roster h = true ∧ s.stn.view h = .failed ∧
          s.stn.view (buddyOf s.stn.img.roster h) = .failed then { e with custodian := none }
      else e
    let noneSilent : Prop := ∀ k ∈ s.stn.roster, k ≠ s.stn.self → s.stn.view k = .silent →
      s.stn.view (buddyOf s.stn.img.roster k) ≠ .failed
    (s.stn.cust.state ≠ .joining → noneSilent →
      (∀ e ∈ s.stn.req.pend, (∃ text, e.state = .holding text) ∨
          ((s.stn.line e.line).ctx e.ctx).gen ≠ e.gen ∨ 8 ≤ (s.stn.line e.line).replies.length) →
        ∃ u, exec i s = .next u ∧ MapsTo u (cleared s.stn.intake) custodians) ∧
    (s.stn.cust.state ≠ .joining → noneSilent → ∀ e, s.stn.req.pend = [e] → (∀ text, e.state ≠ .holding text) →
      ReplyFits s.stn e →
        ∃ u, exec i s = .next u ∧
          MapsTo u (cleared (s.finished e (str "X/RETRY")).stn.intake) custodians) ∧
    (s.stn.cust.state = .joining → NoRequests s.stn → s.stn.custodian s.stn.self ≠ some p →
      exec i s = .next { s with stn := { t with
        req.cache := [],
        cust := t.cust.withEntry s.stn.self fun e => { e with custodian := some p } } })

/-- The ward is heard again (R18, R43, R53, R54, R56, R178), where no request waits and every other station is up: a
JOINING episode empties its take memory, clears the returned marks and requests the return walk, a RUNNING one being
aborted first and its grant released; the ward enters the custody list. A ward in custody that was SILENT or FOREIGN
requests the walk too. With the grant the walk begins, else it waits. At a round end in REVISIT a returning record
whose messages have ended hands its RETURN note where the outbox has a place (that it does so at round ends is
DEDUCED, log 18). -/
def Obligations.ReturnWalkIsRequestedByTheWard : Prop :=
  (∀ (s : State) (r : RoundPos) (p : Station) (heard : List Byte) (f : RoundFrame),
    Hears s.stn r p heard f → BringsLists s.stn f → f.custody = 0 → p = s.stn.ward → NoRequests s.stn →
    OthersUp s.stn [p] → HoldsNoneBut s.stn p p →
    let i : Instr := .windowReading p heard
    let base : Stn := s.stn.heard p r f
    let held : Prop := inSet s.stn.cust.custody p = true
    let idle : Prop := ∀ phase pos, s.stn.subs.ret ≠ .running phase pos
    let requested (marks : Subscribers) (view : View) : Stn := { base with
      req.cache := if held ∨ s.stn.custodian p = some s.stn.self then s.stn.req.cache else [],
      subs := marks,
      cust := { base.cust.withEntry p fun e =>
        { e with view := view, custodian := if held then e.custodian else some s.stn.self } with
        custody := setAdd s.stn.cust.custody p, retryDelay := none } }
    (f.state = .joining → s.stn.bus.lastSender.get p ≠ some .joining → (∃ e, s.stn.entry? p = some e) →
      let marks : Subscribers := { s.stn.subs with standby := s.stn.subs.standby.map fun b =>
        if b.mark = .returned then { b with mark := .plain } else b }
      let episode : Stn := { requested marks .joining with
        bus := { base.bus with memory := s.stn.bus.memory.set p.val [] p.isLt } }
      let aborted : Subscribers := { marks with
        active := marks.active.map fun x => { x with returning := false } }
      (idle → s.stn.subs.grant = .nobody →
        exec i s = .next { s with stn := { episode with subs := marks.returning p } }) ∧
      (idle → s.stn.subs.grant ≠ .nobody →
        exec i s = .next { s with stn := { episode with subs := { marks with ret := .waiting } } }) ∧
      (∀ phase pos, s.stn.subs.ret = .running phase pos →
        (s.stn.bill.pendingClose = none →
          exec i s = .next { s with stn := { episode with subs := aborted.returning p } }) ∧
        ∀ q, s.stn.bill.pendingClose = some q → exec i s = .next { s with stn := { episode with
          bill := { base.bill with period := q, pendingClose := none, forming := [], pause := .none },
          subs := { aborted with grant := .drain, drain := .running none, ret := .waiting } } })) ∧
    (f.state ≠ .joining → (s.stn.view p = .silent ∨ s.stn.view p = .foreign) → held →
      (s.stn.custodian p).isSome = true → s.stn.subs.ret = .idle →
      let view : View := if f.state = .live then .live else .reclaiming
      let mirror : MirrorWalk :=
        if p = s.stn.buddy ∧ f.state = .live ∧ s.stn.cust.state = .live then .running none true false
        else s.stn.subs.mirror
      let subs : Subscribers := { s.stn.subs with mirror := mirror }
      (s.stn.subs.grant = .nobody →
        exec i s = .next { s with stn := requested (subs.returning p) view }) ∧
      (s.stn.subs.grant ≠ .nobody →
        exec i s = .next { s with stn := requested { subs with ret := .waiting } view }))) ∧
  ∀ (s : State) (r : RoundPos) (k : Fin 4) (pos : Option Nat) (x : Record), AtRoundEnd s.stn r →
    r.index.val < 2 → k.val = r.index.val + 1 → s.stn.cust.state = .live → s.stn.view s.stn.ward = .live →
    s.stn.subs.ret = .running .revisit pos → s.stn.cust.retryDelay = none → s.stn.req.pend = [] →
    (∀ n, s.stn.subs.mirror ≠ .restartWait n) → s.stn.intake.waiting = [] → ActiveUnique s.stn →
    let t : State := { s with stn.bus.round := some { r with index := k, left := s.stn.roster } }
    let note (y : Record) : Note :=
      { dest := s.stn.ward, body := .ret y.admin y.nextTag y.lastZone y.meter, serial := none,
        awaiting := false, sends := 0, route := .here, held := false, stale := false, walk := .ret }
    ((∀ y ∈ s.stn.subs.active, y.returning = false) →
      exec .roundEnd s = .next { t with stn.subs.ret := .running .standby none }) ∧
    (x ∈ s.stn.subs.active → x.returning = true →
      (∀ y ∈ s.stn.subs.active, y.returning = true → y = x) →
      (x.queue ≠ [] ∨ s.stn.inTransit x.admin.sub = true ∨ 32 ≤ s.stn.bus.outbox.length →
        exec .roundEnd s = .next t) ∧
      (x.queue = [] → s.stn.inTransit x.admin.sub = false → s.stn.bus.outbox.length < 32 →
        exec .roundEnd s = .next { t with stn.bus.outbox := s.stn.bus.outbox ++ [note x] }))

/-- What a LIVE frame of a peer starts (R58, R177, R178): a LIVE station whose buddy becomes LIVE begins the mirror
walk, afresh where it runs, its notes leaving the outbox; outside JOINING, a later period of a LIVE peer starts the
drain walk where nobody has the grant, and is else offered to the pending close, which keeps the later of two. -/
def Obligations.LivePeersStartTheWalks : Prop :=
  ∀ (s : State) (r : RoundPos) (p : Station) (heard : List Byte) (f : RoundFrame),
    Hears s.stn r p heard f → f.takes = [] → f.notes = [] →
    let i : Instr := .windowReading p heard
    let t : Stn := s.stn.heard p r f
    (f.state = .live → later f.period s.stn.bill.period = false → f.custody = 0 → p = s.stn.buddy →
      s.stn.cust.state = .live → s.stn.view p ≠ .live → s.stn.view p ≠ .failed →
      (p = s.stn.ward → (s.stn.view p).heard = true) → (s.stn.custodian p).isSome = true →
      s.stn.req.pend = [] → (∀ x, s.stn.cust.join ≠ .running x) → OthersUp s.stn [p] →
      HoldsNoneBut s.stn p p →
      (s.stn.bus.outbox = [] ∨ ((∀ n ∈ s.stn.bus.outbox, n.body.isMirror = true) ∧
        ∃ pos first ended, s.stn.subs.mirror = .running pos first ended)) →
      exec i s = .next { s with stn := { t with
        bus.outbox := [],
        subs.mirror := .running none true false,
        cust := t.cust.withEntry p fun e => { e with view := .live } } }) ∧
    (KeepsTheMap s.stn p f → later f.period s.stn.bill.period = true →
      (∀ n ∈ s.stn.bus.outbox, n.dest = p → n.awaiting = false) →
      (s.stn.cust.state = .joining → exec i s = .next { s with stn := t }) ∧
      (s.stn.cust.state ≠ .joining →
        (s.stn.subs.grant = .nobody → exec i s = .next { s with stn := { t with
          bill := { t.bill with period := f.period, forming := [], pause := .none },
          subs := { s.stn.subs with grant := .drain, drain := .running none } } }) ∧
        (s.stn.subs.grant ≠ .nobody →
          (s.stn.bill.pendingClose = none → exec i s = .next { s with stn := { t with
            bill := { t.bill with pendingClose := some f.period } } }) ∧
          ∀ q, s.stn.bill.pendingClose = some q → exec i s = .next { s with stn := { t with
            bill := { t.bill with
              pendingClose := some (if later f.period q = true then f.period else q) } } })))

/-- SILENT_VIEW (R38), and the NOTHING reading that brings it: the count reaches S and the view becomes SILENT;
a return walk for a ward that falls SILENT is dropped or aborted, and its grant goes to the pending close or to
nobody (R18, R56, R178). Here no note waits and no
station's buddy is FAILED. That the row is the last count is the model's choice (log 5). -/
def Obligations.SilenceMakesThePeerSilent : Prop :=
  ∀ (s : State) (p : Station) (e : MapEntry), p ≠ s.stn.self → s.stn.entry? p = some e →
    e.view.down = false → s.stn.img.silence ≤ (satInc8 e.silent).toNat → s.stn.bus.outbox = [] →
    s.stn.intake.waiting = [] → NoneFailed s.stn →
    let silent (st : Stn) : Stn :=
      { st with cust := st.cust.withEntry p fun e => { e with silent := satInc8 e.silent, view := .silent } }
    let ends (t : Stn → Stn) : Prop :=
      exec (.silentView p) s = .next { s with stn := silent (t s.stn) } ∧
      ∀ r, AtWindow s.stn r p →
        let lost : Stn :=
          if r.index ≠ 3 ∧ e.view.heard = true then s.stn.abstained (r.frame + 2) else s.stn
        exec (.windowReading p []) s = .next { s with stn :=
          { silent (t lost) with bus.round := some { r with left := r.left.tail } } }
    (p ≠ s.stn.ward ∨ s.stn.subs.ret = .idle → ends id) ∧
    (p = s.stn.ward → s.stn.subs.ret = .waiting → ends fun st => { st with subs.ret := .idle }) ∧
    ∀ phase pos, p = s.stn.ward → s.stn.subs.ret = .running phase pos →
      ends fun st => Stn.released { st with subs := { st.subs with
        active := st.subs.active.map fun r => { r with returning := false }, ret := .idle } }

/-- A note without its take (R26, R27, R32): at the end of the addressee's window it is DUE again, a FORWARD held
under a SILENT or FOREIGN view; after its eighth send NOTE_FAILURE counts and removes it, a FORWARD's request
is answered OFFICE BUSY, the return walk is aborted with a retry delay, or the mirror walk waits to restart. A
receipt-routed FORWARD whose station has been viewed FAILED since it was sent is removed instead, uncounted, and
answered UNKNOWN RECEIPT (at the eighth send: the model's choice, log 17). No entry waits for the place freed. -/
def Obligations.NotesWithoutTheirTakeAreResentOrFail : Prop :=
  ∀ (s : State) (p : Station) (x : NoteSerial) (n : Note), s.stn.intake.waiting = [] →
    n.dest = p → n.serial = some x → n.awaiting = true →
    NoEntryWaits s.stn →
    (∀ (r : RoundPos) (e : MapEntry), AtWindow s.stn r p → p ≠ s.stn.self → s.stn.entry? p = some e →
      s.stn.bus.outbox = [n] → (satInc8 e.silent).toNat < s.stn.img.silence ∨ e.view.down = true →
      n.stale = false →
      let lost : Stn := if r.index ≠ 3 ∧ e.view.heard = true then s.stn.abstained (r.frame + 2) else s.stn
      let read (outbox : List Note) (failed : Count) : State := { s with stn := { lost with
        bus := { s.stn.bus with
          round := some { r with left := r.left.tail }, outbox := outbox, failed := failed },
        cust := s.stn.cust.withEntry p fun e => { e with silent := satInc8 e.silent } } }
      (n.sends < 8 → n.forwardTag? = none → exec (.windowReading p []) s =
        .next (read [{ n with awaiting := false }] s.stn.bus.failed)) ∧
      (n.sends < 8 → n.forwardTag? ≠ none → exec (.windowReading p []) s =
        .next (read [{ n with awaiting := false, held := decide (e.view = .silent ∨ e.view = .foreign) }]
          s.stn.bus.failed)) ∧
      (8 ≤ n.sends → (∃ tag res, n.body = .answer tag res) → exec (.windowReading p []) s =
        .next (read [] (satInc s.stn.bus.failed)))) ∧
    ∀ older younger : List Note, s.stn.bus.outbox = older ++ n :: younger → 8 ≤ n.sends →
      (∀ o ∈ older ++ younger, ¬(o.dest = p ∧ o.serial = some x)) →
      let i : Instr := .noteFailure p x
      let rest := older ++ younger
      let failed := satInc s.stn.bus.failed
      let gone : State := { s with stn.bus := { s.stn.bus with outbox := rest, failed := failed } }
      (∀ tag res, n.body = .answer tag res → exec i s = .next gone) ∧
      (∀ tag text e, n.body = .forward tag text → s.stn.pend? tag = some e → s.stn.req.holdOrder = [] →
        ReplyFits s.stn e → (∀ o ∈ rest, o.forwardTag? ≠ some tag) →
        (n.receiptLost = false → exec i s = .next (gone.finished e (str "X/OFFICE BUSY"))) ∧
        (n.receiptLost = true → exec i s = .next (
          { s with stn.bus.outbox := rest }.finished e (str "X/UNKNOWN RECEIPT")))) ∧
      (∀ phase pos, n.body.isReturn = true → s.stn.subs.ret = .running phase pos →
        (∀ o ∈ rest, o.forwardTag? ≠ none → o.walk ≠ .ret) →
        exec i s = .next { s with stn := Stn.released { s.stn with
          bus := { s.stn.bus with
            outbox := rest.filter (fun o => decide (o.walk ≠ .ret)), failed := failed },
          subs := { s.stn.subs with
            active := s.stn.subs.active.map (fun r => { r with returning := false }), ret := .idle },
          cust.retryDelay := some 16 } }) ∧
      (∀ pos first ended, n.body.isMirror = true → s.stn.subs.mirror = .running pos first ended →
        exec i s = .next { s with
          stn.bus := { s.stn.bus with
            outbox := rest.filter (fun o => !o.body.isMirror), failed := failed },
          stn.subs.mirror := .restartWait 16 }) ∧
      (n.body.isMirror = true → (∀ pos first ended, s.stn.subs.mirror ≠ .running pos first ended) →
        exec i s = .next { gone with stn.subs.mirror := .restartWait 16 })

/-- ROUND_END (R20, R92) where no wait kept in rounds runs and no pending entry reaches a limit: the round index
advances, every entry that holds no reply counts, and after round 3 the rounds end, or begin again where a mark has
been noted. ROUND_END of round 2 (R112, R129 to R132, R152, R158): the slot map for F+2 is computed and the claim
lists are emptied; this station's only claim loads its page where it fits, and else is counted lost and its message
returns to the front of its list; an unusable map makes the frame abstained and voids the claim. The load stores the
ladder as brought within the plan, where R153 leaves the context (DEDUCED from R152, log 20). The wait count of an
entry in SENDING is not held at 12 (the model's choice, log 24). -/
def Obligations.RoundEndAdvancesTheRound : Prop :=
  (∀ (s : State) (r : RoundPos), AtRoundEnd s.stn r → QuietRound s.stn → r.index ≠ 2 →
     (∀ e ∈ s.stn.req.pend, (∃ text, e.state = .holding text) ∨ (e.rounds < 23 ∧
       (e.state = .awaiting → e.wait < 11) ∧ (e.state = .deferred → e.wait < 3))) →
     let counted (round : Option RoundPos) (noted : Bool) : State := { s with
       stn.req.pend := s.stn.req.pend.map fun e => match e.state with
         | .holding _ => e
         | .localHere => { e with rounds := e.rounds + 1 }
         | _ => { e with rounds := e.rounds + 1, wait := e.wait + 1 },
       stn.bus := { s.stn.bus with round := round, noted := noted } }
     (∀ k : Fin 4, r.index.val < 2 → k.val = r.index.val + 1 →
       exec .roundEnd s = .next (counted (some { r with index := k, left := s.stn.roster }) s.stn.bus.noted)) ∧
     (r.index = 3 → (∀ f, s.stn.cust.join ≠ .running f) → s.stn.bus.noted = false →
       exec .roundEnd s = .next (counted none false)) ∧
     (r.index = 3 → (∀ f, s.stn.cust.join ≠ .running f) → s.stn.bus.noted = true →
       exec .roundEnd s = .next
         (counted (some { frame := s.stn.air.frame, index := 0, left := s.stn.roster }) false))) ∧
  (∀ (s : State) (r : RoundPos), AtRoundEnd s.stn r → QuietRound s.stn → r.index = 2 → s.stn.req.pend = [] →
     let t := r.frame + 2
     let usable := t ∉ s.stn.air.abstain ∧ reached s.stn.air.frame t = false ∧
       ∀ p ∈ s.stn.air.buffer, reached p.target (t - 1) = true
     let closed (st : Stn) : State := { s with stn := { st with
       bus.round := some { r with index := 3, left := s.stn.roster },
       air := { st.air with claims := [], peerClaims := Vector.replicate 16 [] } } }
     let fit := assignSlots 0 (s.stn.claimOrder t)
     let mapped : Stn := { s.stn with air.maps := s.stn.air.maps ++ [⟨t, mapSlots fit⟩] }
     (s.stn.air.claims = [] →
       (usable → exec .roundEnd s = .next (closed mapped)) ∧
       (¬usable → exec .roundEnd s = .next (closed (s.stn.abstained t)))) ∧
     ∀ (c : Claim) (m : Message) (rec : Record) (tag : Tag) (l0 : Ladder),
       s.stn.air.claims = [c] → c.message = some m.serial → s.stn.msg? m.serial = some m →
       s.stn.rec? m.sub = some rec → m.tag = some tag → m.ladder = some l0 →
       let plan := s.stn.img.plans.get rec.admin.plan
       let l := l0.inside plan
       let front : Store :=
         let st := s.stn.store.withMsg m.serial fun x => { x with state := .ready, target := none }
         match m.priority with
         | .urgent => { st with urgent := m.serial :: st.urgent }
         | .normal => { st with normal := m.serial :: st.normal }
       let zones : ZoneSet := match (plan.stepAt l.step).selector with
         | .all => 0xFF#8
         | .home => rec.admin.zones
         | .last => match rec.lastZone with
           | some z => 1#8 <<< z.val
           | none => rec.admin.zones
         | .explicit z => z
       (∀ first, usable → s.stn.air.buffer = [] → firstSlotOf s.stn.self c fit = some first →
         exec .roundEnd s = .next (closed { mapped with
           store := s.stn.store.withMsg m.serial fun x => { x with state := .loaded, ladder := some l },
           air.buffer := [{ message := m.serial, target := t, number := c.number, first := first,
                            slots := c.slots, addr := rec.admin.addr, tag := tag, zones := zones,
                            body := m.blocks.flatten, committed := false, sent := 0 }] })) ∧
       (usable → firstSlotOf s.stn.self c fit = none →
         exec .roundEnd s = .next (closed { mapped with
           store := front, air.claimsLost := satInc s.stn.air.claimsLost })) ∧
       (¬usable → exec .roundEnd s = .next (closed { s.stn.abstained t with store := front })))

/-! ### The Custody Unit (chapter 3) -/

/-- BUDDY_WAIT_END (R41, R42, R50), RETURN_RETRY_DELAY_END (R18, R53, R54) and MIRROR_RESTART_WAIT_END (R58), each
the last count of its wait (that the rows are the last counts is the model's choice, log 5). The entry into LIVE
changes the own view, and with it comes the double failure test: a FAILED station with a FAILED buddy gets custodian
NONE. ROUND_END counts each wait kept in rounds (R20), here one at a time: the buddy wait of a RECLAIMING station is
0 again while the buddy is viewed LIVE and else one more (R50); the retry delay of the return walk (R53) and RESTART
WAIT (R58) are one less. At the last count it does what the row of that count does, as it does for the limits of a
pending entry (R92), whose deferral end starts no wait of its own here. -/
def Obligations.WaitsKeptInRoundsRunOut : Prop :=
  (∀ s : State, s.stn.intake.waiting = [] →
     (s.stn.cust.state = .reclaiming → s.stn.view s.stn.buddy ≠ .live → 7 ≤ s.stn.cust.buddyWait →
       ((s.stn.cust.returnTaken = false ∨ (s.stn.view s.stn.buddy).down = true) →
         s.stn.custodian s.stn.self ≠ none → s.stn.buddy ≠ s.stn.self →
         (NoDoubleFailure s.stn → exec .buddyWaitEnd s = .next { s with
           stn.cust := { s.stn.cust with buddyWait := 8, state := .live } }) ∧
         ∀ k ∈ s.stn.roster, k ≠ s.stn.self → NoRequests s.stn → s.stn.view k = .failed →
           s.stn.view (buddyOf s.stn.img.roster k) = .failed → s.stn.custodian k ≠ none →
           (∀ j ∈ s.stn.roster, j ≠ s.stn.self → j ≠ k → (s.stn.view j).down = true →
             s.stn.view (buddyOf s.stn.img.roster j) ≠ .failed ∨
               s.stn.view j = .failed ∧ s.stn.custodian j = none) →
           exec .buddyWaitEnd s = .next { s with
             stn.req.cache := [],
             stn.cust := { s.stn.cust.withEntry k (fun e => { e with custodian := none }) with
               buddyWait := 8, state := .live } }) ∧
       (s.stn.cust.returnTaken = false → s.stn.buddy ≠ s.stn.self → NoRequests s.stn →
         (∃ e ∈ s.stn.cust.map, e.station = s.stn.self) → s.stn.custodian s.stn.self = none →
         NoDoubleFailure s.stn → exec .buddyWaitEnd s = .next { s with
           stn.req.cache := [],
           stn.cust := { s.stn.cust.withEntry s.stn.self (fun e => { e with custodian := some s.stn.self }) with
             buddyWait := 8, state := .live } }) ∧
       (s.stn.cust.returnTaken = true → (s.stn.view s.stn.buddy).down = false →
         exec .buddyWaitEnd s = .next { s with stn.cust.buddyWait := 8 })) ∧
     (s.stn.cust.retryDelay = some 1 → s.stn.subs.ret = .idle →
       let isWard (r : Record) : Prop := r.origin = .adopted ∧ r.home = s.stn.ward
       let none' : State := { s with stn.cust.retryDelay := none }
       ((s.stn.view s.stn.ward).heard = false → exec .returnRetryDelayEnd s = .next none') ∧
       ((s.stn.view s.stn.ward).heard = true → inSet s.stn.cust.custody s.stn.ward = true →
         (s.stn.subs.grant = .drain → exec .returnRetryDelayEnd s =
           .next { none' with stn.subs.ret := .waiting }) ∧
         (s.stn.subs.grant = .nobody → (∀ r ∈ s.stn.subs.active, ¬isWard r ∧ r.returning = false) →
           exec .returnRetryDelayEnd s = .next { none' with
             stn.subs := { s.stn.subs with grant := .ret, ret := .running .standby none } }) ∧
         (s.stn.subs.grant = .nobody → (∃ r ∈ s.stn.subs.active, isWard r) →
           exec .returnRetryDelayEnd s = .next { none' with stn.subs := { s.stn.subs with
             active := s.stn.subs.active.map fun r =>
               if r.origin = .adopted ∧ r.home = s.stn.ward then { r with returning := true } else r,
             grant := .ret, ret := .running .adopted none } }))) ∧
     (s.stn.subs.mirror = .restartWait 1 →
       (s.stn.cust.state = .live ∧ s.stn.view s.stn.buddy = .live →
         exec .mirrorRestartWaitEnd s = .next { s with stn.subs.mirror := .running none true false }) ∧
       (¬(s.stn.cust.state = .live ∧ s.stn.view s.stn.buddy = .live) →
         exec .mirrorRestartWaitEnd s = .next { s with stn.subs.mirror := .idle }))) ∧
  ∀ (s : State) (r : RoundPos) (next : Option RoundPos), EndsInto s.stn r next → s.stn.subs.ret = .idle →
    let u : State := { s with stn.bus.round := next }
    (s.stn.cust.state = .reclaiming → s.stn.cust.retryDelay = none → s.stn.subs.mirror = .idle →
      s.stn.req.pend = [] →
      (s.stn.view s.stn.buddy = .live →
        exec .roundEnd s = .next { u with stn.cust.buddyWait := 0 }) ∧
      (s.stn.view s.stn.buddy ≠ .live → s.stn.cust.buddyWait < 7 →
        exec .roundEnd s = .next { u with stn.cust.buddyWait := s.stn.cust.buddyWait + 1 }) ∧
      (s.stn.view s.stn.buddy ≠ .live → 7 ≤ s.stn.cust.buddyWait → s.stn.bus.outbox = [] →
        exec .roundEnd s = exec .buddyWaitEnd u)) ∧
    (NoCheckDue s.stn →
      (∀ n, s.stn.cust.retryDelay = some n → (∀ k, s.stn.subs.mirror ≠ .restartWait k) →
        s.stn.req.pend = [] →
        (2 ≤ n → exec .roundEnd s = .next { u with stn.cust.retryDelay := some (n - 1) }) ∧
        (n = 1 → exec .roundEnd s = exec .returnRetryDelayEnd u)) ∧
      (∀ n, s.stn.subs.mirror = .restartWait n → s.stn.cust.retryDelay = none → s.stn.req.pend = [] →
        (2 ≤ n → exec .roundEnd s = .next { u with stn.subs.mirror := .restartWait (n - 1) }) ∧
        (n = 1 → exec .roundEnd s = exec .mirrorRestartWaitEnd u)) ∧
      ∀ (older younger : List PendEntry) (e : PendEntry),
        s.stn.cust.retryDelay = none → (∀ k, s.stn.subs.mirror ≠ .restartWait k) →
        s.stn.req.pend = older ++ e :: younger → (s.stn.req.pend.map (·.tag)).Nodup →
        (∀ o ∈ older ++ younger, o.staysBelow) →
        let v : State := { u with
          stn.req.pend := older.map PendEntry.aged ++ e :: younger.map PendEntry.aged }
        (e.rounds = 23 → (∀ text, e.state ≠ .holding text) →
          exec .roundEnd s = exec (.requestOverallLimit e.tag) v) ∧
        (e.rounds < 23 → e.state = .awaiting → e.wait = 11 →
          exec .roundEnd s = exec (.answerLimit e.tag) v) ∧
        (e.rounds < 23 → e.state = .deferred → e.wait = 3 → ∀ t : State,
          exec (.deferralEnd e.tag) v = .next t → t.stn.subs.ret = .idle →
          (∀ k, t.stn.subs.mirror ≠ .restartWait k) → exec .roundEnd s = .next t))

/-- The visits of the walks (R24, R54, R55, R59): a record or standby record whose turn it is hands its note to
the ward, or its mirror note to the buddy, and the walk goes on behind it; after the last, RETURN END or
MIRROR END; without an outbox place nothing changes. -/
def Obligations.WalksHandOneNoteAVisit : Prop :=
  ∀ s : State,
    let ward := s.stn.ward
    let subs := s.stn.subs
    let full := 32 ≤ s.stn.bus.outbox.length
    let hands (t : Subscribers) (dest : Station) (body : NoteBody) (walk : NoteWalk) : State := { s with
      stn.subs := t,
      stn.bus.outbox := s.stn.bus.outbox ++ [{
        dest := dest, body := body, serial := none, awaiting := false, sends := 0, route := .here,
        held := false, stale := false, walk := walk }] }
    (∀ pos, subs.ret = .running .adopted pos →
      let i : Instr := .returnWalkVisit
      (full → exec i s = .next s) ∧
      (¬full → NoEntryWaits s.stn →
        (∀ r, s.stn.nextReturning pos = some r → (s.stn.view ward).down = false →
          let phase : ReturnWalk :=
            if subs.active.any (fun x => x.returning && decide (r.admin.sub < x.admin.sub)) then
              .running .adopted (some r.admin.sub)
            else .running .revisit none
          (r.queue = [] → exec i s = .next
            (hands { subs with ret := phase } ward (.ret r.admin r.nextTag r.lastZone r.meter) .ret)) ∧
          (r.queue ≠ [] → exec i s = .next { s with stn.subs.ret := phase })) ∧
        (s.stn.nextReturning pos = none →
          ((∃ r ∈ subs.active, r.returning = true) →
            exec i s = .next { s with stn.subs.ret := .running .revisit none }) ∧
          ((∀ r ∈ subs.active, r.returning = false) →
            exec i s = .next { s with stn.subs.ret := .running .standby none })))) ∧
    (∀ pos, subs.ret = .running .standby pos →
      let i : Instr := .returnWalkStandbyVisit
      (full → exec i s = .next s) ∧
      (¬full → NoEntryWaits s.stn → (s.stn.view ward).down = false →
        (∀ b, s.stn.nextStandby pos = some b → exec i s = .next
          (hands { subs with ret := .running .standby (some b.admin.sub) } ward
            (.ret b.admin (b.nextTag + 128) none ⟨0, 0, 0, 0, s.stn.bill.period, false, false, false⟩)
            .ret)) ∧
        (s.stn.nextStandby pos = none → exec i s = .next
          (hands { subs with ret := .running .ending none } ward .retEnd .ret)))) ∧
    ∀ pos first, subs.mirror = .running pos first false →
      let i : Instr := .mirrorWalkStep
      let next := nextAbove (·.admin.sub) (fun (r : Record) => decide (r.origin = .home)) pos subs.active
      (full → exec i s = .next s) ∧
      (¬full → NoEntryWaits s.stn → NoVisitWaits s.stn → (s.stn.view s.stn.buddy).down = false →
        (∀ r, next = some r → exec i s = .next
          (hands { subs with mirror := .running (some r.admin.sub) false false } s.stn.buddy
            (.mirror first r.admin r.nextTag) .mirror)) ∧
        (next = none → exec i s = .next
          (hands { subs with mirror := .running pos false true } s.stn.buddy (.mirrorEnd first)
            .mirror)))

/-- ADOPTION (R3, R37, R45, R46) where nothing waits, every other station is up and has a custodian other than
the ward: the ward enters the custody list, its custodian is this station and its view FAILED, the route cache
is emptied, and its standby records become ADOPTED records, or stay UNADOPTED where a key is taken or the table
is full. -/
def Obligations.AdoptionTakesTheWardsRecords : Prop :=
  ∀ s : State, s.stn.cust.declaration = .declaring → s.stn.intake.waiting = [] → s.stn.bus.outbox = [] →
    s.stn.req.pend = [] → s.stn.cust.state = .live → s.stn.ward ≠ s.stn.self →
    (∃ e, s.stn.entry? s.stn.ward = some e ∧ e.view = .silent) →
    s.stn.custodian s.stn.ward ≠ some s.stn.self → s.stn.subs.ret = .idle →
    buddyOf s.stn.img.roster s.stn.ward = s.stn.self →
    (∀ k ∈ s.stn.roster, k ≠ s.stn.ward →
      (s.stn.view k).down = false ∧ s.stn.custodian k ≠ some s.stn.ward) →
    let ward := s.stn.ward
    let cust : Custody := { s.stn.cust.withEntry ward fun e =>
      { e with custodian := some s.stn.self, view := .failed } with
      custody := setAdd s.stn.cust.custody ward, declaration := .none }
    let after (active : List Record) (standby : List StandbyRec) : State := { s with
      stn.cust := cust, stn.req.cache := [],
      stn.subs := { s.stn.subs with active := active, standby := standby } }
    let record (b : StandbyRec) : Record :=
      { admin := b.admin, origin := .adopted, home := ward, returning := false, nextTag := b.nextTag + 128,
        queue := [], lastZone := none, meter := ⟨0, 0, 0, 0, s.stn.bill.period, false, false, false⟩ }
    (s.stn.subs.active = [] → s.stn.subs.standby.length ≤ 1024 →
      s.stn.subs.standby.Pairwise (fun a b => a.admin.sub < b.admin.sub ∧ a.admin.addr ≠ b.admin.addr) →
      exec .adoption s = .next (after (s.stn.subs.standby.map record) [])) ∧
    ∀ b, s.stn.subs.standby = [b] →
      let taken := 1024 ≤ s.stn.subs.active.length ∨
        ∃ r ∈ s.stn.subs.active, r.admin.addr = b.admin.addr ∨ r.admin.sub = b.admin.sub
      (taken → exec .adoption s = .next (after s.stn.subs.active [{ b with mark := .unadopted }])) ∧
      (¬taken → exec .adoption s =
        .next (after (insertBy (·.admin.sub) (record b) s.stn.subs.active) []))

/-- JOINING_END (R49, R50, R143, R178), where no double failure is due (R42): the numbering is moved by the offset
to the source station, the lowest LIVE one heard, else the lowest JOINING one where it is below this station; the
station is RECLAIMING, or LIVE where a RETURN END has been taken. The JOINING rounds end with their round 3. Here no
entry is LOCAL and no line waits. The store's frame number and the Bus Unit's mark move with the air frame number
(DEDUCED, log 4), and so does the abstain mark of the frame being claimed (DEDUCED, log 14); the pending close is
discarded also where the source is the station itself (DEDUCED, log 22). -/
def Obligations.JoiningEndCopiesTheNumbering : Prop :=
  (∀ (s : State) (r : RoundPos) (f : FrameNo), AtRoundEnd s.stn r → r.index = 3 → s.stn.cust.state = .joining →
    s.stn.cust.join = .running f → s.stn.bus.noted = false → s.stn.req.pend = [] →
    s.stn.intake.waiting = [] → s.stn.subs.ret = .idle → s.stn.cust.retryDelay = none →
    (∀ n, s.stn.subs.mirror ≠ .restartWait n) →
    exec .roundEnd s = .next { s with stn.bus.round := none, stn.cust.join := .complete f }) ∧
  ∀ (s : State) (f : FrameNo), s.stn.cust.state = .joining → s.stn.cust.join = .complete f →
    s.stn.intake.waiting = [] → (∀ e ∈ s.stn.req.pend, e.state ≠ .localHere) → NoDoubleFailure s.stn →
    let heard := s.stn.cust.heard
    let joined (st : Stn) : Prop :=
      let after (state : Member) : State := { s with stn := { st with
        bill.pendingClose := none,
        cust := { st.cust with state := state, buddyWait := 0, join := .before, heard := [] } } }
      (s.stn.cust.returnEndTaken = false → exec .joiningEnd s = .next (after .reclaiming)) ∧
      (s.stn.cust.returnEndTaken = true → s.stn.buddy ≠ s.stn.self → s.stn.view s.stn.buddy ≠ .live →
        s.stn.custodian s.stn.self ≠ none → exec .joiningEnd s = .next (after .live))
    ((∀ h ∈ heard, h.sawLive = false ∧ (h.sawJoining = true → s.stn.self < h.station)) → joined s.stn) ∧
    ∀ h ∈ heard, (heard.map (·.station)).Nodup → h.station ≠ s.stn.self →
      ((h.sawLive = true ∧ ∀ x ∈ heard, x.sawLive = true → h.station ≤ x.station) ∨
        (h.sawJoining = true ∧ h.station < s.stn.self ∧
          ∀ x ∈ heard, x.sawLive = false ∧ (x.sawJoining = true → h.station ≤ x.station))) →
      let d := h.frame - f
      joined { s.stn with
        air := { s.stn.air with
          frame := s.stn.air.frame + d,
          abstain := s.stn.air.abstain.map fun g =>
            if ∃ r ∈ s.stn.bus.round, r.frame + 2 = g then g + d else g },
        store.frame := s.stn.store.frame + d, bus.mark := s.stn.bus.mark + d,
        bus.round := s.stn.bus.round.map fun r => { r with frame := r.frame + d },
        bill.period := h.period,
        ret.recent := if d = 0 then s.stn.ret.recent else [] }

/-! ### The Meter and Billing Units (chapters 9 and 10) -/

/-- DRAIN_VISIT (R17, R18, R54, R168, R178 to R183): a record of the period in progress hands its closed and carry
units to the block under formation, an older one is rolled first, an empty one is passed; the block of 16 entries is
formed where the queue has a place, and else pauses the walk; behind the last record the walk's last block is formed
in the same way and the walk ends, its grant going to a waiting return walk, which begins, else to the pending close
or to nobody. The first block of a period has the number 0 (R183). The walk's end is a visit of its own: a walk that
has visited its last record stays RUNNING until the next row (DEDUCED, log 18). -/
def Obligations.DrainVisitsFormTheBlock : Prop :=
  ∀ (s : State) (pos : Option Nat), s.stn.subs.drain = .running pos →
    let i : Instr := .drainVisit
    let moved (r : Record) (f : MeterFields → MeterFields) (forming : List FormEntry) (pause : Pause) :
        State := { s with
      stn.subs := { s.stn.subs.withRec r.admin.sub (fun x => { x with meter := f x.meter }) with
        drain := .running (some r.admin.sub) },
      stn.bill := { s.stn.bill with forming := forming, pause := pause } }
    let ended (bill : Billing) (grant : Grant) (drain : DrainWalk) : State :=
      { s with stn.bill := bill, stn.subs := { s.stn.subs with grant := grant, drain := drain } }
    (s.stn.bill.pause ≠ .none → exec i s = .next s) ∧
    (∀ r, s.stn.bill.pause = .none → s.stn.nextDrain pos = some r → ActiveUnique s.stn →
      let m := r.meter
      let total := m.closed + m.carry
      let entry (n : Nat) : FormEntry :=
        { sub := r.admin.sub, total := n, adopted := decide (r.origin = .adopted), final := false }
      let current := later s.stn.bill.period m.period = false
      (current → total = 0 → exec i s = .next (moved r id s.stn.bill.forming .none)) ∧
      (current → total ≠ 0 → s.stn.bill.forming.length < 15 →
        exec i s = .next (moved r (fun x => { x with closed := 0, carry := 0 })
          (s.stn.bill.forming ++ [entry total]) .none)) ∧
      (current → total ≠ 0 → s.stn.bill.forming.length = 15 → s.stn.bill.queue.length < 4 →
        FormsPlainly s.stn (s.stn.bill.forming ++ [entry total]) →
        exec i s = .next { s with
          stn := Stn.formed { (moved r (fun x => { x with closed := 0, carry := 0 }) [] .none).stn with
            bill := s.stn.bill } (s.stn.bill.forming ++ [entry total]) s.stn.bill.queue }) ∧
      (current → total ≠ 0 → 15 ≤ s.stn.bill.forming.length → 4 ≤ s.stn.bill.queue.length →
        exec i s = .next (moved r (fun x => { x with closed := 0, carry := 0 })
          (s.stn.bill.forming ++ [entry total]) .full)) ∧
      (¬current → r.admin.service ≠ .barred → m.closed + m.current ≤ Config.unitLimit →
        s.stn.bill.forming.length < 15 → total + m.current ≠ 0 →
        exec i s = .next (moved r
          (fun x => { x with current := 0, closed := 0, carry := 0, period := s.stn.bill.period,
                             sent := false, owed := false })
          (s.stn.bill.forming ++ [entry (total + m.current)]) .none))) ∧
    (s.stn.bill.pause = .none → s.stn.nextDrain pos = none → s.stn.bill.forming = [] →
      (s.stn.subs.ret = .waiting → exec i s = .next { s with
        stn.subs := Subscribers.returning { s.stn.subs with drain := .idle } s.stn.ward }) ∧
      (s.stn.subs.ret ≠ .waiting → s.stn.bill.pendingClose = none →
        exec i s = .next (ended s.stn.bill .nobody .idle)) ∧
      ∀ p, s.stn.subs.ret ≠ .waiting → s.stn.bill.pendingClose = some p → exec i s = .next
        (ended { s.stn.bill with period := p, pendingClose := none } .drain (.running none))) ∧
    (s.stn.bill.pause = .none → s.stn.nextDrain pos = none → s.stn.bill.forming ≠ [] →
      s.stn.bill.queue.length < 4 → FormsPlainly s.stn s.stn.bill.forming →
      exec i s = .next { s with
        stn := Stn.released { s.stn.formed s.stn.bill.forming s.stn.bill.queue with subs.drain := .idle } }) ∧
    (s.stn.bill.pause = .none → s.stn.nextDrain pos = none → s.stn.bill.forming ≠ [] →
      4 ≤ s.stn.bill.queue.length → exec i s = .next { s with stn.bill.pause := .last })

/-- BILLING_BLOCK_START and BILLING_BLOCK_SENT (R18, R54, R167, R179, R181 to R183, R185, R186): the free port
begins the oldest block when it is accepted; a block sent leaves the queue, and a walk paused at a full block forms
it in the place and goes on, or ends where the block was its last, its grant going to a waiting return walk, else to
the pending close or to nobody; the first block of a period has the number 0. A walk's last block that needs a scale
bills its field, leaves the remainder in the record's carry, within its limit, or writes it off, and sets the limit
mark of a limited entry. The split of the totals (R182): the scale is the least that fits, and field and remainder
make up the total. A row on a port or a queue that has no such event changes nothing (the model's choice, log 5).
That a walk paused at its last block ends without a look at records inserted above its position is the model's
choice (log 18). -/
def Obligations.BillingPortAndScale : Prop :=
  (∀ s : State,
    (∀ b rest, s.stn.bill.sending = none → s.stn.bill.queue = b :: rest →
      exec (.billingBlockStart true) s = .next { s with stn.bill.sending := some b.bytes } ∧
      exec (.billingBlockStart false) s = .next s) ∧
    (s.stn.bill.sending ≠ none ∨ s.stn.bill.queue = [] →
      ∀ accept, exec (.billingBlockStart accept) s = .next s) ∧
    (s.stn.bill.sending = none → exec .billingBlockSent s = .next s) ∧
    ∀ bytes, s.stn.bill.sending = some bytes →
      let sent : Billing := { s.stn.bill with
        sending := none, queue := s.stn.bill.queue.drop 1, blocksSent := satInc s.stn.bill.blocksSent }
      (s.stn.bill.pause = .none → exec .billingBlockSent s = .next { s with stn.bill := sent }) ∧
      (∀ pos r, s.stn.bill.pause = .full → s.stn.subs.drain = .running pos → s.stn.nextDrain pos = some r →
        FormsPlainly s.stn s.stn.bill.forming →
        exec .billingBlockSent s = .next { s with
          stn := Stn.formed { s.stn with bill := sent } s.stn.bill.forming (s.stn.bill.queue.drop 1) }) ∧
      (∀ pos, s.stn.subs.drain = .running pos →
        (s.stn.bill.pause = .last ∨ s.stn.bill.pause = .full ∧ s.stn.nextDrain pos = none) →
        FormsPlainly s.stn s.stn.bill.forming →
        exec .billingBlockSent s = .next { s with
          stn := Stn.released { Stn.formed { s.stn with bill := sent } s.stn.bill.forming (s.stn.bill.queue.drop 1) with
            subs.drain := .idle } }) ∧
      ∀ (e : FormEntry) (scale : Nat), s.stn.bill.pause = .last → s.stn.bill.forming = [e] → ActiveUnique s.stn →
        scale ≤ 3 → (∀ j < scale, 65535 < e.total / 16 ^ j) → (scale = 3 ∨ e.total / 16 ^ scale ≤ 65535) →
        let field := min (e.total / 16 ^ scale) 65535
        let left := e.total - field * 16 ^ scale
        let limited := decide (65535 < e.total / 16 ^ scale)
        let number := s.stn.bill.nextNumber (s.stn.bill.period - 1)
        let scaled (unmetered : Nat) (subs : Subscribers) : State := { s with stn := Stn.released { s.stn with
          subs := { subs with drain := .idle },
          meter := { s.stn.meter with
            billed := s.stn.meter.billed + units (field * 16 ^ scale),
            unmetered := s.stn.meter.unmetered + units unmetered },
          bill := { sent with
            forming := [], pause := .none, counter := number + 1, counted := some (s.stn.bill.period - 1),
            entriesLimited :=
              if limited then satInc s.stn.bill.entriesLimited else s.stn.bill.entriesLimited,
            queue := s.stn.bill.queue.drop 1 ++ [
              { station := s.stn.self, period := s.stn.bill.period - 1, number := number,
                scale := scale,
                entries := [{ sub := e.sub, field := BitVec.ofNat 16 field, limited := limited,
                              adopted := e.adopted, final := e.final }] }] } } }
        let carried (n : Nat) : Subscribers := s.stn.subs.withRec e.sub fun x => { x with
          meter := { x.meter with carry := n, limit := x.meter.limit || limited } }
        (s.stn.rec? e.sub = none → exec .billingBlockSent s = .next (scaled left s.stn.subs)) ∧
        ∀ x, s.stn.rec? e.sub = some x →
          (x.meter.carry + left ≤ Config.carryLimit →
            exec .billingBlockSent s = .next (scaled 0 (carried (x.meter.carry + left)))) ∧
          (Config.carryLimit < x.meter.carry + left →
            exec .billingBlockSent s = .next
              (scaled (x.meter.carry + left - Config.carryLimit) (carried Config.carryLimit)))) ∧
  ∀ es : List FormEntry,
    let k := scaleOf es
    k ≤ 3 ∧ (∀ j < k, ∃ e ∈ es, 65535 < e.total / 16 ^ j) ∧
      ∀ e ∈ es, fieldOf k e.total ≤ 65535 ∧
        fieldOf k e.total * 16 ^ k + remainderOf k e.total = e.total ∧
        (isLimited k e.total = true ↔ 65535 < e.total / 16 ^ k) ∧
        (isLimited k e.total = false → remainderOf k e.total < 16 ^ k) ∧
        (k < 3 → isLimited k e.total = false)

/-! ### Commands that meet no event -/

/-- A command that names an event which cannot happen in the state changes nothing (the model's choice,
log 5): before the configuration is closed, outside the rounds and out of the order of their
windows, for an absent message, note, entry or walk,
and before the last count of a wait. -/
def Obligations.CommandsWithoutTheirEventChangeNothing : Prop :=
  ∀ s : State,
    (s.stn.ctl.phase ≠ .closed →
      (∀ f order, exec (.airFrameStart f order) s = .next s) ∧ exec .owedNoticeOffers s = .next s ∧
      (∀ f, exec (.reportEntryAged f) s = .next s) ∧ (∀ n, exec (.slotStart n) s = .next s) ∧
      (∀ q : Report, exec q.command s = .next s) ∧ (∀ bytes, exec (.badReport bytes) s = .next s ∧
        exec (.reportGap bytes) s = .next s)) ∧
    (s.stn.ctl.phase ≠ .closed ∨ s.stn.bus.round = none →
      exec .roundFrameSend s = .next s ∧ exec .roundEnd s = .next s ∧
      ∀ p heard, exec (.windowReading p heard) s = .next s) ∧
    (s.stn.linesUp = false → ∀ l, exec (.lineBreak l) s = .next s ∧ exec (.markSelect l) s = .next s ∧
      exec (.markAbandon l) s = .next s ∧ exec (.orphanMark l) s = .next s ∧
      exec (.dataCharacter l) s = .next s ∧ exec (.terminator l) s = .next s ∧
      exec (.replyTransmitStart l) s = .next s ∧
      ∀ v mark parityBit stopBit, exec (.characterReceived l v mark parityBit stopBit) s = .next s) ∧
    (∀ heard, exec (.windowReading s.stn.self heard) s = .next s) ∧
    (∀ r, s.stn.bus.round = some r →
      (r.left.head? ≠ some s.stn.self → exec .roundFrameSend s = .next s) ∧
      (∀ p heard, (r.left.head? ≠ some p ∨ s.stn.cust.declaration = .declaring) →
        exec (.windowReading p heard) s = .next s) ∧
      (r.left ≠ [] ∨ s.stn.cust.declaration = .declaring → exec .roundEnd s = .next s)) ∧
    ((∀ second, s.stn.ctl.phase ≠ .reading second) →
      ∀ bytes, exec (.configurationReadComplete bytes) s = .next s) ∧
    (∀ serial, s.stn.msg? serial = none → exec (.waitEnd serial) s = .next s ∧
      exec (.holdEnd serial) s = .next s ∧ exec (.messageExpiry serial) s = .next s) ∧
    (∀ serial, (∀ p ∈ s.stn.air.buffer, p.message ≠ serial) → exec (.pageCompletion serial) s = .next s) ∧
    (∀ m l, s.stn.msg? m.serial = some m → m.ladder = some l → 2 ≤ l.wait →
      exec (.waitEnd m.serial) s = .next s ∧ exec (.holdEnd m.serial) s = .next s) ∧
    (∀ m, s.stn.msg? m.serial = some m →
      (m.state ≠ .awaitAck ∧ m.state ≠ .paused → exec (.waitEnd m.serial) s = .next s) ∧
      (m.state ≠ .held → exec (.holdEnd m.serial) s = .next s)) ∧
    (∀ tag, s.stn.pend? tag = none → exec (.requestOverallLimit tag) s = .next s ∧
      exec (.answerLimit tag) s = .next s ∧ exec (.deferralEnd tag) s = .next s) ∧
    (∀ p x, (∀ n ∈ s.stn.bus.outbox, n.dest = p → n.serial = some x → n.awaiting = false ∨ n.sends < 8) →
      exec (.noteFailure p x) s = .next s) ∧
    (s.stn.cust.declaration ≠ .declaring → exec .adoption s = .next s) ∧
    (s.stn.cust.buddyWait < 7 → exec .buddyWaitEnd s = .next s) ∧
    (s.stn.cust.retryDelay ≠ some 1 → exec .returnRetryDelayEnd s = .next s) ∧
    (s.stn.subs.mirror ≠ .restartWait 1 → exec .mirrorRestartWaitEnd s = .next s) ∧
    ((s.stn.cust.state ≠ .joining ∨ ∀ f, s.stn.cust.join ≠ .complete f) →
      exec .joiningEnd s = .next s) ∧
    ((∀ pos, s.stn.subs.ret ≠ .running .adopted pos) → exec .returnWalkVisit s = .next s) ∧
    ((∀ pos, s.stn.subs.ret ≠ .running .standby pos) → exec .returnWalkStandbyVisit s = .next s) ∧
    ((∀ pos first, s.stn.subs.mirror ≠ .running pos first false) → exec .mirrorWalkStep s = .next s) ∧
    (s.stn.subs.drain = .idle → exec .drainVisit s = .next s)

/-! ### Invariants of every step -/

/-- Every step keeps the lines within their capacities, with the ready output deasserted at 6 characters and
more, and with nothing received before the lines start (R64, R65, R71, R74, R188). -/
def Obligations.EveryStepKeepsTheLinesWithinTheirCapacities : Prop :=
  ∀ s t : State, LinesOk s.stn → step s = .next t → LinesOk t.stn

/-- Every step keeps the active table, the message entries and body pool, the outcome list, the outbox and take
memories, the pending table and route cache, the claims, the recent report list, the billing queue and the block
under formation within what their rules allow (R4, R24, R29, R82, R88, R103, R104, R119, R125, R142, R181, R185).
It does not speak of the standby table, which a taken RETURN may bring past 1024 entries (the model's choice,
log 13), nor of the slot buffer, whose bound (R131, R132: the pages of two frames, at most 8 of each) rests on
office marks that reach the Bus Unit and the Airtime Unit alike, which the model leaves to the sender of the
commands (log 7). -/
def Obligations.EveryStepKeepsTheCapacities : Prop :=
  ∀ s t : State, Capacities s.stn → step s = .next t → Capacities t.stn

/-- Every step keeps the law of units (R173), with the uniqueness of subscriber numbers and the walk grant it
rests on. -/
def Obligations.EveryStepKeepsTheLawOfUnits : Prop :=
  ∀ s t : State, UnitsInv s → step s = .next t → UnitsInv t

/-- The invariants hold at reset. -/
def Obligations.InvariantsHoldAtReset : Prop :=
  LinesOk State.reset.stn ∧ Capacities State.reset.stn ∧ UnitsInv State.reset

end
end

