-- ==== Sys2Proof/Laws/State.lean ====
section
/-!
SUPPORT. One lemma per setter and field: what a setter leaves as it is, and the field it changes; folds that
leave a block as it is.
-/

namespace Sys2Proof.Machine

@[simp] theorem foldl_ctl {α : Type} (f : Stn → α → Stn) (h : ∀ s a, (f s a).ctl = s.ctl) (l : List α)
    (s : Stn) : (l.foldl f s).ctl = s.ctl := by
  induction l generalizing s with
  | nil => rfl
  | cons a l ih => simp [ih, h]

@[simp] theorem foldl_intake {α : Type} (f : Stn → α → Stn) (h : ∀ s a, (f s a).intake = s.intake) (l : List α)
    (s : Stn) : (l.foldl f s).intake = s.intake := by
  induction l generalizing s with
  | nil => rfl
  | cons a l ih => simp [ih, h]

@[simp] theorem foldl_req {α : Type} (f : Stn → α → Stn) (h : ∀ s a, (f s a).req = s.req) (l : List α)
    (s : Stn) : (l.foldl f s).req = s.req := by
  induction l generalizing s with
  | nil => rfl
  | cons a l ih => simp [ih, h]

@[simp] theorem foldl_subs {α : Type} (f : Stn → α → Stn) (h : ∀ s a, (f s a).subs = s.subs) (l : List α)
    (s : Stn) : (l.foldl f s).subs = s.subs := by
  induction l generalizing s with
  | nil => rfl
  | cons a l ih => simp [ih, h]

@[simp] theorem foldl_store {α : Type} (f : Stn → α → Stn) (h : ∀ s a, (f s a).store = s.store) (l : List α)
    (s : Stn) : (l.foldl f s).store = s.store := by
  induction l generalizing s with
  | nil => rfl
  | cons a l ih => simp [ih, h]

@[simp] theorem foldl_air {α : Type} (f : Stn → α → Stn) (h : ∀ s a, (f s a).air = s.air) (l : List α)
    (s : Stn) : (l.foldl f s).air = s.air := by
  induction l generalizing s with
  | nil => rfl
  | cons a l ih => simp [ih, h]

@[simp] theorem foldl_ret {α : Type} (f : Stn → α → Stn) (h : ∀ s a, (f s a).ret = s.ret) (l : List α)
    (s : Stn) : (l.foldl f s).ret = s.ret := by
  induction l generalizing s with
  | nil => rfl
  | cons a l ih => simp [ih, h]

@[simp] theorem foldl_meter {α : Type} (f : Stn → α → Stn) (h : ∀ s a, (f s a).meter = s.meter) (l : List α)
    (s : Stn) : (l.foldl f s).meter = s.meter := by
  induction l generalizing s with
  | nil => rfl
  | cons a l ih => simp [ih, h]

@[simp] theorem foldl_bill {α : Type} (f : Stn → α → Stn) (h : ∀ s a, (f s a).bill = s.bill) (l : List α)
    (s : Stn) : (l.foldl f s).bill = s.bill := by
  induction l generalizing s with
  | nil => rfl
  | cons a l ih => simp [ih, h]

@[simp] theorem foldl_bus {α : Type} (f : Stn → α → Stn) (h : ∀ s a, (f s a).bus = s.bus) (l : List α)
    (s : Stn) : (l.foldl f s).bus = s.bus := by
  induction l generalizing s with
  | nil => rfl
  | cons a l ih => simp [ih, h]

@[simp] theorem foldl_cust {α : Type} (f : Stn → α → Stn) (h : ∀ s a, (f s a).cust = s.cust) (l : List α)
    (s : Stn) : (l.foldl f s).cust = s.cust := by
  induction l generalizing s with
  | nil => rfl
  | cons a l ih => simp [ih, h]

@[simp] theorem Stn.updEntry_frame (s : Stn) (k : Station) (f : MapEntry → MapEntry) :
    (Stn.updEntry s k f).ctl = s.ctl ∧ (Stn.updEntry s k f).intake = s.intake ∧ (Stn.updEntry s k
    f).req = s.req ∧ (Stn.updEntry s k f).subs = s.subs ∧ (Stn.updEntry s k f).store = s.store ∧
    (Stn.updEntry s k f).air = s.air ∧ (Stn.updEntry s k f).ret = s.ret ∧ (Stn.updEntry s k
    f).meter = s.meter ∧ (Stn.updEntry s k f).bill = s.bill ∧ (Stn.updEntry s k f).bus = s.bus :=
  ⟨rfl, rfl, rfl, rfl, rfl, rfl, rfl, rfl, rfl, rfl⟩

@[simp] theorem Stn.updRec_frame (s : Stn) (sub : Nat) (f : Record → Record) :
    (Stn.updRec s sub f).ctl = s.ctl ∧ (Stn.updRec s sub f).intake = s.intake ∧ (Stn.updRec s sub
    f).req = s.req ∧ (Stn.updRec s sub f).store = s.store ∧ (Stn.updRec s sub f).air = s.air ∧
    (Stn.updRec s sub f).ret = s.ret ∧ (Stn.updRec s sub f).meter = s.meter ∧ (Stn.updRec s sub
    f).bill = s.bill ∧ (Stn.updRec s sub f).bus = s.bus ∧ (Stn.updRec s sub f).cust = s.cust :=
  ⟨rfl, rfl, rfl, rfl, rfl, rfl, rfl, rfl, rfl, rfl⟩

@[simp] theorem Stn.updStandby_frame (s : Stn) (sub : Nat) (f : StandbyRec → StandbyRec) :
    (Stn.updStandby s sub f).ctl = s.ctl ∧ (Stn.updStandby s sub f).intake = s.intake ∧ (Stn.updStandby
    s sub f).req = s.req ∧ (Stn.updStandby s sub f).store = s.store ∧ (Stn.updStandby s sub
    f).air = s.air ∧ (Stn.updStandby s sub f).ret = s.ret ∧ (Stn.updStandby s sub f).meter = s.meter ∧
    (Stn.updStandby s sub f).bill = s.bill ∧ (Stn.updStandby s sub f).bus = s.bus ∧ (Stn.updStandby s
    sub f).cust = s.cust :=
  ⟨rfl, rfl, rfl, rfl, rfl, rfl, rfl, rfl, rfl, rfl⟩

@[simp] theorem Stn.insertRec_frame (s : Stn) (r : Record) :
    (Stn.insertRec s r).ctl = s.ctl ∧ (Stn.insertRec s r).intake = s.intake ∧ (Stn.insertRec s
    r).req = s.req ∧ (Stn.insertRec s r).store = s.store ∧ (Stn.insertRec s r).air = s.air ∧
    (Stn.insertRec s r).ret = s.ret ∧ (Stn.insertRec s r).meter = s.meter ∧ (Stn.insertRec s
    r).bill = s.bill ∧ (Stn.insertRec s r).bus = s.bus ∧ (Stn.insertRec s r).cust = s.cust :=
  ⟨rfl, rfl, rfl, rfl, rfl, rfl, rfl, rfl, rfl, rfl⟩

@[simp] theorem Stn.removeRec_frame (s : Stn) (sub : Nat) :
    (Stn.removeRec s sub).ctl = s.ctl ∧ (Stn.removeRec s sub).intake = s.intake ∧ (Stn.removeRec s
    sub).req = s.req ∧ (Stn.removeRec s sub).store = s.store ∧ (Stn.removeRec s sub).air = s.air ∧
    (Stn.removeRec s sub).ret = s.ret ∧ (Stn.removeRec s sub).meter = s.meter ∧ (Stn.removeRec s
    sub).bill = s.bill ∧ (Stn.removeRec s sub).bus = s.bus ∧ (Stn.removeRec s sub).cust = s.cust :=
  ⟨rfl, rfl, rfl, rfl, rfl, rfl, rfl, rfl, rfl, rfl⟩

@[simp] theorem Stn.updMsg_frame (s : Stn) (serial : Serial) (f : Message → Message) :
    (Stn.updMsg s serial f).ctl = s.ctl ∧ (Stn.updMsg s serial f).intake = s.intake ∧ (Stn.updMsg s
    serial f).req = s.req ∧ (Stn.updMsg s serial f).subs = s.subs ∧ (Stn.updMsg s serial f).air = s.air
    ∧ (Stn.updMsg s serial f).ret = s.ret ∧ (Stn.updMsg s serial f).meter = s.meter ∧ (Stn.updMsg s
    serial f).bill = s.bill ∧ (Stn.updMsg s serial f).bus = s.bus ∧ (Stn.updMsg s serial
    f).cust = s.cust :=
  ⟨rfl, rfl, rfl, rfl, rfl, rfl, rfl, rfl, rfl, rfl⟩

@[simp] theorem Stn.pushNote_frame (s : Stn) (n : Note) :
    (Stn.pushNote s n).ctl = s.ctl ∧ (Stn.pushNote s n).intake = s.intake ∧ (Stn.pushNote s
    n).req = s.req ∧ (Stn.pushNote s n).subs = s.subs ∧ (Stn.pushNote s n).store = s.store ∧
    (Stn.pushNote s n).air = s.air ∧ (Stn.pushNote s n).ret = s.ret ∧ (Stn.pushNote s n).meter = s.meter
    ∧ (Stn.pushNote s n).bill = s.bill ∧ (Stn.pushNote s n).cust = s.cust :=
  ⟨rfl, rfl, rfl, rfl, rfl, rfl, rfl, rfl, rfl, rfl⟩

@[simp] theorem Stn.mirrorToRestart_frame (s : Stn) :
    (Stn.mirrorToRestart s).ctl = s.ctl ∧ (Stn.mirrorToRestart s).intake = s.intake ∧
    (Stn.mirrorToRestart s).req = s.req ∧ (Stn.mirrorToRestart s).store = s.store ∧ (Stn.mirrorToRestart
    s).air = s.air ∧ (Stn.mirrorToRestart s).ret = s.ret ∧ (Stn.mirrorToRestart s).meter = s.meter ∧
    (Stn.mirrorToRestart s).bill = s.bill ∧ (Stn.mirrorToRestart s).cust = s.cust := by
  refine ⟨?_, ?_, ?_, ?_, ?_, ?_, ?_, ?_, ?_⟩ <;>
    (unfold Stn.mirrorToRestart; repeat' split) <;> simp

@[simp] theorem Stn.handChange_frame (s : Stn) (body : NoteBody) :
    (Stn.handChange s body).ctl = s.ctl ∧ (Stn.handChange s body).intake = s.intake ∧ (Stn.handChange s
    body).req = s.req ∧ (Stn.handChange s body).store = s.store ∧ (Stn.handChange s body).air = s.air ∧
    (Stn.handChange s body).ret = s.ret ∧ (Stn.handChange s body).meter = s.meter ∧ (Stn.handChange s
    body).bill = s.bill ∧ (Stn.handChange s body).cust = s.cust := by
  refine ⟨?_, ?_, ?_, ?_, ?_, ?_, ?_, ?_, ?_⟩ <;>
    (unfold Stn.handChange; repeat' split) <;> simp

@[simp] theorem Stn.handMirror_frame (s : Stn) (sub : Nat) :
    (Stn.handMirror s sub).ctl = s.ctl ∧ (Stn.handMirror s sub).intake = s.intake ∧ (Stn.handMirror s
    sub).req = s.req ∧ (Stn.handMirror s sub).store = s.store ∧ (Stn.handMirror s sub).air = s.air ∧
    (Stn.handMirror s sub).ret = s.ret ∧ (Stn.handMirror s sub).meter = s.meter ∧ (Stn.handMirror s
    sub).bill = s.bill ∧ (Stn.handMirror s sub).cust = s.cust := by
  refine ⟨?_, ?_, ?_, ?_, ?_, ?_, ?_, ?_, ?_⟩ <;>
    (unfold Stn.handMirror; repeat' split) <;> simp

@[simp] theorem Stn.offerOne_frame (s : Stn) (e : PendEntry) :
    (s.offerOne e).ctl = s.ctl ∧ (s.offerOne e).intake = s.intake ∧ (s.offerOne e).req = s.req ∧
    (s.offerOne e).subs = s.subs ∧ (s.offerOne e).store = s.store ∧ (s.offerOne e).air = s.air ∧
    (s.offerOne e).ret = s.ret ∧ (s.offerOne e).meter = s.meter ∧ (s.offerOne e).bill = s.bill ∧
    (s.offerOne e).cust = s.cust := by
  refine ⟨?_, ?_, ?_, ?_, ?_, ?_, ?_, ?_, ?_, ?_⟩ <;>
    (unfold Stn.offerOne; repeat' split) <;> simp

@[simp] theorem Stn.offerWaiting_frame (s : Stn) :
    (s.offerWaiting).ctl = s.ctl ∧ (s.offerWaiting).intake = s.intake ∧ (s.offerWaiting).req = s.req ∧
    (s.offerWaiting).subs = s.subs ∧ (s.offerWaiting).store = s.store ∧ (s.offerWaiting).air = s.air ∧
    (s.offerWaiting).ret = s.ret ∧ (s.offerWaiting).meter = s.meter ∧ (s.offerWaiting).bill = s.bill ∧
    (s.offerWaiting).cust = s.cust := by
  refine ⟨?_, ?_, ?_, ?_, ?_, ?_, ?_, ?_, ?_, ?_⟩ <;>
    simp [Stn.offerWaiting]

@[simp] theorem Stn.givePlaces_frame (s before : Stn) :
    (s.givePlaces before).ctl = s.ctl ∧ (s.givePlaces before).intake = s.intake ∧ (s.givePlaces
    before).req = s.req ∧ (s.givePlaces before).subs = s.subs ∧ (s.givePlaces before).store = s.store ∧
    (s.givePlaces before).air = s.air ∧ (s.givePlaces before).ret = s.ret ∧ (s.givePlaces before).meter
    = s.meter ∧ (s.givePlaces before).bill = s.bill ∧ (s.givePlaces before).cust = s.cust := by
  refine ⟨?_, ?_, ?_, ?_, ?_, ?_, ?_, ?_, ?_, ?_⟩ <;>
    (unfold Stn.givePlaces; repeat' split) <;> simp

/-- No place has freed, so nothing is given. -/
theorem Stn.givePlaces_of_le {s before : Stn} (h : before.bus.outbox.length ≤ s.bus.outbox.length) :
    s.givePlaces before = s := if_neg (Nat.not_lt.mpr h)

/-- An outbox that stands as it was has no place to give. -/
@[simp] theorem Stn.givePlaces_of_outbox_eq {s before : Stn} (h : s.bus.outbox = before.bus.outbox) :
    s.givePlaces before = s := Stn.givePlaces_of_le (by simp [h])

@[simp] theorem Stn.givePlacesAt_atOnce (s before : Stn) : s.givePlacesAt .atOnce before = s.givePlaces before := rfl

@[simp] theorem Stn.givePlacesAt_atEnd (s before : Stn) : s.givePlacesAt .atEnd before = s := rfl

@[simp] theorem Stn.givePlacesAt_frame (w : Places) (s before : Stn) :
    (s.givePlacesAt w before).ctl = s.ctl ∧ (s.givePlacesAt w before).intake = s.intake ∧
    (s.givePlacesAt w before).req = s.req ∧ (s.givePlacesAt w before).subs = s.subs ∧
    (s.givePlacesAt w before).store = s.store ∧ (s.givePlacesAt w before).air = s.air ∧
    (s.givePlacesAt w before).ret = s.ret ∧ (s.givePlacesAt w before).meter = s.meter ∧
    (s.givePlacesAt w before).bill = s.bill ∧ (s.givePlacesAt w before).cust = s.cust := by
  cases w <;> simp [Stn.givePlacesAt]

/-! ### The fields a setter changes -/

@[simp] theorem Stn.updEntry_map (s : Stn) (k : Station) (f : MapEntry → MapEntry) :
    (s.updEntry k f).cust.map = updWhere (fun e => decide (e.station = k)) f s.cust.map := rfl

@[simp] theorem Stn.updEntry_cust (s : Stn) (k : Station) (f : MapEntry → MapEntry) :
    (s.updEntry k f).cust.state = s.cust.state ∧ (s.updEntry k f).cust.custody = s.cust.custody ∧
    (s.updEntry k f).cust.declaration = s.cust.declaration ∧ (s.updEntry k f).cust.join = s.cust.join ∧
    (s.updEntry k f).cust.heard = s.cust.heard ∧ (s.updEntry k f).cust.buddyWait = s.cust.buddyWait ∧
    (s.updEntry k f).cust.returnTaken = s.cust.returnTaken ∧
    (s.updEntry k f).cust.returnEndTaken = s.cust.returnEndTaken ∧
    (s.updEntry k f).cust.retryDelay = s.cust.retryDelay :=
  ⟨rfl, rfl, rfl, rfl, rfl, rfl, rfl, rfl, rfl⟩

@[simp] theorem Stn.updRec_active (s : Stn) (sub : Nat) (f : Record → Record) :
    (s.updRec sub f).subs.active = updWhere (fun r => decide (r.admin.sub = sub)) f s.subs.active := rfl

@[simp] theorem Stn.updRec_subs (s : Stn) (sub : Nat) (f : Record → Record) :
    (s.updRec sub f).subs.standby = s.subs.standby ∧
    (s.updRec sub f).subs.standbyComplete = s.subs.standbyComplete ∧
    (s.updRec sub f).subs.grant = s.subs.grant ∧ (s.updRec sub f).subs.drain = s.subs.drain ∧
    (s.updRec sub f).subs.ret = s.subs.ret ∧ (s.updRec sub f).subs.mirror = s.subs.mirror :=
  ⟨rfl, rfl, rfl, rfl, rfl, rfl⟩

@[simp] theorem Stn.updStandby_standby (s : Stn) (sub : Nat) (f : StandbyRec → StandbyRec) :
    (s.updStandby sub f).subs.standby =
      updWhere (fun r => decide (r.admin.sub = sub)) f s.subs.standby := rfl

@[simp] theorem Stn.updStandby_subs (s : Stn) (sub : Nat) (f : StandbyRec → StandbyRec) :
    (s.updStandby sub f).subs.active = s.subs.active ∧
    (s.updStandby sub f).subs.standbyComplete = s.subs.standbyComplete ∧
    (s.updStandby sub f).subs.grant = s.subs.grant ∧ (s.updStandby sub f).subs.drain = s.subs.drain ∧
    (s.updStandby sub f).subs.ret = s.subs.ret ∧ (s.updStandby sub f).subs.mirror = s.subs.mirror :=
  ⟨rfl, rfl, rfl, rfl, rfl, rfl⟩

@[simp] theorem Stn.insertRec_active (s : Stn) (r : Record) :
    (s.insertRec r).subs.active = insertBy (·.admin.sub) r s.subs.active := rfl

@[simp] theorem Stn.insertRec_subs (s : Stn) (r : Record) :
    (s.insertRec r).subs.standby = s.subs.standby ∧
    (s.insertRec r).subs.standbyComplete = s.subs.standbyComplete ∧
    (s.insertRec r).subs.grant = s.subs.grant ∧ (s.insertRec r).subs.drain = s.subs.drain ∧
    (s.insertRec r).subs.ret = s.subs.ret ∧ (s.insertRec r).subs.mirror = s.subs.mirror :=
  ⟨rfl, rfl, rfl, rfl, rfl, rfl⟩

@[simp] theorem Stn.removeRec_active (s : Stn) (sub : Nat) :
    (s.removeRec sub).subs.active = s.subs.active.filter fun r => decide (r.admin.sub ≠ sub) := rfl

@[simp] theorem Stn.removeRec_subs (s : Stn) (sub : Nat) :
    (s.removeRec sub).subs.standby = s.subs.standby ∧
    (s.removeRec sub).subs.standbyComplete = s.subs.standbyComplete ∧
    (s.removeRec sub).subs.grant = s.subs.grant ∧ (s.removeRec sub).subs.drain = s.subs.drain ∧
    (s.removeRec sub).subs.ret = s.subs.ret ∧ (s.removeRec sub).subs.mirror = s.subs.mirror :=
  ⟨rfl, rfl, rfl, rfl, rfl, rfl⟩

@[simp] theorem Stn.updMsg_messages (s : Stn) (serial : Serial) (f : Message → Message) :
    (s.updMsg serial f).store.messages =
      updWhere (fun m => decide (m.serial = serial)) f s.store.messages := rfl

@[simp] theorem Stn.updMsg_store (s : Stn) (serial : Serial) (f : Message → Message) :
    (s.updMsg serial f).store.serial = s.store.serial ∧ (s.updMsg serial f).store.urgent = s.store.urgent ∧
    (s.updMsg serial f).store.normal = s.store.normal ∧
    (s.updMsg serial f).store.outcomes = s.store.outcomes ∧
    (s.updMsg serial f).store.frame = s.store.frame :=
  ⟨rfl, rfl, rfl, rfl, rfl⟩

@[simp] theorem Stn.pushNote_outbox (s : Stn) (n : Note) :
    (s.pushNote n).bus.outbox = s.bus.outbox ++ [n] := rfl

@[simp] theorem Stn.pushNote_bus (s : Stn) (n : Note) :
    (s.pushNote n).bus.round = s.bus.round ∧ (s.pushNote n).bus.noted = s.bus.noted ∧
    (s.pushNote n).bus.counters = s.bus.counters ∧ (s.pushNote n).bus.memory = s.bus.memory ∧
    (s.pushNote n).bus.takes = s.bus.takes ∧ (s.pushNote n).bus.lastSender = s.bus.lastSender ∧
    (s.pushNote n).bus.frameOut = s.bus.frameOut ∧ (s.pushNote n).bus.damaged = s.bus.damaged ∧
    (s.pushNote n).bus.foreign = s.bus.foreign ∧ (s.pushNote n).bus.resent = s.bus.resent ∧
    (s.pushNote n).bus.failed = s.bus.failed ∧ (s.pushNote n).bus.lateAnswers = s.bus.lateAnswers :=
  ⟨rfl, rfl, rfl, rfl, rfl, rfl, rfl, rfl, rfl, rfl, rfl, rfl⟩

/-! ### Reading behind a setter -/

/-- A change that keeps the key is found behind it. -/
theorem find?_updWhere {α : Type} (p : α → Bool) (f : α → α) (h : ∀ x, p x = true → p (f x) = true)
    (l : List α) : (updWhere p f l).find? p = (l.find? p).map f := by
  induction l with
  | nil => rfl
  | cons a l ih =>
    by_cases ha : p a = true
    · simp [updWhere, List.find?, ha, h a ha]
    · simpa [updWhere, List.find?, ha] using ih

/-- A change keeps the number of elements. -/
@[simp] theorem length_updWhere {α : Type} (p : α → Bool) (f : α → α) (l : List α) :
    (updWhere p f l).length = l.length := by simp [updWhere]

/-- The record read behind a change that keeps its subscriber number. -/
theorem Stn.rec?_updRec (s : Stn) (sub : Nat) (f : Record → Record)
    (h : ∀ r, r.admin.sub = sub → (f r).admin.sub = sub) :
    (s.updRec sub f).rec? sub = (s.rec? sub).map f :=
  find?_updWhere _ f (fun r hr => by simpa using h r (by simpa using hr)) _

/-- The message read behind a change that keeps its serial. -/
theorem Stn.msg?_updMsg (s : Stn) (serial : Serial) (f : Message → Message)
    (h : ∀ m, m.serial = serial → (f m).serial = serial) :
    (s.updMsg serial f).msg? serial = (s.msg? serial).map f :=
  find?_updWhere _ f (fun m hm => by simpa using h m (by simpa using hm)) _

/-- A place of a vector read behind a write to it. -/
@[simp] theorem get_set {α : Type} {n : Nat} (v : Vector α n) (i : Fin n) (x : α) :
    (v.set i.val x i.isLt).get i = x := by
  change (v.set i.val x i.isLt)[i.val] = x
  simp

/-- Another place of a vector read behind a write. -/
theorem get_set_ne {α : Type} {n : Nat} (v : Vector α n) {i j : Fin n} (x : α) (h : i ≠ j) :
    (v.set i.val x i.isLt).get j = v.get j := by
  have h' : i.val ≠ j.val := fun e => h (Fin.ext e)
  change (v.set i.val x i.isLt)[j.val] = v[j.val]
  simp [h']

/-- Every place of a mapped vector. -/
@[simp] theorem get_map {α β : Type} {n : Nat} (v : Vector α n) (f : α → β) (i : Fin n) :
    (v.map f).get i = f (v.get i) := by
  change (v.map f)[i.val] = f v[i.val]
  simp

/-- The line read behind a change to it. -/
@[simp] theorem Stn.line_updLine (s : Stn) (l : LineNo) (f : Line → Line) :
    (s.updLine l f).line l = f (s.line l) := get_set _ _ _

/-- Another line read behind a change. -/
theorem Stn.line_updLine_ne (s : Stn) {l k : LineNo} (f : Line → Line) (h : l ≠ k) :
    (s.updLine l f).line k = s.line k := get_set_ne _ _ h

/-- The context read behind a change to it. -/
@[simp] theorem Line.ctx_updCtx (x : Line) (c : CtxNo) (f : Context → Context) :
    (x.updCtx c f).ctx c = f (x.ctx c) := get_set _ _ _

/-- Another context read behind a change. -/
theorem Line.ctx_updCtx_ne (x : Line) {c d : CtxNo} (f : Context → Context) (h : c ≠ d) :
    (x.updCtx c f).ctx d = x.ctx d := get_set_ne _ _ h

@[simp] theorem Line.updCtx_fields (x : Line) (c : CtxNo) (f : Context → Context) :
    (x.updCtx c f).fifo = x.fifo ∧ (x.updCtx c f).ready = x.ready ∧ (x.updCtx c f).current = x.current ∧
    (x.updCtx c f).replies = x.replies ∧ (x.updCtx c f).sending = x.sending ∧
    (x.updCtx c f).overrun = x.overrun ∧ (x.updCtx c f).parityFraming = x.parityFraming ∧
    (x.updCtx c f).damagedEntries = x.damagedEntries ∧ (x.updCtx c f).orphans = x.orphans :=
  ⟨rfl, rfl, rfl, rfl, rfl, rfl, rfl, rfl, rfl⟩

end Sys2Proof.Machine
end

