-- ==== Sys2Proof/Laws/Delivery.lean ====
section
/-!
SUPPORT. Which blocks the operations of the store, the meter and the ladder leave as they are.
-/

namespace Sys2Proof.Machine

@[simp] theorem Stn.joinReady_frame (s : Stn) (p : Priority) (serial : Serial) :
    (Stn.joinReady s p serial).ctl = s.ctl ∧ (Stn.joinReady s p serial).intake = s.intake ∧
    (Stn.joinReady s p serial).req = s.req ∧ (Stn.joinReady s p serial).subs = s.subs ∧ (Stn.joinReady s
    p serial).air = s.air ∧ (Stn.joinReady s p serial).ret = s.ret ∧ (Stn.joinReady s p
    serial).meter = s.meter ∧ (Stn.joinReady s p serial).bill = s.bill ∧ (Stn.joinReady s p
    serial).bus = s.bus ∧ (Stn.joinReady s p serial).cust = s.cust := by
  refine ⟨?_, ?_, ?_, ?_, ?_, ?_, ?_, ?_, ?_, ?_⟩ <;>
    (unfold Stn.joinReady; repeat' split) <;> simp

@[simp] theorem Stn.leaveReady_frame (s : Stn) (serial : Serial) :
    (Stn.leaveReady s serial).ctl = s.ctl ∧ (Stn.leaveReady s serial).intake = s.intake ∧
    (Stn.leaveReady s serial).req = s.req ∧ (Stn.leaveReady s serial).subs = s.subs ∧ (Stn.leaveReady s
    serial).air = s.air ∧ (Stn.leaveReady s serial).ret = s.ret ∧ (Stn.leaveReady s
    serial).meter = s.meter ∧ (Stn.leaveReady s serial).bill = s.bill ∧ (Stn.leaveReady s
    serial).bus = s.bus ∧ (Stn.leaveReady s serial).cust = s.cust :=
  ⟨rfl, rfl, rfl, rfl, rfl, rfl, rfl, rfl, rfl, rfl⟩

@[simp] theorem Stn.makeReady_frame (s : Stn) (serial : Serial) :
    (Stn.makeReady s serial).ctl = s.ctl ∧ (Stn.makeReady s serial).intake = s.intake ∧ (Stn.makeReady s
    serial).req = s.req ∧ (Stn.makeReady s serial).subs = s.subs ∧ (Stn.makeReady s serial).air = s.air
    ∧ (Stn.makeReady s serial).ret = s.ret ∧ (Stn.makeReady s serial).meter = s.meter ∧ (Stn.makeReady s
    serial).bill = s.bill ∧ (Stn.makeReady s serial).bus = s.bus ∧ (Stn.makeReady s
    serial).cust = s.cust := by
  refine ⟨?_, ?_, ?_, ?_, ?_, ?_, ?_, ?_, ?_, ?_⟩ <;>
    (unfold Stn.makeReady; repeat' split) <;> simp

@[simp] theorem Stn.placeInQueue_frame (s : Stn) (sub : Nat) (p : Priority) (serial : Serial) :
    (Stn.placeInQueue s sub p serial).ctl = s.ctl ∧ (Stn.placeInQueue s sub p serial).intake = s.intake
    ∧ (Stn.placeInQueue s sub p serial).req = s.req ∧ (Stn.placeInQueue s sub p serial).air = s.air ∧
    (Stn.placeInQueue s sub p serial).ret = s.ret ∧ (Stn.placeInQueue s sub p serial).meter = s.meter ∧
    (Stn.placeInQueue s sub p serial).bill = s.bill ∧ (Stn.placeInQueue s sub p serial).bus = s.bus ∧
    (Stn.placeInQueue s sub p serial).cust = s.cust := by
  refine ⟨?_, ?_, ?_, ?_, ?_, ?_, ?_, ?_, ?_⟩ <;>
    (unfold Stn.placeInQueue; repeat' split) <;> simp

@[simp] theorem Stn.acceptMessage_frame (s : Stn) (sub : Nat) (p : Priority) (origin : MsgOrigin) (body
    : List Byte) (reserved : Nat) :
    (Stn.acceptMessage s sub p origin body reserved).ctl = s.ctl ∧ (Stn.acceptMessage s sub p origin
    body reserved).intake = s.intake ∧ (Stn.acceptMessage s sub p origin body reserved).req = s.req ∧
    (Stn.acceptMessage s sub p origin body reserved).air = s.air ∧ (Stn.acceptMessage s sub p origin
    body reserved).ret = s.ret ∧ (Stn.acceptMessage s sub p origin body reserved).meter = s.meter ∧
    (Stn.acceptMessage s sub p origin body reserved).bill = s.bill ∧ (Stn.acceptMessage s sub p origin
    body reserved).bus = s.bus ∧ (Stn.acceptMessage s sub p origin body reserved).cust = s.cust := by
  refine ⟨?_, ?_, ?_, ?_, ?_, ?_, ?_, ?_, ?_⟩ <;>
    simp [Stn.acceptMessage]

@[simp] theorem Stn.updMeter_frame (s : Stn) (sub : Nat) (f : MeterFields → MeterFields) :
    (Stn.updMeter s sub f).ctl = s.ctl ∧ (Stn.updMeter s sub f).intake = s.intake ∧ (Stn.updMeter s sub
    f).req = s.req ∧ (Stn.updMeter s sub f).store = s.store ∧ (Stn.updMeter s sub f).air = s.air ∧
    (Stn.updMeter s sub f).ret = s.ret ∧ (Stn.updMeter s sub f).meter = s.meter ∧ (Stn.updMeter s sub
    f).bill = s.bill ∧ (Stn.updMeter s sub f).bus = s.bus ∧ (Stn.updMeter s sub f).cust = s.cust :=
  ⟨rfl, rfl, rfl, rfl, rfl, rfl, rfl, rfl, rfl, rfl⟩

@[simp] theorem Stn.writeOff_frame (s : Stn) (n : Nat) :
    (Stn.writeOff s n).ctl = s.ctl ∧ (Stn.writeOff s n).intake = s.intake ∧ (Stn.writeOff s
    n).req = s.req ∧ (Stn.writeOff s n).subs = s.subs ∧ (Stn.writeOff s n).store = s.store ∧
    (Stn.writeOff s n).air = s.air ∧ (Stn.writeOff s n).ret = s.ret ∧ (Stn.writeOff s n).bill = s.bill ∧
    (Stn.writeOff s n).bus = s.bus ∧ (Stn.writeOff s n).cust = s.cust :=
  ⟨rfl, rfl, rfl, rfl, rfl, rfl, rfl, rfl, rfl, rfl⟩

@[simp] theorem Stn.setService_frame (s : Stn) (sub : Nat) (v : Service) :
    (Stn.setService s sub v).ctl = s.ctl ∧ (Stn.setService s sub v).intake = s.intake ∧ (Stn.setService
    s sub v).req = s.req ∧ (Stn.setService s sub v).store = s.store ∧ (Stn.setService s sub
    v).air = s.air ∧ (Stn.setService s sub v).ret = s.ret ∧ (Stn.setService s sub v).meter = s.meter ∧
    (Stn.setService s sub v).bill = s.bill ∧ (Stn.setService s sub v).cust = s.cust := by
  refine ⟨?_, ?_, ?_, ?_, ?_, ?_, ?_, ?_, ?_⟩ <;>
    simp [Stn.setService]

@[simp] theorem Stn.rollTest_frame (s : Stn) (sub : Nat) :
    (Stn.rollTest s sub).ctl = s.ctl ∧ (Stn.rollTest s sub).intake = s.intake ∧ (Stn.rollTest s
    sub).req = s.req ∧ (Stn.rollTest s sub).store = s.store ∧ (Stn.rollTest s sub).air = s.air ∧
    (Stn.rollTest s sub).ret = s.ret ∧ (Stn.rollTest s sub).meter = s.meter ∧ (Stn.rollTest s
    sub).bill = s.bill ∧ (Stn.rollTest s sub).cust = s.cust := by
  refine ⟨?_, ?_, ?_, ?_, ?_, ?_, ?_, ?_, ?_⟩ <;>
    (unfold Stn.rollTest; repeat' split) <;> simp

@[simp] theorem Stn.roll_frame (s : Stn) (sub : Nat) :
    (Stn.roll s sub).ctl = s.ctl ∧ (Stn.roll s sub).intake = s.intake ∧ (Stn.roll s sub).req = s.req ∧
    (Stn.roll s sub).store = s.store ∧ (Stn.roll s sub).air = s.air ∧ (Stn.roll s sub).ret = s.ret ∧
    (Stn.roll s sub).bill = s.bill ∧ (Stn.roll s sub).cust = s.cust := by
  refine ⟨?_, ?_, ?_, ?_, ?_, ?_, ?_, ?_⟩ <;>
    (unfold Stn.roll; repeat' split) <;> simp

/-- A created notice: the store and the subscriber's queue change, nothing else. -/
theorem Stn.createNotice_frame {s s' : Stn} {sub : Nat} (h : s.createNotice sub = some s') :
    s'.ctl = s.ctl ∧ s'.intake = s.intake ∧ s'.req = s.req ∧ s'.air = s.air ∧ s'.ret = s.ret ∧
    s'.meter = s.meter ∧ s'.bill = s.bill ∧ s'.bus = s.bus ∧ s'.cust = s.cust := by
  unfold Stn.createNotice at h
  split at h
  · cases h; simp
  · cases h

@[simp] theorem Stn.offerNotice_frame (s : Stn) (sub : Nat) :
    (Stn.offerNotice s sub).ctl = s.ctl ∧ (Stn.offerNotice s sub).intake = s.intake ∧ (Stn.offerNotice s
    sub).req = s.req ∧ (Stn.offerNotice s sub).air = s.air ∧ (Stn.offerNotice s sub).ret = s.ret ∧
    (Stn.offerNotice s sub).meter = s.meter ∧ (Stn.offerNotice s sub).bill = s.bill ∧ (Stn.offerNotice s
    sub).bus = s.bus ∧ (Stn.offerNotice s sub).cust = s.cust := by
  refine ⟨?_, ?_, ?_, ?_, ?_, ?_, ?_, ?_, ?_⟩ <;>
    (unfold Stn.offerNotice
     split
     · rename_i h; simp [Stn.createNotice_frame h]
     · simp)

@[simp] theorem Stn.noticeTest_frame (s : Stn) (sub : Nat) :
    (Stn.noticeTest s sub).ctl = s.ctl ∧ (Stn.noticeTest s sub).intake = s.intake ∧ (Stn.noticeTest s
    sub).req = s.req ∧ (Stn.noticeTest s sub).air = s.air ∧ (Stn.noticeTest s sub).ret = s.ret ∧
    (Stn.noticeTest s sub).meter = s.meter ∧ (Stn.noticeTest s sub).bill = s.bill ∧ (Stn.noticeTest s
    sub).bus = s.bus ∧ (Stn.noticeTest s sub).cust = s.cust := by
  refine ⟨?_, ?_, ?_, ?_, ?_, ?_, ?_, ?_, ?_⟩ <;>
    (unfold Stn.noticeTest; repeat' split) <;> simp

@[simp] theorem Stn.reserve_frame (s : Stn) (sub : Nat) (charge : Nat) :
    (Stn.reserve s sub charge).ctl = s.ctl ∧ (Stn.reserve s sub charge).intake = s.intake ∧ (Stn.reserve
    s sub charge).req = s.req ∧ (Stn.reserve s sub charge).air = s.air ∧ (Stn.reserve s sub
    charge).ret = s.ret ∧ (Stn.reserve s sub charge).meter = s.meter ∧ (Stn.reserve s sub
    charge).bill = s.bill ∧ (Stn.reserve s sub charge).bus = s.bus ∧ (Stn.reserve s sub
    charge).cust = s.cust := by
  refine ⟨?_, ?_, ?_, ?_, ?_, ?_, ?_, ?_, ?_⟩ <;>
    simp [Stn.reserve]

@[simp] theorem Stn.settle_frame (s : Stn) (sub : Nat) (origin : MsgOrigin) (reserved : Nat) (o :
    Outcome) (transmissions : Nat) :
    (Stn.settle s sub origin reserved o transmissions).ctl = s.ctl ∧ (Stn.settle s sub origin reserved o
    transmissions).intake = s.intake ∧ (Stn.settle s sub origin reserved o transmissions).req = s.req ∧
    (Stn.settle s sub origin reserved o transmissions).air = s.air ∧ (Stn.settle s sub origin reserved o
    transmissions).ret = s.ret ∧ (Stn.settle s sub origin reserved o transmissions).bill = s.bill ∧
    (Stn.settle s sub origin reserved o transmissions).cust = s.cust := by
  refine ⟨?_, ?_, ?_, ?_, ?_, ?_, ?_⟩ <;>
    (unfold Stn.settle; dsimp only; repeat' split) <;> simp

@[simp] theorem Stn.emptyClaim_frame (s : Stn) (serial : Serial) :
    (Stn.emptyClaim s serial).ctl = s.ctl ∧ (Stn.emptyClaim s serial).intake = s.intake ∧
    (Stn.emptyClaim s serial).req = s.req ∧ (Stn.emptyClaim s serial).subs = s.subs ∧ (Stn.emptyClaim s
    serial).store = s.store ∧ (Stn.emptyClaim s serial).ret = s.ret ∧ (Stn.emptyClaim s
    serial).meter = s.meter ∧ (Stn.emptyClaim s serial).bill = s.bill ∧ (Stn.emptyClaim s
    serial).bus = s.bus ∧ (Stn.emptyClaim s serial).cust = s.cust :=
  ⟨rfl, rfl, rfl, rfl, rfl, rfl, rfl, rfl, rfl, rfl⟩

@[simp] theorem Stn.removePage_frame (s : Stn) (serial : Serial) :
    (Stn.removePage s serial).ctl = s.ctl ∧ (Stn.removePage s serial).intake = s.intake ∧
    (Stn.removePage s serial).req = s.req ∧ (Stn.removePage s serial).subs = s.subs ∧ (Stn.removePage s
    serial).store = s.store ∧ (Stn.removePage s serial).ret = s.ret ∧ (Stn.removePage s
    serial).meter = s.meter ∧ (Stn.removePage s serial).bill = s.bill ∧ (Stn.removePage s
    serial).bus = s.bus ∧ (Stn.removePage s serial).cust = s.cust :=
  ⟨rfl, rfl, rfl, rfl, rfl, rfl, rfl, rfl, rfl, rfl⟩

@[simp] theorem Stn.leaveFlight_frame (s : Stn) (m : Message) :
    (Stn.leaveFlight s m).ctl = s.ctl ∧ (Stn.leaveFlight s m).intake = s.intake ∧ (Stn.leaveFlight s
    m).req = s.req ∧ (Stn.leaveFlight s m).subs = s.subs ∧ (Stn.leaveFlight s m).ret = s.ret ∧
    (Stn.leaveFlight s m).meter = s.meter ∧ (Stn.leaveFlight s m).bill = s.bill ∧ (Stn.leaveFlight s
    m).bus = s.bus ∧ (Stn.leaveFlight s m).cust = s.cust := by
  refine ⟨?_, ?_, ?_, ?_, ?_, ?_, ?_, ?_, ?_⟩ <;>
    (unfold Stn.leaveFlight; repeat' split) <;> simp

@[simp] theorem Stn.promoteHead_frame (s : Stn) (sub : Nat) :
    (Stn.promoteHead s sub).ctl = s.ctl ∧ (Stn.promoteHead s sub).intake = s.intake ∧ (Stn.promoteHead s
    sub).req = s.req ∧ (Stn.promoteHead s sub).subs = s.subs ∧ (Stn.promoteHead s sub).air = s.air ∧
    (Stn.promoteHead s sub).ret = s.ret ∧ (Stn.promoteHead s sub).meter = s.meter ∧ (Stn.promoteHead s
    sub).bill = s.bill ∧ (Stn.promoteHead s sub).bus = s.bus ∧ (Stn.promoteHead s sub).cust = s.cust := by
  refine ⟨?_, ?_, ?_, ?_, ?_, ?_, ?_, ?_, ?_, ?_⟩ <;>
    (unfold Stn.promoteHead; repeat' split) <;> simp

@[simp] theorem Stn.finalOutcome_frame (s : Stn) (serial : Serial) (o : Outcome) :
    (Stn.finalOutcome s serial o).ctl = s.ctl ∧ (Stn.finalOutcome s serial o).intake = s.intake ∧
    (Stn.finalOutcome s serial o).req = s.req ∧ (Stn.finalOutcome s serial o).ret = s.ret ∧
    (Stn.finalOutcome s serial o).bill = s.bill ∧ (Stn.finalOutcome s serial o).cust = s.cust := by
  refine ⟨?_, ?_, ?_, ?_, ?_, ?_⟩ <;>
    (unfold Stn.finalOutcome; repeat' split) <;> simp

@[simp] theorem Stn.readyWith_frame (s : Stn) (serial : Serial) (l : Ladder) :
    (Stn.readyWith s serial l).ctl = s.ctl ∧ (Stn.readyWith s serial l).intake = s.intake ∧
    (Stn.readyWith s serial l).req = s.req ∧ (Stn.readyWith s serial l).subs = s.subs ∧ (Stn.readyWith s
    serial l).air = s.air ∧ (Stn.readyWith s serial l).ret = s.ret ∧ (Stn.readyWith s serial
    l).meter = s.meter ∧ (Stn.readyWith s serial l).bill = s.bill ∧ (Stn.readyWith s serial
    l).bus = s.bus ∧ (Stn.readyWith s serial l).cust = s.cust := by
  refine ⟨?_, ?_, ?_, ?_, ?_, ?_, ?_, ?_, ?_, ?_⟩ <;>
    simp [Stn.readyWith]

@[simp] theorem Stn.endWait_frame (s : Stn) (serial : Serial) (register : Bool) :
    (Stn.endWait s serial register).ctl = s.ctl ∧ (Stn.endWait s serial register).intake = s.intake ∧
    (Stn.endWait s serial register).req = s.req ∧ (Stn.endWait s serial register).ret = s.ret ∧
    (Stn.endWait s serial register).bill = s.bill ∧ (Stn.endWait s serial register).cust = s.cust := by
  refine ⟨?_, ?_, ?_, ?_, ?_, ?_⟩ <;>
    (unfold Stn.endWait; repeat' split) <;> simp

@[simp] theorem Stn.endHold_frame (s : Stn) (serial : Serial) :
    (Stn.endHold s serial).ctl = s.ctl ∧ (Stn.endHold s serial).intake = s.intake ∧ (Stn.endHold s
    serial).req = s.req ∧ (Stn.endHold s serial).subs = s.subs ∧ (Stn.endHold s serial).air = s.air ∧
    (Stn.endHold s serial).ret = s.ret ∧ (Stn.endHold s serial).meter = s.meter ∧ (Stn.endHold s
    serial).bill = s.bill ∧ (Stn.endHold s serial).bus = s.bus ∧ (Stn.endHold s serial).cust = s.cust := by
  refine ⟨?_, ?_, ?_, ?_, ?_, ?_, ?_, ?_, ?_, ?_⟩ <;>
    (unfold Stn.endHold; repeat' split) <;> simp

@[simp] theorem Stn.endCount_frame (s : Stn) (serial : Serial) :
    (Stn.endCount s serial).ctl = s.ctl ∧ (Stn.endCount s serial).intake = s.intake ∧ (Stn.endCount s
    serial).req = s.req ∧ (Stn.endCount s serial).ret = s.ret ∧ (Stn.endCount s serial).bill = s.bill ∧
    (Stn.endCount s serial).cust = s.cust := by
  refine ⟨?_, ?_, ?_, ?_, ?_, ?_⟩ <;>
    (unfold Stn.endCount; repeat' split) <;> simp

@[simp] theorem Stn.countDown_frame (s : Stn) :
    (Stn.countDown s).ctl = s.ctl ∧ (Stn.countDown s).intake = s.intake ∧ (Stn.countDown s).req = s.req
    ∧ (Stn.countDown s).subs = s.subs ∧ (Stn.countDown s).air = s.air ∧ (Stn.countDown s).ret = s.ret ∧
    (Stn.countDown s).meter = s.meter ∧ (Stn.countDown s).bill = s.bill ∧ (Stn.countDown s).bus = s.bus
    ∧ (Stn.countDown s).cust = s.cust :=
  ⟨rfl, rfl, rfl, rfl, rfl, rfl, rfl, rfl, rfl, rfl⟩

@[simp] theorem Stn.expire_frame (s : Stn) (f : FrameNo) (serial : Serial) :
    (Stn.expire s f serial).ctl = s.ctl ∧ (Stn.expire s f serial).intake = s.intake ∧ (Stn.expire s f
    serial).req = s.req ∧ (Stn.expire s f serial).ret = s.ret ∧ (Stn.expire s f serial).bill = s.bill ∧
    (Stn.expire s f serial).cust = s.cust := by
  refine ⟨?_, ?_, ?_, ?_, ?_, ?_⟩ <;>
    (unfold Stn.expire; repeat' split) <;> simp

@[simp] theorem Stn.airFrameStart_frame (s : Stn) (f : FrameNo) (order : List Serial) :
    (Stn.airFrameStart s f order).ctl = s.ctl ∧ (Stn.airFrameStart s f order).intake = s.intake ∧
    (Stn.airFrameStart s f order).req = s.req ∧ (Stn.airFrameStart s f order).ret = s.ret ∧
    (Stn.airFrameStart s f order).bill = s.bill ∧ (Stn.airFrameStart s f order).cust = s.cust := by
  refine ⟨?_, ?_, ?_, ?_, ?_, ?_⟩ <;>
    simp [Stn.airFrameStart]

@[simp] theorem Stn.advance_frame (s : Stn) (serial : Serial) :
    (Stn.advance s serial).ctl = s.ctl ∧ (Stn.advance s serial).intake = s.intake ∧ (Stn.advance s
    serial).req = s.req ∧ (Stn.advance s serial).ret = s.ret ∧ (Stn.advance s serial).bill = s.bill ∧
    (Stn.advance s serial).cust = s.cust := by
  refine ⟨?_, ?_, ?_, ?_, ?_, ?_⟩ <;>
    (unfold Stn.advance; dsimp only; repeat' split) <;> simp

@[simp] theorem Stn.complete_frame (s : Stn) (serial : Serial) :
    (Stn.complete s serial).ctl = s.ctl ∧ (Stn.complete s serial).intake = s.intake ∧ (Stn.complete s
    serial).req = s.req ∧ (Stn.complete s serial).ret = s.ret ∧ (Stn.complete s serial).bill = s.bill ∧
    (Stn.complete s serial).cust = s.cust := by
  refine ⟨?_, ?_, ?_, ?_, ?_, ?_⟩ <;>
    (unfold Stn.complete; repeat' split) <;> simp

@[simp] theorem Stn.completePage_frame (s : Stn) (serial : Serial) :
    (Stn.completePage s serial).ctl = s.ctl ∧ (Stn.completePage s serial).intake = s.intake ∧
    (Stn.completePage s serial).req = s.req ∧ (Stn.completePage s serial).ret = s.ret ∧
    (Stn.completePage s serial).bill = s.bill ∧ (Stn.completePage s serial).cust = s.cust := by
  refine ⟨?_, ?_, ?_, ?_, ?_, ?_⟩ <;>
    simp [Stn.completePage]

end Sys2Proof.Machine
end

