-- ==== Sys2Proof/Laws/Billing.lean ====
section
/-!
SUPPORT. Which blocks the grant, the walks of the table and the Billing Unit leave as they are.
-/

namespace Sys2Proof.Machine

@[simp] theorem Stn.advanceReturn_frame (s : Stn) :
    (Stn.advanceReturn s).ctl = s.ctl ∧ (Stn.advanceReturn s).intake = s.intake ∧ (Stn.advanceReturn
    s).req = s.req ∧ (Stn.advanceReturn s).store = s.store ∧ (Stn.advanceReturn s).air = s.air ∧
    (Stn.advanceReturn s).ret = s.ret ∧ (Stn.advanceReturn s).meter = s.meter ∧ (Stn.advanceReturn
    s).bill = s.bill ∧ (Stn.advanceReturn s).bus = s.bus ∧ (Stn.advanceReturn s).cust = s.cust := by
  refine ⟨?_, ?_, ?_, ?_, ?_, ?_, ?_, ?_, ?_, ?_⟩ <;>
    (unfold Stn.advanceReturn; repeat' split) <;> simp

@[simp] theorem Stn.startReturn_frame (s : Stn) :
    (Stn.startReturn s).ctl = s.ctl ∧ (Stn.startReturn s).intake = s.intake ∧ (Stn.startReturn
    s).req = s.req ∧ (Stn.startReturn s).store = s.store ∧ (Stn.startReturn s).air = s.air ∧
    (Stn.startReturn s).ret = s.ret ∧ (Stn.startReturn s).meter = s.meter ∧ (Stn.startReturn
    s).bill = s.bill ∧ (Stn.startReturn s).bus = s.bus ∧ (Stn.startReturn s).cust = s.cust := by
  refine ⟨?_, ?_, ?_, ?_, ?_, ?_, ?_, ?_, ?_, ?_⟩ <;>
    simp [Stn.startReturn]

@[simp] theorem Stn.startDrain_frame (s : Stn) (p : Period) :
    (Stn.startDrain s p).ctl = s.ctl ∧ (Stn.startDrain s p).intake = s.intake ∧ (Stn.startDrain s
    p).req = s.req ∧ (Stn.startDrain s p).store = s.store ∧ (Stn.startDrain s p).air = s.air ∧
    (Stn.startDrain s p).ret = s.ret ∧ (Stn.startDrain s p).meter = s.meter ∧ (Stn.startDrain s
    p).bus = s.bus ∧ (Stn.startDrain s p).cust = s.cust :=
  ⟨rfl, rfl, rfl, rfl, rfl, rfl, rfl, rfl, rfl⟩

@[simp] theorem Stn.releaseGrant_frame (s : Stn) :
    (Stn.releaseGrant s).ctl = s.ctl ∧ (Stn.releaseGrant s).intake = s.intake ∧ (Stn.releaseGrant
    s).req = s.req ∧ (Stn.releaseGrant s).store = s.store ∧ (Stn.releaseGrant s).air = s.air ∧
    (Stn.releaseGrant s).ret = s.ret ∧ (Stn.releaseGrant s).meter = s.meter ∧ (Stn.releaseGrant
    s).bus = s.bus ∧ (Stn.releaseGrant s).cust = s.cust := by
  refine ⟨?_, ?_, ?_, ?_, ?_, ?_, ?_, ?_, ?_⟩ <;>
    (unfold Stn.releaseGrant; repeat' split) <;> simp

@[simp] theorem Stn.settleEntry_frame (scale : Nat) (s : Stn) (e : FormEntry) :
    (Stn.settleEntry scale s e).ctl = s.ctl ∧ (Stn.settleEntry scale s e).intake = s.intake ∧
    (Stn.settleEntry scale s e).req = s.req ∧ (Stn.settleEntry scale s e).store = s.store ∧
    (Stn.settleEntry scale s e).air = s.air ∧ (Stn.settleEntry scale s e).ret = s.ret ∧ (Stn.settleEntry
    scale s e).bus = s.bus ∧ (Stn.settleEntry scale s e).cust = s.cust := by
  refine ⟨?_, ?_, ?_, ?_, ?_, ?_, ?_, ?_⟩ <;>
    (unfold Stn.settleEntry; repeat' split) <;> simp

@[simp] theorem Stn.numberBlock_frame (s : Stn) (p : Period) :
    (s.numberBlock p).2.ctl = s.ctl ∧ (s.numberBlock p).2.intake = s.intake ∧
    (s.numberBlock p).2.req = s.req ∧ (s.numberBlock p).2.subs = s.subs ∧
    (s.numberBlock p).2.store = s.store ∧ (s.numberBlock p).2.air = s.air ∧
    (s.numberBlock p).2.ret = s.ret ∧ (s.numberBlock p).2.meter = s.meter ∧
    (s.numberBlock p).2.bus = s.bus ∧ (s.numberBlock p).2.cust = s.cust := by
  unfold Stn.numberBlock
  split <;> simp

@[simp] theorem Stn.formBlock_frame (s : Stn) (es : List FormEntry) (p : Period) :
    (Stn.formBlock s es p).ctl = s.ctl ∧ (Stn.formBlock s es p).intake = s.intake ∧ (Stn.formBlock s es
    p).req = s.req ∧ (Stn.formBlock s es p).store = s.store ∧ (Stn.formBlock s es p).air = s.air ∧
    (Stn.formBlock s es p).ret = s.ret ∧ (Stn.formBlock s es p).bus = s.bus ∧ (Stn.formBlock s es
    p).cust = s.cust := by
  refine ⟨?_, ?_, ?_, ?_, ?_, ?_, ?_, ?_⟩ <;>
    simp [Stn.formBlock]

@[simp] theorem Stn.endDrain_frame (s : Stn) :
    (Stn.endDrain s).ctl = s.ctl ∧ (Stn.endDrain s).intake = s.intake ∧ (Stn.endDrain s).req = s.req ∧
    (Stn.endDrain s).store = s.store ∧ (Stn.endDrain s).air = s.air ∧ (Stn.endDrain s).ret = s.ret ∧
    (Stn.endDrain s).meter = s.meter ∧ (Stn.endDrain s).bus = s.bus ∧ (Stn.endDrain s).cust = s.cust := by
  refine ⟨?_, ?_, ?_, ?_, ?_, ?_, ?_, ?_, ?_⟩ <;>
    simp [Stn.endDrain]

@[simp] theorem Stn.formWalkBlock_frame (s : Stn) :
    (Stn.formWalkBlock s).ctl = s.ctl ∧ (Stn.formWalkBlock s).intake = s.intake ∧ (Stn.formWalkBlock
    s).req = s.req ∧ (Stn.formWalkBlock s).store = s.store ∧ (Stn.formWalkBlock s).air = s.air ∧
    (Stn.formWalkBlock s).ret = s.ret ∧ (Stn.formWalkBlock s).bus = s.bus ∧ (Stn.formWalkBlock
    s).cust = s.cust := by
  refine ⟨?_, ?_, ?_, ?_, ?_, ?_, ?_, ?_⟩ <;>
    simp [Stn.formWalkBlock]

@[simp] theorem Stn.formOrPause_frame (s : Stn) (why : Pause) :
    (Stn.formOrPause s why).ctl = s.ctl ∧ (Stn.formOrPause s why).intake = s.intake ∧ (Stn.formOrPause s
    why).req = s.req ∧ (Stn.formOrPause s why).store = s.store ∧ (Stn.formOrPause s why).air = s.air ∧
    (Stn.formOrPause s why).ret = s.ret ∧ (Stn.formOrPause s why).bus = s.bus ∧ (Stn.formOrPause s
    why).cust = s.cust := by
  refine ⟨?_, ?_, ?_, ?_, ?_, ?_, ?_, ?_⟩ <;>
    (unfold Stn.formOrPause; repeat' split) <;> simp

@[simp] theorem Stn.drainRecord_frame (s : Stn) (sub : Nat) :
    (Stn.drainRecord s sub).ctl = s.ctl ∧ (Stn.drainRecord s sub).intake = s.intake ∧ (Stn.drainRecord s
    sub).req = s.req ∧ (Stn.drainRecord s sub).store = s.store ∧ (Stn.drainRecord s sub).air = s.air ∧
    (Stn.drainRecord s sub).ret = s.ret ∧ (Stn.drainRecord s sub).cust = s.cust := by
  refine ⟨?_, ?_, ?_, ?_, ?_, ?_, ?_⟩ <;>
    (unfold Stn.drainRecord; dsimp only; repeat' split) <;> simp

@[simp] theorem Stn.drainEnd_frame (s : Stn) :
    (Stn.drainEnd s).ctl = s.ctl ∧ (Stn.drainEnd s).intake = s.intake ∧ (Stn.drainEnd s).req = s.req ∧
    (Stn.drainEnd s).store = s.store ∧ (Stn.drainEnd s).air = s.air ∧ (Stn.drainEnd s).ret = s.ret ∧
    (Stn.drainEnd s).bus = s.bus ∧ (Stn.drainEnd s).cust = s.cust := by
  refine ⟨?_, ?_, ?_, ?_, ?_, ?_, ?_, ?_⟩ <;>
    (unfold Stn.drainEnd; repeat' split) <;> simp

@[simp] theorem Stn.drainVisit_frame (s : Stn) :
    (Stn.drainVisit s).ctl = s.ctl ∧ (Stn.drainVisit s).intake = s.intake ∧ (Stn.drainVisit
    s).req = s.req ∧ (Stn.drainVisit s).store = s.store ∧ (Stn.drainVisit s).air = s.air ∧
    (Stn.drainVisit s).ret = s.ret ∧ (Stn.drainVisit s).cust = s.cust := by
  refine ⟨?_, ?_, ?_, ?_, ?_, ?_, ?_⟩ <;>
    (unfold Stn.drainVisit; repeat' split) <;> simp

@[simp] theorem Stn.resumeDrain_frame (s : Stn) :
    (Stn.resumeDrain s).ctl = s.ctl ∧ (Stn.resumeDrain s).intake = s.intake ∧ (Stn.resumeDrain
    s).req = s.req ∧ (Stn.resumeDrain s).store = s.store ∧ (Stn.resumeDrain s).air = s.air ∧
    (Stn.resumeDrain s).ret = s.ret ∧ (Stn.resumeDrain s).bus = s.bus ∧ (Stn.resumeDrain
    s).cust = s.cust := by
  refine ⟨?_, ?_, ?_, ?_, ?_, ?_, ?_, ?_⟩ <;>
    (unfold Stn.resumeDrain; dsimp only; repeat' split) <;> simp

@[simp] theorem Stn.billingStart_frame (s : Stn) (accept : Bool) :
    (Stn.billingStart s accept).ctl = s.ctl ∧ (Stn.billingStart s accept).intake = s.intake ∧
    (Stn.billingStart s accept).req = s.req ∧ (Stn.billingStart s accept).subs = s.subs ∧
    (Stn.billingStart s accept).store = s.store ∧ (Stn.billingStart s accept).air = s.air ∧
    (Stn.billingStart s accept).ret = s.ret ∧ (Stn.billingStart s accept).meter = s.meter ∧
    (Stn.billingStart s accept).bus = s.bus ∧ (Stn.billingStart s accept).cust = s.cust := by
  refine ⟨?_, ?_, ?_, ?_, ?_, ?_, ?_, ?_, ?_, ?_⟩ <;>
    (unfold Stn.billingStart; repeat' split) <;> simp

@[simp] theorem Stn.billingSent_frame (s : Stn) :
    (Stn.billingSent s).ctl = s.ctl ∧ (Stn.billingSent s).intake = s.intake ∧ (Stn.billingSent
    s).req = s.req ∧ (Stn.billingSent s).store = s.store ∧ (Stn.billingSent s).air = s.air ∧
    (Stn.billingSent s).ret = s.ret ∧ (Stn.billingSent s).bus = s.bus ∧ (Stn.billingSent
    s).cust = s.cust := by
  refine ⟨?_, ?_, ?_, ?_, ?_, ?_, ?_, ?_⟩ <;>
    (unfold Stn.billingSent; repeat' split) <;> simp

end Sys2Proof.Machine
end

