-- ==== Sys2Proof/Laws/Requests.lean ====
section
/-!
SUPPORT. Which blocks the lines, an execution and the pending request table leave as they are.
-/

namespace Sys2Proof.Machine

@[simp] theorem Stn.updLine_frame (s : Stn) (l : LineNo) (f : Line → Line) :
    (Stn.updLine s l f).ctl = s.ctl ∧ (Stn.updLine s l f).req = s.req ∧ (Stn.updLine s l
    f).subs = s.subs ∧ (Stn.updLine s l f).store = s.store ∧ (Stn.updLine s l f).air = s.air ∧
    (Stn.updLine s l f).ret = s.ret ∧ (Stn.updLine s l f).meter = s.meter ∧ (Stn.updLine s l
    f).bill = s.bill ∧ (Stn.updLine s l f).bus = s.bus ∧ (Stn.updLine s l f).cust = s.cust :=
  ⟨rfl, rfl, rfl, rfl, rfl, rfl, rfl, rfl, rfl, rfl⟩

@[simp] theorem Stn.takeRefusal_frame (s : Stn) (l : LineNo) :
    (Stn.takeRefusal s l).ctl = s.ctl ∧ (Stn.takeRefusal s l).req = s.req ∧ (Stn.takeRefusal s
    l).subs = s.subs ∧ (Stn.takeRefusal s l).store = s.store ∧ (Stn.takeRefusal s l).air = s.air ∧
    (Stn.takeRefusal s l).ret = s.ret ∧ (Stn.takeRefusal s l).meter = s.meter ∧ (Stn.takeRefusal s
    l).bill = s.bill ∧ (Stn.takeRefusal s l).bus = s.bus ∧ (Stn.takeRefusal s l).cust = s.cust := by
  refine ⟨?_, ?_, ?_, ?_, ?_, ?_, ?_, ?_, ?_, ?_⟩ <;>
    (unfold Stn.takeRefusal; repeat' split) <;> simp

@[simp] theorem Stn.moveService_frame (s : Stn) (r : Record) (v : Service) :
    (Stn.moveService s r v).ctl = s.ctl ∧ (Stn.moveService s r v).intake = s.intake ∧ (Stn.moveService s
    r v).req = s.req ∧ (Stn.moveService s r v).store = s.store ∧ (Stn.moveService s r v).air = s.air ∧
    (Stn.moveService s r v).ret = s.ret ∧ (Stn.moveService s r v).meter = s.meter ∧ (Stn.moveService s r
    v).bill = s.bill ∧ (Stn.moveService s r v).cust = s.cust := by
  refine ⟨?_, ?_, ?_, ?_, ?_, ?_, ?_, ?_, ?_⟩ <;>
    (unfold Stn.moveService; repeat' split) <;> simp

@[simp] theorem Stn.clearCounts_frame (s : Stn) :
    (Stn.clearCounts s).ctl = s.ctl ∧ (Stn.clearCounts s).req = s.req ∧ (Stn.clearCounts
    s).subs = s.subs ∧ (Stn.clearCounts s).store = s.store ∧ (Stn.clearCounts s).meter = s.meter ∧
    (Stn.clearCounts s).cust = s.cust :=
  ⟨rfl, rfl, rfl, rfl, rfl, rfl⟩

@[simp] theorem Stn.updPend_frame (s : Stn) (tag : Tag) (f : PendEntry → PendEntry) :
    (Stn.updPend s tag f).ctl = s.ctl ∧ (Stn.updPend s tag f).intake = s.intake ∧ (Stn.updPend s tag
    f).subs = s.subs ∧ (Stn.updPend s tag f).store = s.store ∧ (Stn.updPend s tag f).air = s.air ∧
    (Stn.updPend s tag f).ret = s.ret ∧ (Stn.updPend s tag f).meter = s.meter ∧ (Stn.updPend s tag
    f).bill = s.bill ∧ (Stn.updPend s tag f).bus = s.bus ∧ (Stn.updPend s tag f).cust = s.cust :=
  ⟨rfl, rfl, rfl, rfl, rfl, rfl, rfl, rfl, rfl, rfl⟩

@[simp] theorem Stn.freePend_frame (s : Stn) (tag : Tag) :
    (Stn.freePend s tag).ctl = s.ctl ∧ (Stn.freePend s tag).intake = s.intake ∧ (Stn.freePend s
    tag).subs = s.subs ∧ (Stn.freePend s tag).store = s.store ∧ (Stn.freePend s tag).air = s.air ∧
    (Stn.freePend s tag).ret = s.ret ∧ (Stn.freePend s tag).meter = s.meter ∧ (Stn.freePend s
    tag).bill = s.bill ∧ (Stn.freePend s tag).bus = s.bus ∧ (Stn.freePend s tag).cust = s.cust :=
  ⟨rfl, rfl, rfl, rfl, rfl, rfl, rfl, rfl, rfl, rfl⟩

@[simp] theorem Stn.offer_frame (s : Stn) (l : LineNo) (c : CtxNo) (gen : BitVec 8) (text : List Byte) :
    (Stn.offer s l c gen text).ctl = s.ctl ∧ (Stn.offer s l c gen text).req = s.req ∧ (Stn.offer s l c
    gen text).subs = s.subs ∧ (Stn.offer s l c gen text).store = s.store ∧ (Stn.offer s l c gen
    text).air = s.air ∧ (Stn.offer s l c gen text).ret = s.ret ∧ (Stn.offer s l c gen
    text).meter = s.meter ∧ (Stn.offer s l c gen text).bill = s.bill ∧ (Stn.offer s l c gen
    text).bus = s.bus ∧ (Stn.offer s l c gen text).cust = s.cust := by
  refine ⟨?_, ?_, ?_, ?_, ?_, ?_, ?_, ?_, ?_, ?_⟩ <;>
    (unfold Stn.offer; repeat' split) <;> simp

@[simp] theorem Stn.finish_frame (s : Stn) (tag : Tag) (text : List Byte) :
    (Stn.finish s tag text).ctl = s.ctl ∧ (Stn.finish s tag text).subs = s.subs ∧ (Stn.finish s tag
    text).store = s.store ∧ (Stn.finish s tag text).air = s.air ∧ (Stn.finish s tag text).ret = s.ret ∧
    (Stn.finish s tag text).meter = s.meter ∧ (Stn.finish s tag text).bill = s.bill ∧ (Stn.finish s tag
    text).bus = s.bus ∧ (Stn.finish s tag text).cust = s.cust := by
  refine ⟨?_, ?_, ?_, ?_, ?_, ?_, ?_, ?_, ?_⟩ <;>
    (unfold Stn.finish; repeat' split) <;> simp

@[simp] theorem Stn.dropForward_frame (s : Stn) (tag : Tag) :
    (Stn.dropForward s tag).ctl = s.ctl ∧ (Stn.dropForward s tag).intake = s.intake ∧ (Stn.dropForward s
    tag).req = s.req ∧ (Stn.dropForward s tag).subs = s.subs ∧ (Stn.dropForward s tag).store = s.store ∧
    (Stn.dropForward s tag).air = s.air ∧ (Stn.dropForward s tag).ret = s.ret ∧ (Stn.dropForward s
    tag).meter = s.meter ∧ (Stn.dropForward s tag).bill = s.bill ∧ (Stn.dropForward s tag).cust = s.cust :=
  ⟨rfl, rfl, rfl, rfl, rfl, rfl, rfl, rfl, rfl, rfl⟩

@[simp] theorem Stn.defer_frame (s : Stn) (tag : Tag) :
    (Stn.defer s tag).ctl = s.ctl ∧ (Stn.defer s tag).subs = s.subs ∧ (Stn.defer s tag).store = s.store
    ∧ (Stn.defer s tag).air = s.air ∧ (Stn.defer s tag).ret = s.ret ∧ (Stn.defer s tag).meter = s.meter
    ∧ (Stn.defer s tag).bill = s.bill ∧ (Stn.defer s tag).bus = s.bus ∧ (Stn.defer s tag).cust = s.cust := by
  refine ⟨?_, ?_, ?_, ?_, ?_, ?_, ?_, ?_, ?_⟩ <;>
    (unfold Stn.defer; repeat' split) <;> simp

/-- A cancel at the store. -/
@[simp] theorem Stn.cancel_frame (s : Stn) (serial : Serial) :
    (s.cancel serial).1.ctl = s.ctl ∧ (s.cancel serial).1.intake = s.intake ∧
    (s.cancel serial).1.req = s.req ∧ (s.cancel serial).1.ret = s.ret ∧
    (s.cancel serial).1.bill = s.bill ∧ (s.cancel serial).1.cust = s.cust := by
  refine ⟨?_, ?_, ?_, ?_, ?_, ?_⟩ <;> (unfold Stn.cancel; repeat' split) <;> simp

/-- A withdraw that is made. -/
theorem Stn.withdraw_frame {s s' : Stn} {r : Record} (h : s.withdraw r = .ok s') :
    s'.ctl = s.ctl ∧ s'.intake = s.intake ∧ s'.req = s.req ∧ s'.store = s.store ∧ s'.air = s.air ∧
    s'.ret = s.ret ∧ s'.cust = s.cust := by
  unfold Stn.withdraw at h
  split at h
  · cases h
  · split at h
    · cases h
    · split at h
      · cases h
      · simp only [Except.ok.injEq] at h
        subst h
        refine ⟨?_, ?_, ?_, ?_, ?_, ?_, ?_⟩ <;> (simp; split <;> simp)

/-- A period close that is accepted. -/
theorem Stn.periodClose_frame {s s' : Stn} (h : s.periodClose = .ok s') :
    s'.ctl = s.ctl ∧ s'.intake = s.intake ∧ s'.req = s.req ∧ s'.store = s.store ∧ s'.air = s.air ∧
    s'.ret = s.ret ∧ s'.meter = s.meter ∧ s'.bus = s.bus ∧ s'.cust = s.cust := by
  unfold Stn.periodClose at h
  split at h
  · cases h
  · simp only [Except.ok.injEq] at h
    subst h
    simp

/-- An execution against a record or a receipt: the controller, the pending table and the office map stay,
where what is done on FOUND and on ABSENT leaves them. -/
theorem Stn.serve_frame (s : Stn) (sub : Nat) (onFound : Record → Stn × Result)
    (onAbsent : Station → Stn × Result)
    (hf : ∀ r, (onFound r).1.ctl = s.ctl ∧ (onFound r).1.req = s.req ∧ (onFound r).1.cust = s.cust)
    (ha : ∀ h, (onAbsent h).1.ctl = s.ctl ∧ (onAbsent h).1.req = s.req ∧ (onAbsent h).1.cust = s.cust) :
    (s.serve sub onFound onAbsent).1.ctl = s.ctl ∧ (s.serve sub onFound onAbsent).1.req = s.req ∧
      (s.serve sub onFound onAbsent).1.cust = s.cust := by
  unfold Stn.serve
  repeat' split
  all_goals first | exact ⟨rfl, rfl, rfl⟩ | exact hf _ | exact ha _

/-- An execution changes neither the controller nor the pending table nor the office map (section 5.4). -/
@[simp] theorem Stn.execute_frame (s : Stn) (q : Request) :
    (s.execute q).1.ctl = s.ctl ∧ (s.execute q).1.req = s.req ∧ (s.execute q).1.cust = s.cust := by
  cases q with
  | submit sub p body =>
    refine Stn.serve_frame s sub _ _ (fun r => ?_) (fun h => ⟨rfl, rfl, rfl⟩)
    unfold Stn.submitFound
    refine ⟨?_, ?_, ?_⟩ <;> (dsimp only; repeat' split) <;> simp
  | cancel k n =>
    simp only [Stn.execute, Stn.serveReceipt, Stn.cancelHere]
    refine ⟨?_, ?_, ?_⟩ <;> split <;> simp
  | query k n =>
    simp only [Stn.execute, Stn.serveReceipt]
    refine ⟨?_, ?_, ?_⟩ <;> split <;> rfl
  | enrol sub a k t p z q n =>
    refine Stn.serve_frame s sub _ _ (fun r => ⟨rfl, rfl, rfl⟩) (fun h => ?_)
    unfold Stn.enrolAbsent
    refine ⟨?_, ?_, ?_⟩ <;> (dsimp only; repeat' split) <;> simp
  | amend sub gs =>
    refine Stn.serve_frame s sub _ _ (fun r => ?_) (fun h => ⟨rfl, rfl, rfl⟩)
    unfold Stn.amendFound
    refine ⟨?_, ?_, ?_⟩ <;> (dsimp only; repeat' split) <;> simp
  | suspend sub =>
    refine Stn.serve_frame s sub _ _ (fun r => ?_) (fun h => ⟨rfl, rfl, rfl⟩)
    simp [Stn.suspendFound]
  | resume sub =>
    refine Stn.serve_frame s sub _ _ (fun r => ?_) (fun h => ⟨rfl, rfl, rfl⟩)
    simp [Stn.resumeFound]
  | withdraw sub =>
    refine Stn.serve_frame s sub _ _ (fun r => ?_) (fun h => ⟨rfl, rfl, rfl⟩)
    unfold Stn.withdrawFound
    split
    · rename_i h
      exact ⟨(Stn.withdraw_frame h).1, (Stn.withdraw_frame h).2.2.1, (Stn.withdraw_frame h).2.2.2.2.2.2⟩
    · exact ⟨rfl, rfl, rfl⟩
  | meterRead sub =>
    exact Stn.serve_frame s sub _ _ (fun r => ⟨rfl, rfl, rfl⟩) (fun h => ⟨rfl, rfl, rfl⟩)
  | periodClose =>
    simp only [Stn.execute]
    split
    · rename_i h
      simp [Stn.periodClose_frame h]
    · exact ⟨rfl, rfl, rfl⟩
  | status clear =>
    cases clear <;> simp [Stn.execute]

/-- A result is applied to its entry: the controller and the office map stay (R90, R91). -/
@[simp] theorem Stn.applyResult_frame (s : Stn) (tag : Tag) (res : Result) :
    (s.applyResult tag res).ctl = s.ctl ∧ (s.applyResult tag res).cust = s.cust := by
  refine ⟨?_, ?_⟩ <;> (unfold Stn.applyResult; repeat' split) <;> simp

@[simp] theorem Stn.runLocal_frame (w : Places) (s : Stn) (tag : Tag) :
    (Stn.runLocal w s tag).ctl = s.ctl ∧ (Stn.runLocal w s tag).cust = s.cust := by
  refine ⟨?_, ?_⟩ <;>
    (unfold Stn.runLocal; dsimp only; repeat' split) <;> simp

@[simp] theorem Stn.routeEntry_frame (s : Stn) (tag : Tag) :
    (Stn.routeEntry s tag).ctl = s.ctl ∧ (Stn.routeEntry s tag).cust = s.cust := by
  refine ⟨?_, ?_⟩ <;>
    (unfold Stn.routeEntry; repeat' split) <;> simp

@[simp] theorem Stn.handOff_frame (s : Stn) (l : LineNo) (c : CtxNo) (text : List Byte) (parsed : Except
    Word Request) :
    (Stn.handOff s l c text parsed).ctl = s.ctl ∧ (Stn.handOff s l c text parsed).cust = s.cust := by
  refine ⟨?_, ?_⟩ <;>
    (unfold Stn.handOff; repeat' split) <;> simp

@[simp] theorem Stn.takeHandOver_frame (s : Stn) (l : LineNo) :
    (Stn.takeHandOver s l).ctl = s.ctl ∧ (Stn.takeHandOver s l).cust = s.cust := by
  refine ⟨?_, ?_⟩ <;>
    (unfold Stn.takeHandOver; repeat' split) <;> simp

@[simp] theorem Stn.serveWaiting_frame (fuel : Nat) (s : Stn) :
    (Stn.serveWaiting fuel s).ctl = s.ctl ∧ (Stn.serveWaiting fuel s).cust = s.cust := by
  induction fuel generalizing s with
  | zero => exact ⟨rfl, rfl⟩
  | succ n ih =>
    unfold Stn.serveWaiting
    split
    · exact ⟨rfl, rfl⟩
    · split
      · simp [ih]
      · exact ⟨rfl, rfl⟩

@[simp] theorem Stn.settled_frame (s : Stn) :
    (Stn.settled s).ctl = s.ctl ∧ (Stn.settled s).cust = s.cust := by
  refine ⟨?_, ?_⟩ <;>
    simp [Stn.settled]

@[simp] theorem Stn.settledFrom_frame (s before : Stn) :
    (s.settledFrom before).ctl = s.ctl ∧ (s.settledFrom before).cust = s.cust := by
  simp [Stn.settledFrom]

@[simp] theorem Stn.offerHeld_frame (tags : List Tag) (l : LineNo) (s : Stn) :
    (Stn.offerHeld tags l s).ctl = s.ctl ∧ (Stn.offerHeld tags l s).subs = s.subs ∧
    (Stn.offerHeld tags l s).store = s.store ∧ (Stn.offerHeld tags l s).air = s.air ∧
    (Stn.offerHeld tags l s).ret = s.ret ∧ (Stn.offerHeld tags l s).meter = s.meter ∧
    (Stn.offerHeld tags l s).bill = s.bill ∧ (Stn.offerHeld tags l s).bus = s.bus ∧
    (Stn.offerHeld tags l s).cust = s.cust := by
  induction tags generalizing s with
  | nil => simp [Stn.offerHeld]
  | cons t ts ih =>
    refine ⟨?_, ?_, ?_, ?_, ?_, ?_, ?_, ?_, ?_⟩ <;> (unfold Stn.offerHeld; repeat' split) <;> simp [ih]

@[simp] theorem Stn.replyPlaceFreed_frame (s : Stn) (l : LineNo) :
    (Stn.replyPlaceFreed s l).ctl = s.ctl ∧ (Stn.replyPlaceFreed s l).subs = s.subs ∧
    (Stn.replyPlaceFreed s l).store = s.store ∧ (Stn.replyPlaceFreed s l).air = s.air ∧
    (Stn.replyPlaceFreed s l).ret = s.ret ∧ (Stn.replyPlaceFreed s l).meter = s.meter ∧
    (Stn.replyPlaceFreed s l).bill = s.bill ∧ (Stn.replyPlaceFreed s l).bus = s.bus ∧
    (Stn.replyPlaceFreed s l).cust = s.cust := by
  refine ⟨?_, ?_, ?_, ?_, ?_, ?_, ?_, ?_, ?_⟩ <;>
    (unfold Stn.replyPlaceFreed; dsimp only; repeat' split) <;> simp

@[simp] theorem Stn.handAnswer_frame (s : Stn) (k : Station) (tag : Tag) (res : Result) :
    (Stn.handAnswer s k tag res).ctl = s.ctl ∧ (Stn.handAnswer s k tag res).intake = s.intake ∧
    (Stn.handAnswer s k tag res).req = s.req ∧ (Stn.handAnswer s k tag res).subs = s.subs ∧
    (Stn.handAnswer s k tag res).store = s.store ∧ (Stn.handAnswer s k tag res).air = s.air ∧
    (Stn.handAnswer s k tag res).ret = s.ret ∧ (Stn.handAnswer s k tag res).meter = s.meter ∧
    (Stn.handAnswer s k tag res).bill = s.bill ∧ (Stn.handAnswer s k tag res).cust = s.cust := by
  refine ⟨?_, ?_, ?_, ?_, ?_, ?_, ?_, ?_, ?_, ?_⟩ <;>
    (unfold Stn.handAnswer; repeat' split) <;> simp

/-- An ANSWER enters the outbox behind every older note, or not at all. -/
theorem Stn.handAnswer_outbox (s : Stn) (k : Station) (tag : Tag) (res : Result) :
    (s.handAnswer k tag res).bus.outbox = s.bus.outbox ∨
    (s.handAnswer k tag res).bus.outbox = s.bus.outbox ++ [Note.fresh k (.answer tag res) .here .none] := by
  unfold Stn.handAnswer; split <;> simp

@[simp] theorem Stn.answerFor_frame (s : Stn) (k : Station) (tag : Tag) (parsed : Except Word Request) :
    (Stn.answerFor s k tag parsed).ctl = s.ctl ∧ (Stn.answerFor s k tag parsed).req = s.req ∧
    (Stn.answerFor s k tag parsed).cust = s.cust := by
  refine ⟨?_, ?_, ?_⟩ <;>
    (unfold Stn.answerFor; repeat' split) <;> simp

@[simp] theorem Stn.bringByContext_frame (s : Stn) (l : LineNo) (c : CtxNo) (q : Request) :
    (Stn.bringByContext s l c q).ctl = s.ctl ∧ (Stn.bringByContext s l c q).cust = s.cust := by
  refine ⟨?_, ?_⟩ <;>
    (unfold Stn.bringByContext; repeat' split) <;> simp

@[simp] theorem Stn.bring_frame (s : Stn) (who : Requester) (q : Request) :
    (Stn.bring s who q).ctl = s.ctl ∧ (Stn.bring s who q).cust = s.cust := by
  refine ⟨?_, ?_⟩ <;>
    (unfold Stn.bring; repeat' split) <;> simp

end Sys2Proof.Machine
end

