-- ==== Sys2Proof/Laws/Custody.lean ====
section
/-!
SUPPORT. Which blocks the operations of the Custody Unit leave as they are.
-/

namespace Sys2Proof.Machine

@[simp] theorem Stn.startMirror_frame (s : Stn) :
    (Stn.startMirror s).ctl = s.ctl ∧ (Stn.startMirror s).intake = s.intake ∧ (Stn.startMirror
    s).req = s.req ∧ (Stn.startMirror s).store = s.store ∧ (Stn.startMirror s).air = s.air ∧
    (Stn.startMirror s).ret = s.ret ∧ (Stn.startMirror s).meter = s.meter ∧ (Stn.startMirror
    s).bill = s.bill ∧ (Stn.startMirror s).cust = s.cust := by
  refine ⟨?_, ?_, ?_, ?_, ?_, ?_, ?_, ?_, ?_⟩ <;>
    (unfold Stn.startMirror; repeat' split) <;> simp

@[simp] theorem Stn.redirect_frame (w : Places) (s : Stn) (h : Station) (tag : Tag) :
    (Stn.redirect w s h tag).ctl = s.ctl ∧ (Stn.redirect w s h tag).cust = s.cust := by
  refine ⟨?_, ?_⟩ <;>
    (unfold Stn.redirect; repeat' split) <;> simp

@[simp] theorem Stn.custodianChanged_frame (w : Places) (s : Stn) (h : Station) :
    (Stn.custodianChanged w s h).ctl = s.ctl ∧ (Stn.custodianChanged w s h).cust = s.cust := by
  refine ⟨?_, ?_⟩ <;>
    simp [Stn.custodianChanged]

@[simp] theorem Stn.changeCustodian_frame (w : Places) (s : Stn) (h : Station) (c : Option Station) :
    (Stn.changeCustodian w s h c).ctl = s.ctl := by
  (unfold Stn.changeCustodian; split) <;> simp

@[simp] theorem Stn.setCustodian_frame (w : Places) (s : Stn) (h : Station) (c : Option Station) :
    (Stn.setCustodian w s h c).ctl = s.ctl := by
  (unfold Stn.setCustodian; dsimp only; repeat' split) <;> simp

@[simp] theorem Stn.clearReturned_frame (s : Stn) :
    (Stn.clearReturned s).ctl = s.ctl ∧ (Stn.clearReturned s).intake = s.intake ∧ (Stn.clearReturned
    s).req = s.req ∧ (Stn.clearReturned s).store = s.store ∧ (Stn.clearReturned s).air = s.air ∧
    (Stn.clearReturned s).ret = s.ret ∧ (Stn.clearReturned s).meter = s.meter ∧ (Stn.clearReturned
    s).bill = s.bill ∧ (Stn.clearReturned s).bus = s.bus ∧ (Stn.clearReturned s).cust = s.cust :=
  ⟨rfl, rfl, rfl, rfl, rfl, rfl, rfl, rfl, rfl, rfl⟩

@[simp] theorem Stn.clearReturnWalk_frame (s : Stn) :
    (Stn.clearReturnWalk s).ctl = s.ctl ∧ (Stn.clearReturnWalk s).intake = s.intake ∧
    (Stn.clearReturnWalk s).req = s.req ∧ (Stn.clearReturnWalk s).store = s.store ∧ (Stn.clearReturnWalk
    s).air = s.air ∧ (Stn.clearReturnWalk s).ret = s.ret ∧ (Stn.clearReturnWalk s).meter = s.meter ∧
    (Stn.clearReturnWalk s).bill = s.bill ∧ (Stn.clearReturnWalk s).cust = s.cust :=
  ⟨rfl, rfl, rfl, rfl, rfl, rfl, rfl, rfl, rfl⟩

@[simp] theorem Stn.abortReturn_frame (s : Stn) :
    (Stn.abortReturn s).ctl = s.ctl ∧ (Stn.abortReturn s).intake = s.intake ∧ (Stn.abortReturn
    s).req = s.req ∧ (Stn.abortReturn s).store = s.store ∧ (Stn.abortReturn s).air = s.air ∧
    (Stn.abortReturn s).ret = s.ret ∧ (Stn.abortReturn s).meter = s.meter ∧ (Stn.abortReturn
    s).cust = s.cust := by
  refine ⟨?_, ?_, ?_, ?_, ?_, ?_, ?_, ?_⟩ <;>
    (unfold Stn.abortReturn; repeat' split) <;> simp

@[simp] theorem Stn.requestReturn_frame (w : Places) (s : Stn) :
    (Stn.requestReturn w s).ctl = s.ctl := by
  (unfold Stn.requestReturn; dsimp only; repeat' split) <;> simp

@[simp] theorem Stn.becomeLive_frame (w : Places) (s : Stn) : (Stn.becomeLive w s).ctl = s.ctl := by
  (unfold Stn.becomeLive; dsimp only; repeat' split) <;> simp

@[simp] theorem Stn.dropNotes_frame (s : Stn) (k : Station) :
    (Stn.dropNotes s k).ctl = s.ctl ∧ (Stn.dropNotes s k).intake = s.intake ∧ (Stn.dropNotes s
    k).req = s.req ∧ (Stn.dropNotes s k).store = s.store ∧ (Stn.dropNotes s k).air = s.air ∧
    (Stn.dropNotes s k).ret = s.ret ∧ (Stn.dropNotes s k).meter = s.meter ∧ (Stn.dropNotes s
    k).cust = s.cust := by
  refine ⟨?_, ?_, ?_, ?_, ?_, ?_, ?_, ?_⟩ <;>
    (unfold Stn.dropNotes; dsimp only; repeat' split) <;> simp

@[simp] theorem Stn.loseReceipts_frame (s : Stn) (k : Station) :
    (Stn.loseReceipts s k).ctl = s.ctl ∧ (Stn.loseReceipts s k).subs = s.subs ∧ (Stn.loseReceipts s
    k).store = s.store ∧ (Stn.loseReceipts s k).air = s.air ∧ (Stn.loseReceipts s k).ret = s.ret ∧
    (Stn.loseReceipts s k).meter = s.meter ∧ (Stn.loseReceipts s k).bill = s.bill ∧ (Stn.loseReceipts s
    k).cust = s.cust := by
  refine ⟨?_, ?_, ?_, ?_, ?_, ?_, ?_, ?_⟩ <;>
    simp [Stn.loseReceipts]

@[simp] theorem Stn.holdNotes_frame (s : Stn) (k : Station) (v : View) :
    (Stn.holdNotes s k v).ctl = s.ctl ∧ (Stn.holdNotes s k v).intake = s.intake ∧ (Stn.holdNotes s k
    v).req = s.req ∧ (Stn.holdNotes s k v).subs = s.subs ∧ (Stn.holdNotes s k v).store = s.store ∧
    (Stn.holdNotes s k v).air = s.air ∧ (Stn.holdNotes s k v).ret = s.ret ∧ (Stn.holdNotes s k
    v).meter = s.meter ∧ (Stn.holdNotes s k v).bill = s.bill ∧ (Stn.holdNotes s k v).cust = s.cust :=
  ⟨rfl, rfl, rfl, rfl, rfl, rfl, rfl, rfl, rfl, rfl⟩

@[simp] theorem Stn.viewNotes_frame (s : Stn) (k : Station) (v : View) :
    (Stn.viewNotes s k v).ctl = s.ctl ∧ (Stn.viewNotes s k v).store = s.store ∧ (Stn.viewNotes s k
    v).air = s.air ∧ (Stn.viewNotes s k v).ret = s.ret ∧ (Stn.viewNotes s k v).meter = s.meter ∧
    (Stn.viewNotes s k v).cust = s.cust := by
  refine ⟨?_, ?_, ?_, ?_, ?_, ?_⟩ <;>
    (unfold Stn.viewNotes; repeat' split) <;> simp

@[simp] theorem Stn.viewReturn_frame (w : Places) (s : Stn) (k : Station) (old v : View) (episode : Bool) :
    (Stn.viewReturn w s k old v episode).ctl = s.ctl := by
  (unfold Stn.viewReturn; repeat' split) <;> simp

@[simp] theorem Stn.viewBuddy_frame (w : Places) (s : Stn) (k : Station) (v : View) :
    (Stn.viewBuddy w s k v).ctl = s.ctl := by
  (unfold Stn.viewBuddy; repeat' split) <;> simp

@[simp] theorem Stn.changeView_frame (w : Places) (s : Stn) (k : Station) (v : View) (episode : Bool) :
    (Stn.changeView w s k v episode).ctl = s.ctl := by
  (unfold Stn.changeView; repeat' split) <;> simp

@[simp] theorem Stn.failCustodian_frame (w : Places) (s : Stn) (j : Station) :
    (Stn.failCustodian w s j).ctl = s.ctl := by
  (unfold Stn.failCustodian; rw [foldl_ctl]; intro s h; split <;> simp)

@[simp] theorem Stn.failView_frame (w : Places) (s : Stn) (k : Station) : (Stn.failView w s k).ctl = s.ctl := by
  unfold Stn.failView; split <;> simp

@[simp] theorem Stn.bothDown_frame (w : Places) (fuel : Nat) (s : Stn) : (Stn.bothDown w fuel s).ctl = s.ctl := by
  induction fuel generalizing s with
  | zero => rfl
  | succ n ih =>
    unfold Stn.bothDown
    split
    · rfl
    · simp [ih]

@[simp] theorem Stn.doubleFailure_frame (w : Places) (s : Stn) : (s.doubleFailure w).ctl = s.ctl :=
  Stn.bothDown_frame w 16 s

@[simp] theorem Stn.enterLive_frame (w : Places) (s : Stn) : (s.enterLive w).ctl = s.ctl := by simp [Stn.enterLive]

@[simp] theorem Stn.setView_frame (w : Places) (s : Stn) (k : Station) (v : View) (episode : Bool) :
    (Stn.setView w s k v episode).ctl = s.ctl := by
  (unfold Stn.setView; repeat' split) <;> simp

@[simp] theorem Stn.adoptOne_frame (s : Stn) (b : StandbyRec) :
    (Stn.adoptOne s b).ctl = s.ctl := by
  (unfold Stn.adoptOne; repeat' split) <;> simp

@[simp] theorem Stn.adopt_frame (s : Stn) :
    (Stn.adopt s).ctl = s.ctl := by
  (unfold Stn.adopt; repeat' split) <;> simp

@[simp] theorem Stn.redeclare_frame (s : Stn) :
    (Stn.redeclare s).ctl = s.ctl := by
  (unfold Stn.redeclare; repeat' split) <;> simp

@[simp] theorem Stn.declarationCheck_frame (s : Stn) :
    (Stn.declarationCheck s).ctl = s.ctl ∧ (Stn.declarationCheck s).intake = s.intake ∧
    (Stn.declarationCheck s).req = s.req ∧ (Stn.declarationCheck s).subs = s.subs ∧
    (Stn.declarationCheck s).store = s.store ∧ (Stn.declarationCheck s).air = s.air ∧
    (Stn.declarationCheck s).ret = s.ret ∧ (Stn.declarationCheck s).meter = s.meter ∧
    (Stn.declarationCheck s).bill = s.bill ∧ (Stn.declarationCheck s).bus = s.bus := by
  refine ⟨?_, ?_, ?_, ?_, ?_, ?_, ?_, ?_, ?_, ?_⟩ <;>
    (unfold Stn.declarationCheck; repeat' split) <;> simp

@[simp] theorem Stn.redeclarationCheck_frame (s : Stn) :
    (Stn.redeclarationCheck s).ctl = s.ctl := by
  (unfold Stn.redeclarationCheck; repeat' split) <;> simp

@[simp] theorem Stn.countBuddyWait_frame (s : Stn) :
    (Stn.countBuddyWait s).ctl = s.ctl := by
  (unfold Stn.countBuddyWait; dsimp only; repeat' split) <;> simp

@[simp] theorem Stn.retryOver_frame (s : Stn) :
    (Stn.retryOver s).ctl = s.ctl := by
  (unfold Stn.retryOver; dsimp only; repeat' split) <;> simp

@[simp] theorem Stn.countRetry_frame (s : Stn) :
    (Stn.countRetry s).ctl = s.ctl := by
  (unfold Stn.countRetry; repeat' split) <;> simp

@[simp] theorem Stn.restartOver_frame (s : Stn) :
    (Stn.restartOver s).ctl = s.ctl ∧ (Stn.restartOver s).intake = s.intake ∧ (Stn.restartOver
    s).req = s.req ∧ (Stn.restartOver s).store = s.store ∧ (Stn.restartOver s).air = s.air ∧
    (Stn.restartOver s).ret = s.ret ∧ (Stn.restartOver s).meter = s.meter ∧ (Stn.restartOver
    s).bill = s.bill ∧ (Stn.restartOver s).cust = s.cust := by
  refine ⟨?_, ?_, ?_, ?_, ?_, ?_, ?_, ?_, ?_⟩ <;>
    (unfold Stn.restartOver; repeat' split) <;> simp

@[simp] theorem Stn.countRestart_frame (s : Stn) :
    (Stn.countRestart s).ctl = s.ctl ∧ (Stn.countRestart s).intake = s.intake ∧ (Stn.countRestart
    s).req = s.req ∧ (Stn.countRestart s).store = s.store ∧ (Stn.countRestart s).air = s.air ∧
    (Stn.countRestart s).ret = s.ret ∧ (Stn.countRestart s).meter = s.meter ∧ (Stn.countRestart
    s).bill = s.bill ∧ (Stn.countRestart s).cust = s.cust := by
  refine ⟨?_, ?_, ?_, ?_, ?_, ?_, ?_, ?_, ?_⟩ <;>
    (unfold Stn.countRestart; repeat' split) <;> simp

@[simp] theorem Stn.handReturn_frame (s : Stn) (body : NoteBody) :
    (Stn.handReturn s body).ctl = s.ctl ∧ (Stn.handReturn s body).intake = s.intake ∧ (Stn.handReturn s
    body).req = s.req ∧ (Stn.handReturn s body).store = s.store ∧ (Stn.handReturn s body).air = s.air ∧
    (Stn.handReturn s body).ret = s.ret ∧ (Stn.handReturn s body).meter = s.meter ∧ (Stn.handReturn s
    body).cust = s.cust := by
  refine ⟨?_, ?_, ?_, ?_, ?_, ?_, ?_, ?_⟩ <;>
    (unfold Stn.handReturn; repeat' split) <;> simp

@[simp] theorem Stn.handMirrorWalk_frame (s : Stn) (body : NoteBody) :
    (Stn.handMirrorWalk s body).ctl = s.ctl ∧ (Stn.handMirrorWalk s body).intake = s.intake ∧
    (Stn.handMirrorWalk s body).req = s.req ∧ (Stn.handMirrorWalk s body).store = s.store ∧
    (Stn.handMirrorWalk s body).air = s.air ∧ (Stn.handMirrorWalk s body).ret = s.ret ∧
    (Stn.handMirrorWalk s body).meter = s.meter ∧ (Stn.handMirrorWalk s body).bill = s.bill ∧
    (Stn.handMirrorWalk s body).cust = s.cust := by
  refine ⟨?_, ?_, ?_, ?_, ?_, ?_, ?_, ?_, ?_⟩ <;>
    (unfold Stn.handMirrorWalk; repeat' split) <;> simp

@[simp] theorem Stn.returnVisit_frame (s : Stn) :
    (Stn.returnVisit s).ctl = s.ctl ∧ (Stn.returnVisit s).intake = s.intake ∧ (Stn.returnVisit
    s).req = s.req ∧ (Stn.returnVisit s).store = s.store ∧ (Stn.returnVisit s).air = s.air ∧
    (Stn.returnVisit s).ret = s.ret ∧ (Stn.returnVisit s).meter = s.meter ∧ (Stn.returnVisit
    s).cust = s.cust := by
  refine ⟨?_, ?_, ?_, ?_, ?_, ?_, ?_, ?_⟩ <;>
    (unfold Stn.returnVisit; repeat' split) <;> simp

@[simp] theorem Stn.returnStandbyVisit_frame (s : Stn) :
    (Stn.returnStandbyVisit s).ctl = s.ctl ∧ (Stn.returnStandbyVisit s).intake = s.intake ∧
    (Stn.returnStandbyVisit s).req = s.req ∧ (Stn.returnStandbyVisit s).store = s.store ∧
    (Stn.returnStandbyVisit s).air = s.air ∧ (Stn.returnStandbyVisit s).ret = s.ret ∧
    (Stn.returnStandbyVisit s).meter = s.meter ∧ (Stn.returnStandbyVisit s).cust = s.cust := by
  refine ⟨?_, ?_, ?_, ?_, ?_, ?_, ?_, ?_⟩ <;>
    (unfold Stn.returnStandbyVisit; repeat' split) <;> simp

@[simp] theorem Stn.revisitOne_frame (s : Stn) (sub : Nat) :
    (Stn.revisitOne s sub).ctl = s.ctl ∧ (Stn.revisitOne s sub).intake = s.intake ∧ (Stn.revisitOne s
    sub).req = s.req ∧ (Stn.revisitOne s sub).store = s.store ∧ (Stn.revisitOne s sub).air = s.air ∧
    (Stn.revisitOne s sub).ret = s.ret ∧ (Stn.revisitOne s sub).meter = s.meter ∧ (Stn.revisitOne s
    sub).cust = s.cust := by
  refine ⟨?_, ?_, ?_, ?_, ?_, ?_, ?_, ?_⟩ <;>
    (unfold Stn.revisitOne; repeat' split) <;> simp

@[simp] theorem Stn.revisit_frame (s : Stn) :
    (Stn.revisit s).ctl = s.ctl ∧ (Stn.revisit s).intake = s.intake ∧ (Stn.revisit s).req = s.req ∧
    (Stn.revisit s).store = s.store ∧ (Stn.revisit s).air = s.air ∧ (Stn.revisit s).ret = s.ret ∧
    (Stn.revisit s).meter = s.meter ∧ (Stn.revisit s).cust = s.cust := by
  refine ⟨?_, ?_, ?_, ?_, ?_, ?_, ?_, ?_⟩ <;>
    (unfold Stn.revisit; simp)

@[simp] theorem Stn.mirrorStep_frame (s : Stn) :
    (Stn.mirrorStep s).ctl = s.ctl ∧ (Stn.mirrorStep s).intake = s.intake ∧ (Stn.mirrorStep
    s).req = s.req ∧ (Stn.mirrorStep s).store = s.store ∧ (Stn.mirrorStep s).air = s.air ∧
    (Stn.mirrorStep s).ret = s.ret ∧ (Stn.mirrorStep s).meter = s.meter ∧ (Stn.mirrorStep
    s).bill = s.bill ∧ (Stn.mirrorStep s).cust = s.cust := by
  refine ⟨?_, ?_, ?_, ?_, ?_, ?_, ?_, ?_, ?_⟩ <;>
    (unfold Stn.mirrorStep; repeat' split) <;> simp

@[simp] theorem Stn.reoffer_frame (s : Stn) :
    (Stn.reoffer s).ctl = s.ctl ∧ (Stn.reoffer s).intake = s.intake ∧ (Stn.reoffer s).req = s.req ∧
    (Stn.reoffer s).subs = s.subs ∧ (Stn.reoffer s).store = s.store ∧ (Stn.reoffer s).air = s.air ∧
    (Stn.reoffer s).ret = s.ret ∧ (Stn.reoffer s).meter = s.meter ∧ (Stn.reoffer s).bill = s.bill ∧
    (Stn.reoffer s).cust = s.cust := by
  refine ⟨?_, ?_, ?_, ?_, ?_, ?_, ?_, ?_, ?_, ?_⟩ <;>
    (unfold Stn.reoffer; repeat' split) <;> simp

@[simp] theorem Stn.returnTakenByWard_frame (s : Stn) (a : Admin) :
    (Stn.returnTakenByWard s a).ctl = s.ctl ∧ (Stn.returnTakenByWard s a).intake = s.intake ∧
    (Stn.returnTakenByWard s a).req = s.req ∧ (Stn.returnTakenByWard s a).store = s.store ∧
    (Stn.returnTakenByWard s a).air = s.air ∧ (Stn.returnTakenByWard s a).ret = s.ret ∧
    (Stn.returnTakenByWard s a).bill = s.bill ∧ (Stn.returnTakenByWard s a).bus = s.bus ∧
    (Stn.returnTakenByWard s a).cust = s.cust := by
  refine ⟨?_, ?_, ?_, ?_, ?_, ?_, ?_, ?_, ?_⟩ <;>
    (unfold Stn.returnTakenByWard; repeat' split) <;> simp

@[simp] theorem Stn.returnEndTakenByWard_frame (s : Stn) :
    (Stn.returnEndTakenByWard s).ctl = s.ctl := by
  (unfold Stn.returnEndTakenByWard; repeat' split) <;> simp

@[simp] theorem Stn.abstainFrom_frame (s : Stn) (f : FrameNo) :
    (Stn.abstainFrom s f).ctl = s.ctl ∧ (Stn.abstainFrom s f).intake = s.intake ∧ (Stn.abstainFrom s
    f).req = s.req ∧ (Stn.abstainFrom s f).subs = s.subs ∧ (Stn.abstainFrom s f).store = s.store ∧
    (Stn.abstainFrom s f).ret = s.ret ∧ (Stn.abstainFrom s f).meter = s.meter ∧ (Stn.abstainFrom s
    f).bill = s.bill ∧ (Stn.abstainFrom s f).bus = s.bus ∧ (Stn.abstainFrom s f).cust = s.cust := by
  refine ⟨?_, ?_, ?_, ?_, ?_, ?_, ?_, ?_, ?_, ?_⟩ <;>
    (unfold Stn.abstainFrom; repeat' split) <;> simp

@[simp] theorem Stn.standDownAir_frame (s : Stn) :
    (Stn.standDownAir s).ctl = s.ctl ∧ (Stn.standDownAir s).intake = s.intake ∧ (Stn.standDownAir
    s).req = s.req ∧ (Stn.standDownAir s).subs = s.subs ∧ (Stn.standDownAir s).store = s.store ∧
    (Stn.standDownAir s).ret = s.ret ∧ (Stn.standDownAir s).meter = s.meter ∧ (Stn.standDownAir
    s).bill = s.bill ∧ (Stn.standDownAir s).bus = s.bus ∧ (Stn.standDownAir s).cust = s.cust := by
  refine ⟨?_, ?_, ?_, ?_, ?_, ?_, ?_, ?_, ?_, ?_⟩ <;>
    simp [Stn.standDownAir]

@[simp] theorem Stn.loseCustody_frame (s : Stn) :
    (Stn.loseCustody s).ctl = s.ctl := by
  simp [Stn.loseCustody]

@[simp] theorem Stn.retryAll_frame (es : List PendEntry) (s : Stn) :
    (Stn.retryAll es s).ctl = s.ctl ∧ (Stn.retryAll es s).req = s.req ∧
    (Stn.retryAll es s).subs = s.subs ∧ (Stn.retryAll es s).store = s.store ∧
    (Stn.retryAll es s).air = s.air ∧ (Stn.retryAll es s).ret = s.ret ∧
    (Stn.retryAll es s).meter = s.meter ∧ (Stn.retryAll es s).bill = s.bill ∧
    (Stn.retryAll es s).bus = s.bus ∧ (Stn.retryAll es s).cust = s.cust := by
  induction es generalizing s with
  | nil => simp [Stn.retryAll]
  | cons e es ih =>
    refine ⟨?_, ?_, ?_, ?_, ?_, ?_, ?_, ?_, ?_, ?_⟩ <;> (unfold Stn.retryAll; split) <;> simp [ih]

@[simp] theorem Stn.standDown_frame (s : Stn) :
    (Stn.standDown s).ctl = s.ctl := by
  simp [Stn.standDown]

end Sys2Proof.Machine
end

