-- ==== Sys2Proof/Laws/Bus.lean ====
section
/-!
SUPPORT. Which blocks the operations of the Airtime, Bus and Return Units and of the start leave as they are.
-/

namespace Sys2Proof.Machine

@[simp] theorem Stn.takeForClaim_frame (s : Stn) (t : FrameNo) (serial : Serial) :
    (Stn.takeForClaim s t serial).ctl = s.ctl ∧ (Stn.takeForClaim s t serial).intake = s.intake ∧
    (Stn.takeForClaim s t serial).req = s.req ∧ (Stn.takeForClaim s t serial).air = s.air ∧
    (Stn.takeForClaim s t serial).ret = s.ret ∧ (Stn.takeForClaim s t serial).meter = s.meter ∧
    (Stn.takeForClaim s t serial).bill = s.bill ∧ (Stn.takeForClaim s t serial).bus = s.bus ∧
    (Stn.takeForClaim s t serial).cust = s.cust := by
  refine ⟨?_, ?_, ?_, ?_, ?_, ?_, ?_, ?_, ?_⟩ <;>
    (unfold Stn.takeForClaim; repeat' split) <;> simp

@[simp] theorem Stn.takeClaims_frame (t : FrameNo) (fuel : Nat) (s : Stn) :
    (Stn.takeClaims t fuel s).ctl = s.ctl ∧ (Stn.takeClaims t fuel s).intake = s.intake ∧
    (Stn.takeClaims t fuel s).req = s.req ∧ (Stn.takeClaims t fuel s).ret = s.ret ∧
    (Stn.takeClaims t fuel s).meter = s.meter ∧ (Stn.takeClaims t fuel s).bill = s.bill ∧
    (Stn.takeClaims t fuel s).bus = s.bus ∧ (Stn.takeClaims t fuel s).cust = s.cust := by
  induction fuel generalizing s with
  | zero => simp [Stn.takeClaims]
  | succ n ih =>
    refine ⟨?_, ?_, ?_, ?_, ?_, ?_, ?_, ?_⟩ <;> (unfold Stn.takeClaims; repeat' split) <;> simp [ih]

@[simp] theorem Stn.windowClaims_frame (s : Stn) (f : FrameNo) (index : Fin 4) :
    (Stn.windowClaims s f index).ctl = s.ctl ∧ (Stn.windowClaims s f index).intake = s.intake ∧
    (Stn.windowClaims s f index).req = s.req ∧ (Stn.windowClaims s f index).ret = s.ret ∧
    (Stn.windowClaims s f index).meter = s.meter ∧ (Stn.windowClaims s f index).bill = s.bill ∧
    (Stn.windowClaims s f index).bus = s.bus ∧ (Stn.windowClaims s f index).cust = s.cust := by
  refine ⟨?_, ?_, ?_, ?_, ?_, ?_, ?_, ?_⟩ <;>
    (unfold Stn.windowClaims; repeat' split) <;> simp

@[simp] theorem Stn.peerClaimsRead_frame (s : Stn) (p : Station) (f : FrameNo) (index : Fin 4) (state :
    Member) (claims : List Claim) :
    (Stn.peerClaimsRead s p f index state claims).ctl = s.ctl ∧ (Stn.peerClaimsRead s p f index state
    claims).intake = s.intake ∧ (Stn.peerClaimsRead s p f index state claims).req = s.req ∧
    (Stn.peerClaimsRead s p f index state claims).subs = s.subs ∧ (Stn.peerClaimsRead s p f index state
    claims).store = s.store ∧ (Stn.peerClaimsRead s p f index state claims).ret = s.ret ∧
    (Stn.peerClaimsRead s p f index state claims).meter = s.meter ∧ (Stn.peerClaimsRead s p f index
    state claims).bill = s.bill ∧ (Stn.peerClaimsRead s p f index state claims).bus = s.bus ∧
    (Stn.peerClaimsRead s p f index state claims).cust = s.cust := by
  refine ⟨?_, ?_, ?_, ?_, ?_, ?_, ?_, ?_, ?_, ?_⟩ <;>
    (unfold Stn.peerClaimsRead; repeat' split) <;> simp

@[simp] theorem Stn.readingAbstain_frame (s : Stn) (f : FrameNo) (index : Fin 4) (view : View) (lost :
    Bool) :
    (Stn.readingAbstain s f index view lost).ctl = s.ctl ∧ (Stn.readingAbstain s f index view
    lost).intake = s.intake ∧ (Stn.readingAbstain s f index view lost).req = s.req ∧ (Stn.readingAbstain
    s f index view lost).subs = s.subs ∧ (Stn.readingAbstain s f index view lost).store = s.store ∧
    (Stn.readingAbstain s f index view lost).ret = s.ret ∧ (Stn.readingAbstain s f index view
    lost).meter = s.meter ∧ (Stn.readingAbstain s f index view lost).bill = s.bill ∧ (Stn.readingAbstain
    s f index view lost).bus = s.bus ∧ (Stn.readingAbstain s f index view lost).cust = s.cust := by
  refine ⟨?_, ?_, ?_, ?_, ?_, ?_, ?_, ?_, ?_, ?_⟩ <;>
    (unfold Stn.readingAbstain; repeat' split) <;> simp

@[simp] theorem Stn.returnToFront_frame (s : Stn) (serials : List Serial) :
    (Stn.returnToFront s serials).ctl = s.ctl ∧ (Stn.returnToFront s serials).intake = s.intake ∧
    (Stn.returnToFront s serials).req = s.req ∧ (Stn.returnToFront s serials).subs = s.subs ∧
    (Stn.returnToFront s serials).air = s.air ∧ (Stn.returnToFront s serials).ret = s.ret ∧
    (Stn.returnToFront s serials).meter = s.meter ∧ (Stn.returnToFront s serials).bill = s.bill ∧
    (Stn.returnToFront s serials).bus = s.bus ∧ (Stn.returnToFront s serials).cust = s.cust := by
  refine ⟨?_, ?_, ?_, ?_, ?_, ?_, ?_, ?_, ?_, ?_⟩ <;>
    simp [Stn.returnToFront]

@[simp] theorem Stn.loadPage_frame (s : Stn) (t : FrameNo) (first : Nat) (c : Claim) (serial : Serial) :
    (Stn.loadPage s t first c serial).ctl = s.ctl ∧ (Stn.loadPage s t first c serial).intake = s.intake
    ∧ (Stn.loadPage s t first c serial).req = s.req ∧ (Stn.loadPage s t first c serial).subs = s.subs ∧
    (Stn.loadPage s t first c serial).ret = s.ret ∧ (Stn.loadPage s t first c serial).meter = s.meter ∧
    (Stn.loadPage s t first c serial).bill = s.bill ∧ (Stn.loadPage s t first c serial).bus = s.bus ∧
    (Stn.loadPage s t first c serial).cust = s.cust := by
  refine ⟨?_, ?_, ?_, ?_, ?_, ?_, ?_, ?_, ?_⟩ <;>
    (unfold Stn.loadPage; repeat' split) <;> simp

@[simp] theorem Stn.applyClaim_frame (t : FrameNo) (fit : List (Nat × Station × Claim)) (s : Stn) (c :
    Claim) :
    (Stn.applyClaim t fit s c).ctl = s.ctl ∧ (Stn.applyClaim t fit s c).intake = s.intake ∧
    (Stn.applyClaim t fit s c).req = s.req ∧ (Stn.applyClaim t fit s c).subs = s.subs ∧ (Stn.applyClaim
    t fit s c).ret = s.ret ∧ (Stn.applyClaim t fit s c).meter = s.meter ∧ (Stn.applyClaim t fit s
    c).bill = s.bill ∧ (Stn.applyClaim t fit s c).bus = s.bus ∧ (Stn.applyClaim t fit s c).cust = s.cust := by
  refine ⟨?_, ?_, ?_, ?_, ?_, ?_, ?_, ?_, ?_⟩ <;>
    (unfold Stn.applyClaim; repeat' split) <;> simp

@[simp] theorem Stn.emptyClaims_frame (s : Stn) :
    (Stn.emptyClaims s).ctl = s.ctl ∧ (Stn.emptyClaims s).intake = s.intake ∧ (Stn.emptyClaims
    s).req = s.req ∧ (Stn.emptyClaims s).subs = s.subs ∧ (Stn.emptyClaims s).store = s.store ∧
    (Stn.emptyClaims s).ret = s.ret ∧ (Stn.emptyClaims s).meter = s.meter ∧ (Stn.emptyClaims
    s).bill = s.bill ∧ (Stn.emptyClaims s).bus = s.bus ∧ (Stn.emptyClaims s).cust = s.cust :=
  ⟨rfl, rfl, rfl, rfl, rfl, rfl, rfl, rfl, rfl, rfl⟩

@[simp] theorem Stn.voidClaims_frame (s : Stn) (t : FrameNo) :
    (Stn.voidClaims s t).ctl = s.ctl ∧ (Stn.voidClaims s t).intake = s.intake ∧ (Stn.voidClaims s
    t).req = s.req ∧ (Stn.voidClaims s t).subs = s.subs ∧ (Stn.voidClaims s t).ret = s.ret ∧
    (Stn.voidClaims s t).meter = s.meter ∧ (Stn.voidClaims s t).bill = s.bill ∧ (Stn.voidClaims s
    t).bus = s.bus ∧ (Stn.voidClaims s t).cust = s.cust := by
  refine ⟨?_, ?_, ?_, ?_, ?_, ?_, ?_, ?_, ?_⟩ <;>
    simp [Stn.voidClaims]

@[simp] theorem Stn.applyMap_frame (s : Stn) (t : FrameNo) :
    (Stn.applyMap s t).ctl = s.ctl ∧ (Stn.applyMap s t).intake = s.intake ∧ (Stn.applyMap s
    t).req = s.req ∧ (Stn.applyMap s t).subs = s.subs ∧ (Stn.applyMap s t).ret = s.ret ∧ (Stn.applyMap s
    t).meter = s.meter ∧ (Stn.applyMap s t).bill = s.bill ∧ (Stn.applyMap s t).bus = s.bus ∧
    (Stn.applyMap s t).cust = s.cust := by
  refine ⟨?_, ?_, ?_, ?_, ?_, ?_, ?_, ?_, ?_⟩ <;>
    simp [Stn.applyMap]

@[simp] theorem Stn.closeMap_frame (s : Stn) (f : FrameNo) :
    (Stn.closeMap s f).ctl = s.ctl ∧ (Stn.closeMap s f).intake = s.intake ∧ (Stn.closeMap s
    f).req = s.req ∧ (Stn.closeMap s f).subs = s.subs ∧ (Stn.closeMap s f).ret = s.ret ∧ (Stn.closeMap s
    f).meter = s.meter ∧ (Stn.closeMap s f).bill = s.bill ∧ (Stn.closeMap s f).bus = s.bus ∧
    (Stn.closeMap s f).cust = s.cust := by
  refine ⟨?_, ?_, ?_, ?_, ?_, ?_, ?_, ?_, ?_⟩ <;>
    (unfold Stn.closeMap; dsimp only; repeat' split) <;> simp

@[simp] theorem Stn.driveSlot_frame (s : Stn) (n : Fin 32) (p : Page) :
    (s.driveSlot n p).ctl = s.ctl ∧ (s.driveSlot n p).intake = s.intake ∧ (s.driveSlot n p).req = s.req
    ∧ (s.driveSlot n p).subs = s.subs ∧ (s.driveSlot n p).store = s.store ∧ (s.driveSlot n p).ret =
    s.ret ∧ (s.driveSlot n p).meter = s.meter ∧ (s.driveSlot n p).bill = s.bill ∧ (s.driveSlot n p).bus
    = s.bus ∧ (s.driveSlot n p).cust = s.cust :=
  ⟨rfl, rfl, rfl, rfl, rfl, rfl, rfl, rfl, rfl, rfl⟩

@[simp] theorem Stn.slotStart_frame (s : Stn) (n : Fin 32) :
    (Stn.slotStart s n).ctl = s.ctl ∧ (Stn.slotStart s n).intake = s.intake ∧ (Stn.slotStart s
    n).req = s.req ∧ (Stn.slotStart s n).subs = s.subs ∧ (Stn.slotStart s n).store = s.store ∧
    (Stn.slotStart s n).ret = s.ret ∧ (Stn.slotStart s n).meter = s.meter ∧ (Stn.slotStart s
    n).bill = s.bill ∧ (Stn.slotStart s n).bus = s.bus ∧ (Stn.slotStart s n).cust = s.cust := by
  refine ⟨?_, ?_, ?_, ?_, ?_, ?_, ?_, ?_, ?_, ?_⟩ <;>
    (unfold Stn.slotStart; repeat' split) <;> simp

@[simp] theorem Stn.markAirtime_frame (s : Stn) :
    (Stn.markAirtime s).ctl = s.ctl ∧ (Stn.markAirtime s).intake = s.intake ∧ (Stn.markAirtime
    s).req = s.req ∧ (Stn.markAirtime s).ret = s.ret ∧ (Stn.markAirtime s).bill = s.bill ∧
    (Stn.markAirtime s).cust = s.cust := by
  refine ⟨?_, ?_, ?_, ?_, ?_, ?_⟩ <;>
    simp [Stn.markAirtime]

@[simp] theorem Stn.beginRounds_frame (s : Stn) (f : FrameNo) :
    (Stn.beginRounds s f).ctl = s.ctl ∧ (Stn.beginRounds s f).intake = s.intake ∧ (Stn.beginRounds s
    f).req = s.req ∧ (Stn.beginRounds s f).subs = s.subs ∧ (Stn.beginRounds s f).store = s.store ∧
    (Stn.beginRounds s f).air = s.air ∧ (Stn.beginRounds s f).ret = s.ret ∧ (Stn.beginRounds s
    f).meter = s.meter ∧ (Stn.beginRounds s f).bill = s.bill :=
  ⟨rfl, rfl, rfl, rfl, rfl, rfl, rfl, rfl, rfl⟩

@[simp] theorem Stn.markBus_frame (s : Stn) :
    (s.markBus).ctl = s.ctl ∧ (s.markBus).intake = s.intake ∧ (s.markBus).req = s.req ∧ (s.markBus).subs
    = s.subs ∧ (s.markBus).store = s.store ∧ (s.markBus).air = s.air ∧ (s.markBus).ret = s.ret ∧
    (s.markBus).meter = s.meter ∧ (s.markBus).bill = s.bill := by
  refine ⟨?_, ?_, ?_, ?_, ?_, ?_, ?_, ?_, ?_⟩ <;>
    (unfold Stn.markBus; dsimp only; repeat' split) <;> simp

@[simp] theorem Stn.nextRound_frame (s : Stn) (r : RoundPos) :
    (Stn.nextRound s r).ctl = s.ctl ∧ (Stn.nextRound s r).intake = s.intake ∧ (Stn.nextRound s
    r).req = s.req ∧ (Stn.nextRound s r).subs = s.subs ∧ (Stn.nextRound s r).store = s.store ∧
    (Stn.nextRound s r).air = s.air ∧ (Stn.nextRound s r).ret = s.ret ∧ (Stn.nextRound s
    r).meter = s.meter ∧ (Stn.nextRound s r).bill = s.bill := by
  refine ⟨?_, ?_, ?_, ?_, ?_, ?_, ?_, ?_, ?_⟩ <;>
    (unfold Stn.nextRound; repeat' split) <;> simp

@[simp] theorem Stn.passWindow_frame (s : Stn) (r : RoundPos) :
    (s.passWindow r).ctl = s.ctl ∧ (s.passWindow r).intake = s.intake ∧ (s.passWindow r).req = s.req ∧
    (s.passWindow r).subs = s.subs ∧ (s.passWindow r).store = s.store ∧ (s.passWindow r).air = s.air ∧
    (s.passWindow r).ret = s.ret ∧ (s.passWindow r).meter = s.meter ∧ (s.passWindow r).bill = s.bill ∧
    (s.passWindow r).cust = s.cust :=
  ⟨rfl, rfl, rfl, rfl, rfl, rfl, rfl, rfl, rfl, rfl⟩

@[simp] theorem Stn.testDeclaration_frame (s : Stn) :
    (Stn.testDeclaration s).ctl = s.ctl ∧ (Stn.testDeclaration s).intake = s.intake ∧
    (Stn.testDeclaration s).req = s.req ∧ (Stn.testDeclaration s).subs = s.subs ∧ (Stn.testDeclaration
    s).store = s.store ∧ (Stn.testDeclaration s).air = s.air ∧ (Stn.testDeclaration s).ret = s.ret ∧
    (Stn.testDeclaration s).meter = s.meter ∧ (Stn.testDeclaration s).bill = s.bill ∧
    (Stn.testDeclaration s).bus = s.bus := by
  refine ⟨?_, ?_, ?_, ?_, ?_, ?_, ?_, ?_, ?_, ?_⟩ <;>
    (unfold Stn.testDeclaration; repeat' split) <;> simp

@[simp] theorem Stn.sendFrame_frame (s : Stn) (r : RoundPos) :
    (Stn.sendFrame s r).ctl = s.ctl ∧ (Stn.sendFrame s r).intake = s.intake ∧ (Stn.sendFrame s
    r).req = s.req ∧ (Stn.sendFrame s r).subs = s.subs ∧ (Stn.sendFrame s r).store = s.store ∧
    (Stn.sendFrame s r).air = s.air ∧ (Stn.sendFrame s r).ret = s.ret ∧ (Stn.sendFrame s
    r).meter = s.meter ∧ (Stn.sendFrame s r).bill = s.bill ∧ (Stn.sendFrame s r).cust = s.cust :=
  ⟨rfl, rfl, rfl, rfl, rfl, rfl, rfl, rfl, rfl, rfl⟩

@[simp] theorem Stn.ownWindow_frame (s : Stn) (r : RoundPos) :
    (Stn.ownWindow s r).ctl = s.ctl ∧ (Stn.ownWindow s r).intake = s.intake ∧ (Stn.ownWindow s
    r).req = s.req ∧ (Stn.ownWindow s r).ret = s.ret ∧ (Stn.ownWindow s r).meter = s.meter ∧
    (Stn.ownWindow s r).bill = s.bill := by
  refine ⟨?_, ?_, ?_, ?_, ?_, ?_⟩ <;>
    simp [Stn.ownWindow]

@[simp] theorem Stn.readNothing_frame (s : Stn) (p : Station) :
    (Stn.readNothing s p).ctl = s.ctl := by
  (unfold Stn.readNothing; dsimp only; split <;> simp)

@[simp] theorem Stn.heardActivity_frame (s : Stn) (p : Station) :
    (Stn.heardActivity s p).ctl = s.ctl ∧ (Stn.heardActivity s p).intake = s.intake ∧ (Stn.heardActivity
    s p).req = s.req ∧ (Stn.heardActivity s p).subs = s.subs ∧ (Stn.heardActivity s p).store = s.store ∧
    (Stn.heardActivity s p).air = s.air ∧ (Stn.heardActivity s p).ret = s.ret ∧ (Stn.heardActivity s
    p).meter = s.meter ∧ (Stn.heardActivity s p).bill = s.bill ∧ (Stn.heardActivity s p).bus = s.bus :=
  ⟨rfl, rfl, rfl, rfl, rfl, rfl, rfl, rfl, rfl, rfl⟩

@[simp] theorem Stn.readForeign_frame (s : Stn) (p : Station) :
    (Stn.readForeign s p).ctl = s.ctl := by
  (unfold Stn.readForeign; dsimp only; split <;> simp)

@[simp] theorem Stn.removeNote_frame (s : Stn) (p : Station) (serial : NoteSerial) :
    (Stn.removeNote s p serial).ctl = s.ctl ∧ (Stn.removeNote s p serial).intake = s.intake ∧
    (Stn.removeNote s p serial).req = s.req ∧ (Stn.removeNote s p serial).subs = s.subs ∧
    (Stn.removeNote s p serial).store = s.store ∧ (Stn.removeNote s p serial).air = s.air ∧
    (Stn.removeNote s p serial).ret = s.ret ∧ (Stn.removeNote s p serial).meter = s.meter ∧
    (Stn.removeNote s p serial).bill = s.bill ∧ (Stn.removeNote s p serial).cust = s.cust :=
  ⟨rfl, rfl, rfl, rfl, rfl, rfl, rfl, rfl, rfl, rfl⟩

@[simp] theorem Stn.noteTaken_frame (s : Stn) (body : NoteBody) :
    (Stn.noteTaken s body).ctl = s.ctl := by
  (unfold Stn.noteTaken; repeat' split) <;> simp

@[simp] theorem Stn.readTake_frame (p : Station) (s : Stn) (t : Station × NoteSerial) :
    (Stn.readTake p s t).ctl = s.ctl := by
  (unfold Stn.readTake; repeat' split) <;> simp

@[simp] theorem Stn.failNote_frame (s : Stn) (p : Station) (serial : NoteSerial) (body : NoteBody) :
    (Stn.failNote s p serial body).ctl = s.ctl ∧ (Stn.failNote s p serial body).store = s.store ∧
    (Stn.failNote s p serial body).air = s.air ∧ (Stn.failNote s p serial body).ret = s.ret ∧
    (Stn.failNote s p serial body).meter = s.meter := by
  refine ⟨?_, ?_, ?_, ?_, ?_⟩ <;>
    (unfold Stn.failNote; repeat' split) <;> simp

@[simp] theorem Stn.dueForward_frame (s : Stn) (p : Station) (tag : Tag) (n : Note) :
    (Stn.dueForward s p tag n).ctl = s.ctl ∧ (Stn.dueForward s p tag n).cust = s.cust := by
  refine ⟨?_, ?_⟩ <;>
    (unfold Stn.dueForward; repeat' split) <;> simp

@[simp] theorem Stn.dueNote_frame (s : Stn) (p : Station) (serial : NoteSerial) (n : Note) :
    (Stn.dueNote s p serial n).ctl = s.ctl ∧ (Stn.dueNote s p serial n).cust = s.cust := by
  refine ⟨?_, ?_⟩ <;>
    (unfold Stn.dueNote; repeat' split) <;> simp

@[simp] theorem Stn.resolveOne_frame (p : Station) (s : Stn) (serial : NoteSerial) :
    (Stn.resolveOne p s serial).ctl = s.ctl := by
  (unfold Stn.resolveOne; repeat' split) <;> simp

@[simp] theorem Stn.resolve_frame (s : Stn) (p : Station) :
    (Stn.resolve s p).ctl = s.ctl := by
  simp [Stn.resolve]

@[simp] theorem Stn.takeAnswer_frame (s : Stn) (p : Station) (tag : Tag) (res : Result) :
    (Stn.takeAnswer s p tag res).ctl = s.ctl ∧ (Stn.takeAnswer s p tag res).cust = s.cust := by
  refine ⟨?_, ?_⟩ <;>
    (unfold Stn.takeAnswer; repeat' split) <;> simp

@[simp] theorem Stn.takeReturn_frame (s : Stn) (a : Admin) (nextTag : Tag) (lastZone : Option Zone) (m :
    MeterFields) :
    (Stn.takeReturn s a nextTag lastZone m).ctl = s.ctl ∧ (Stn.takeReturn s a nextTag lastZone
    m).intake = s.intake ∧ (Stn.takeReturn s a nextTag lastZone m).req = s.req ∧ (Stn.takeReturn s a
    nextTag lastZone m).store = s.store ∧ (Stn.takeReturn s a nextTag lastZone m).air = s.air ∧
    (Stn.takeReturn s a nextTag lastZone m).ret = s.ret ∧ (Stn.takeReturn s a nextTag lastZone
    m).bill = s.bill ∧ (Stn.takeReturn s a nextTag lastZone m).bus = s.bus := by
  refine ⟨?_, ?_, ?_, ?_, ?_, ?_, ?_, ?_⟩ <;>
    (unfold Stn.takeReturn; repeat' split) <;> simp

@[simp] theorem Stn.takeReturnEnd_frame (w : Places) (s : Stn) :
    (Stn.takeReturnEnd w s).ctl = s.ctl := by
  (unfold Stn.takeReturnEnd; repeat' split) <;> simp

@[simp] theorem Stn.refreshStandby_frame (s : Stn) (refresh : Bool) :
    (Stn.refreshStandby s refresh).ctl = s.ctl ∧ (Stn.refreshStandby s refresh).intake = s.intake ∧
    (Stn.refreshStandby s refresh).req = s.req ∧ (Stn.refreshStandby s refresh).store = s.store ∧
    (Stn.refreshStandby s refresh).air = s.air ∧ (Stn.refreshStandby s refresh).ret = s.ret ∧
    (Stn.refreshStandby s refresh).meter = s.meter ∧ (Stn.refreshStandby s refresh).bill = s.bill ∧
    (Stn.refreshStandby s refresh).bus = s.bus ∧ (Stn.refreshStandby s refresh).cust = s.cust := by
  refine ⟨?_, ?_, ?_, ?_, ?_, ?_, ?_, ?_, ?_, ?_⟩ <;>
    (unfold Stn.refreshStandby; repeat' split) <;> simp

@[simp] theorem Stn.takeMirror_frame (s : Stn) (refresh : Bool) (a : Admin) (nextTag : Tag) :
    (Stn.takeMirror s refresh a nextTag).ctl = s.ctl ∧ (Stn.takeMirror s refresh a
    nextTag).intake = s.intake ∧ (Stn.takeMirror s refresh a nextTag).req = s.req ∧ (Stn.takeMirror s
    refresh a nextTag).store = s.store ∧ (Stn.takeMirror s refresh a nextTag).air = s.air ∧
    (Stn.takeMirror s refresh a nextTag).ret = s.ret ∧ (Stn.takeMirror s refresh a
    nextTag).meter = s.meter ∧ (Stn.takeMirror s refresh a nextTag).bill = s.bill ∧ (Stn.takeMirror s
    refresh a nextTag).bus = s.bus ∧ (Stn.takeMirror s refresh a nextTag).cust = s.cust := by
  refine ⟨?_, ?_, ?_, ?_, ?_, ?_, ?_, ?_, ?_, ?_⟩ <;>
    (unfold Stn.takeMirror; dsimp only; repeat' split) <;> simp

@[simp] theorem Stn.queueTake_frame (s : Stn) (p : Station) (serial : NoteSerial) :
    (Stn.queueTake s p serial).ctl = s.ctl ∧ (Stn.queueTake s p serial).intake = s.intake ∧
    (Stn.queueTake s p serial).req = s.req ∧ (Stn.queueTake s p serial).subs = s.subs ∧ (Stn.queueTake s
    p serial).store = s.store ∧ (Stn.queueTake s p serial).air = s.air ∧ (Stn.queueTake s p
    serial).ret = s.ret ∧ (Stn.queueTake s p serial).meter = s.meter ∧ (Stn.queueTake s p
    serial).bill = s.bill ∧ (Stn.queueTake s p serial).cust = s.cust :=
  ⟨rfl, rfl, rfl, rfl, rfl, rfl, rfl, rfl, rfl, rfl⟩

@[simp] theorem Stn.rememberTake_frame (s : Stn) (p : Station) (serial : NoteSerial) :
    (Stn.rememberTake s p serial).ctl = s.ctl ∧ (Stn.rememberTake s p serial).intake = s.intake ∧
    (Stn.rememberTake s p serial).req = s.req ∧ (Stn.rememberTake s p serial).subs = s.subs ∧
    (Stn.rememberTake s p serial).store = s.store ∧ (Stn.rememberTake s p serial).air = s.air ∧
    (Stn.rememberTake s p serial).ret = s.ret ∧ (Stn.rememberTake s p serial).meter = s.meter ∧
    (Stn.rememberTake s p serial).bill = s.bill ∧ (Stn.rememberTake s p serial).cust = s.cust :=
  ⟨rfl, rfl, rfl, rfl, rfl, rfl, rfl, rfl, rfl, rfl⟩

@[simp] theorem Stn.clearMemory_frame (s : Stn) (p : Station) (state : Member) :
    (Stn.clearMemory s p state).ctl = s.ctl ∧ (Stn.clearMemory s p state).intake = s.intake ∧
    (Stn.clearMemory s p state).req = s.req ∧ (Stn.clearMemory s p state).subs = s.subs ∧
    (Stn.clearMemory s p state).store = s.store ∧ (Stn.clearMemory s p state).air = s.air ∧
    (Stn.clearMemory s p state).ret = s.ret ∧ (Stn.clearMemory s p state).meter = s.meter ∧
    (Stn.clearMemory s p state).bill = s.bill ∧ (Stn.clearMemory s p state).cust = s.cust := by
  refine ⟨?_, ?_, ?_, ?_, ?_, ?_, ?_, ?_, ?_, ?_⟩ <;>
    (unfold Stn.clearMemory; repeat' split) <;> simp

@[simp] theorem Stn.validView_frame (s : Stn) (p : Station) (f : RoundFrame) (episode : Bool) :
    (Stn.validView s p f episode).ctl = s.ctl := by
  ((unfold Stn.validView; dsimp only; repeat' split) <;> simp)

@[simp] theorem Stn.wardJoins_frame (s : Stn) (p : Station) (episode : Bool) :
    (Stn.wardJoins s p episode).ctl = s.ctl := by
  (unfold Stn.wardJoins; repeat' split) <;> simp

@[simp] theorem Stn.giveBack_frame (s : Stn) (k : Station) :
    (Stn.giveBack s k).ctl = s.ctl := by
  (unfold Stn.giveBack; dsimp only; split <;> simp)

@[simp] theorem Stn.liveAgain_frame (s : Stn) (p : Station) (state : Member) :
    (Stn.liveAgain s p state).ctl = s.ctl := by
  (unfold Stn.liveAgain; repeat' split) <;> simp

@[simp] theorem Stn.listed_frame (p : Station) (s : Stn) (k : Station) :
    (Stn.listed p s k).ctl = s.ctl := by
  (unfold Stn.listed; dsimp only; repeat' split) <;> simp

@[simp] theorem Stn.dropped_frame (s : Stn) (p : Station) (f : RoundFrame) :
    (Stn.dropped s p f).ctl = s.ctl := by
  (unfold Stn.dropped; split; rfl; rw [foldl_ctl]; intro s k; split <;> simp)

@[simp] theorem Stn.recordHeard_frame (s : Stn) (p : Station) (f : RoundFrame) :
    (Stn.recordHeard s p f).ctl = s.ctl ∧ (Stn.recordHeard s p f).intake = s.intake ∧ (Stn.recordHeard s
    p f).req = s.req ∧ (Stn.recordHeard s p f).subs = s.subs ∧ (Stn.recordHeard s p f).store = s.store ∧
    (Stn.recordHeard s p f).air = s.air ∧ (Stn.recordHeard s p f).ret = s.ret ∧ (Stn.recordHeard s p
    f).meter = s.meter ∧ (Stn.recordHeard s p f).bill = s.bill ∧ (Stn.recordHeard s p f).bus = s.bus := by
  refine ⟨?_, ?_, ?_, ?_, ?_, ?_, ?_, ?_, ?_, ?_⟩ <;>
    (unfold Stn.recordHeard; repeat' split) <;> simp

@[simp] theorem Stn.custodyPart_frame (s : Stn) (p : Station) (f : RoundFrame) :
    (Stn.custodyPart s p f).ctl = s.ctl := by
  (unfold Stn.custodyPart; dsimp only; rw [Stn.dropped_frame]; split <;> simp)

@[simp] theorem Stn.followPeriod_frame (s : Stn) (p : Period) :
    (Stn.followPeriod s p).ctl = s.ctl ∧ (Stn.followPeriod s p).intake = s.intake ∧ (Stn.followPeriod s
    p).req = s.req ∧ (Stn.followPeriod s p).store = s.store ∧ (Stn.followPeriod s p).air = s.air ∧
    (Stn.followPeriod s p).ret = s.ret ∧ (Stn.followPeriod s p).meter = s.meter ∧ (Stn.followPeriod s
    p).bus = s.bus ∧ (Stn.followPeriod s p).cust = s.cust := by
  refine ⟨?_, ?_, ?_, ?_, ?_, ?_, ?_, ?_, ?_⟩ <;>
    (unfold Stn.followPeriod; repeat' split) <;> simp

@[simp] theorem Stn.billingPart_frame (s : Stn) (p : Station) (f : RoundFrame) :
    (Stn.billingPart s p f).ctl = s.ctl ∧ (Stn.billingPart s p f).intake = s.intake ∧ (Stn.billingPart s
    p f).req = s.req ∧ (Stn.billingPart s p f).store = s.store ∧ (Stn.billingPart s p f).air = s.air ∧
    (Stn.billingPart s p f).ret = s.ret ∧ (Stn.billingPart s p f).meter = s.meter ∧ (Stn.billingPart s p
    f).bus = s.bus ∧ (Stn.billingPart s p f).cust = s.cust := by
  refine ⟨?_, ?_, ?_, ?_, ?_, ?_, ?_, ?_, ?_⟩ <;>
    (unfold Stn.billingPart; dsimp only; repeat' split) <;> simp

@[simp] theorem Stn.actOn_frame (s : Stn) (p : Station) (body : NoteBody) :
    (s.actOn p body).ctl = s.ctl := by
  cases body <;> simp [Stn.actOn]

@[simp] theorem Stn.readNotes_frame (p : Station) (ws : List WireNote) (x : Stn × Bool) :
    (ws.foldl (Stn.readNoteOf p) x).1.ctl = x.1.ctl := by
  induction ws generalizing x with
  | nil => rfl
  | cons w ws ih =>
    rw [List.foldl_cons, ih]
    unfold Stn.readNoteOf
    repeat' split
    all_goals simp

@[simp] theorem Stn.validFrame_frame (s : Stn) (p : Station) (r : RoundPos) (f : RoundFrame) :
    (Stn.validFrame s p r f).ctl = s.ctl := by
  (unfold Stn.validFrame; repeat' split) <;> simp

@[simp] theorem Stn.applyReading_frame (s : Stn) (p : Station) (r : RoundPos) (g : Reading) :
    (Stn.applyReading s p r g).ctl = s.ctl := by
  (unfold Stn.applyReading; repeat' split) <;> simp

@[simp] theorem Stn.windowEnd_frame (s : Stn) (p : Station) (r : RoundPos) (heard : List Byte) :
    (Stn.windowEnd s p r heard).ctl = s.ctl := by
  (unfold Stn.windowEnd; repeat' split) <;> simp

@[simp] theorem Stn.overallLimit_frame (s : Stn) (tag : Tag) :
    (Stn.overallLimit s tag).ctl = s.ctl ∧ (Stn.overallLimit s tag).subs = s.subs ∧ (Stn.overallLimit s
    tag).store = s.store ∧ (Stn.overallLimit s tag).air = s.air ∧ (Stn.overallLimit s tag).ret = s.ret ∧
    (Stn.overallLimit s tag).meter = s.meter ∧ (Stn.overallLimit s tag).bill = s.bill ∧
    (Stn.overallLimit s tag).cust = s.cust := by
  refine ⟨?_, ?_, ?_, ?_, ?_, ?_, ?_, ?_⟩ <;>
    simp [Stn.overallLimit]

@[simp] theorem Stn.judgeEntry_frame (s : Stn) (tag : Tag) :
    (Stn.judgeEntry s tag).ctl = s.ctl ∧ (Stn.judgeEntry s tag).cust = s.cust := by
  refine ⟨?_, ?_⟩ <;>
    (unfold Stn.judgeEntry; repeat' split) <;> simp

@[simp] theorem Stn.countRequests_frame (s : Stn) :
    (Stn.countRequests s).ctl = s.ctl ∧ (Stn.countRequests s).cust = s.cust := by
  refine ⟨?_, ?_⟩ <;>
    simp [Stn.countRequests]

@[simp] theorem Stn.roundEnd_frame (s : Stn) (r : RoundPos) :
    (Stn.roundEnd s r).ctl = s.ctl := by
  (unfold Stn.roundEnd; repeat' split) <;> simp

@[simp] theorem Stn.copyNumbering_frame (s : Stn) (f : FrameNo) :
    (Stn.copyNumbering s f).ctl = s.ctl ∧ (Stn.copyNumbering s f).intake = s.intake ∧ (Stn.copyNumbering
    s f).req = s.req ∧ (Stn.copyNumbering s f).subs = s.subs ∧ (Stn.copyNumbering s f).meter = s.meter ∧
    (Stn.copyNumbering s f).cust = s.cust := by
  refine ⟨?_, ?_, ?_, ?_, ?_, ?_⟩ <;>
    (unfold Stn.copyNumbering; repeat' split) <;> simp

@[simp] theorem Stn.enterReclaiming_frame (s : Stn) : s.enterReclaiming.ctl = s.ctl := by
  simp [Stn.enterReclaiming]

@[simp] theorem Stn.endJoining_frame (s : Stn) (f : FrameNo) :
    (Stn.endJoining s f).ctl = s.ctl := by
  (unfold Stn.endJoining; dsimp only; repeat' split) <;> simp

@[simp] theorem Stn.acceptReport_frame (s : Stn) (q : Report) :
    (Stn.acceptReport s q).ctl = s.ctl ∧ (Stn.acceptReport s q).intake = s.intake ∧ (Stn.acceptReport s
    q).req = s.req ∧ (Stn.acceptReport s q).subs = s.subs ∧ (Stn.acceptReport s q).store = s.store ∧
    (Stn.acceptReport s q).air = s.air ∧ (Stn.acceptReport s q).meter = s.meter ∧ (Stn.acceptReport s
    q).bill = s.bill ∧ (Stn.acceptReport s q).bus = s.bus ∧ (Stn.acceptReport s q).cust = s.cust :=
  ⟨rfl, rfl, rfl, rfl, rfl, rfl, rfl, rfl, rfl, rfl⟩

@[simp] theorem Stn.countLate_frame (s : Stn) :
    (Stn.countLate s).ctl = s.ctl ∧ (Stn.countLate s).intake = s.intake ∧ (Stn.countLate s).req = s.req
    ∧ (Stn.countLate s).subs = s.subs ∧ (Stn.countLate s).store = s.store ∧ (Stn.countLate
    s).air = s.air ∧ (Stn.countLate s).meter = s.meter ∧ (Stn.countLate s).bill = s.bill ∧
    (Stn.countLate s).bus = s.bus ∧ (Stn.countLate s).cust = s.cust :=
  ⟨rfl, rfl, rfl, rfl, rfl, rfl, rfl, rfl, rfl, rfl⟩

@[simp] theorem Stn.acknowledge_frame (s : Stn) (m : Message) :
    (Stn.acknowledge s m).ctl = s.ctl ∧ (Stn.acknowledge s m).intake = s.intake ∧ (Stn.acknowledge s
    m).req = s.req ∧ (Stn.acknowledge s m).bill = s.bill ∧ (Stn.acknowledge s m).cust = s.cust := by
  refine ⟨?_, ?_, ?_, ?_, ?_⟩ <;>
    (unfold Stn.acknowledge; repeat' split) <;> simp

@[simp] theorem Stn.enterHold_frame (s : Stn) (r : Record) (serial : Serial) :
    (Stn.enterHold s r serial).ctl = s.ctl ∧ (Stn.enterHold s r serial).intake = s.intake ∧
    (Stn.enterHold s r serial).req = s.req ∧ (Stn.enterHold s r serial).subs = s.subs ∧ (Stn.enterHold s
    r serial).meter = s.meter ∧ (Stn.enterHold s r serial).bill = s.bill ∧ (Stn.enterHold s r
    serial).bus = s.bus ∧ (Stn.enterHold s r serial).cust = s.cust :=
  ⟨rfl, rfl, rfl, rfl, rfl, rfl, rfl, rfl⟩

@[simp] theorem Stn.hold_frame (s : Stn) (r : Record) (m : Message) :
    (Stn.hold s r m).ctl = s.ctl ∧ (Stn.hold s r m).intake = s.intake ∧ (Stn.hold s r m).req = s.req ∧
    (Stn.hold s r m).subs = s.subs ∧ (Stn.hold s r m).meter = s.meter ∧ (Stn.hold s r m).bill = s.bill ∧
    (Stn.hold s r m).bus = s.bus ∧ (Stn.hold s r m).cust = s.cust := by
  refine ⟨?_, ?_, ?_, ?_, ?_, ?_, ?_, ?_⟩ <;>
    (unfold Stn.hold; repeat' split) <;> simp

@[simp] theorem Stn.readyReport_frame (s : Stn) (r : Record) :
    (Stn.readyReport s r).ctl = s.ctl ∧ (Stn.readyReport s r).intake = s.intake ∧ (Stn.readyReport s
    r).req = s.req ∧ (Stn.readyReport s r).subs = s.subs ∧ (Stn.readyReport s r).air = s.air ∧
    (Stn.readyReport s r).ret = s.ret ∧ (Stn.readyReport s r).meter = s.meter ∧ (Stn.readyReport s
    r).bill = s.bill ∧ (Stn.readyReport s r).bus = s.bus ∧ (Stn.readyReport s r).cust = s.cust := by
  refine ⟨?_, ?_, ?_, ?_, ?_, ?_, ?_, ?_, ?_, ?_⟩ <;>
    (unfold Stn.readyReport; repeat' split) <;> simp

@[simp] theorem Stn.register_frame (s : Stn) (r : Record) (z : Zone) :
    (Stn.register s r z).ctl = s.ctl ∧ (Stn.register s r z).intake = s.intake ∧ (Stn.register s r
    z).req = s.req ∧ (Stn.register s r z).ret = s.ret ∧ (Stn.register s r z).bill = s.bill ∧
    (Stn.register s r z).cust = s.cust := by
  refine ⟨?_, ?_, ?_, ?_, ?_, ?_⟩ <;>
    (unfold Stn.register; dsimp only; repeat' split) <;> simp

theorem Stn.matchTag_frame (s : Stn) (r : Record) (tag : Tag) (act : Message → Stn)
    (h : ∀ m,
    (act m).ctl = s.ctl ∧ (act m).intake = s.intake ∧ (act m).req = s.req ∧ (act m).bill = s.bill ∧
    (act m).cust = s.cust) :
    (s.matchTag r tag act).ctl = s.ctl ∧ (s.matchTag r tag act).intake = s.intake ∧
    (s.matchTag r tag act).req = s.req ∧ (s.matchTag r tag act).bill = s.bill ∧
    (s.matchTag r tag act).cust = s.cust := by
  unfold Stn.matchTag
  repeat' split
  all_goals first | exact h _ | simp

@[simp] theorem Stn.actOnRecord_frame (s : Stn) (r : Record) (q : Report) :
    (s.actOnRecord r q).ctl = s.ctl ∧ (s.actOnRecord r q).intake = s.intake ∧
    (s.actOnRecord r q).req = s.req ∧ (s.actOnRecord r q).bill = s.bill ∧
    (s.actOnRecord r q).cust = s.cust := by
  cases q with
  | received a tag => exact Stn.matchTag_frame s r tag _ fun m => by simp
  | full a tag => exact Stn.matchTag_frame s r tag _ fun m => by simp
  | ready a => simp [Stn.actOnRecord]
  | register a z => simp [Stn.actOnRecord]

@[simp] theorem Stn.lookupReport_frame (s : Stn) (q : Report) :
    (Stn.lookupReport s q).ctl = s.ctl ∧ (Stn.lookupReport s q).intake = s.intake ∧ (Stn.lookupReport s
    q).req = s.req ∧ (Stn.lookupReport s q).bill = s.bill ∧ (Stn.lookupReport s q).cust = s.cust := by
  refine ⟨?_, ?_, ?_, ?_, ?_⟩ <;>
    (unfold Stn.lookupReport; repeat' split) <;> simp

@[simp] theorem Stn.goodReport_frame (s : Stn) (q : Report) :
    (Stn.goodReport s q).ctl = s.ctl ∧ (Stn.goodReport s q).intake = s.intake ∧ (Stn.goodReport s
    q).req = s.req ∧ (Stn.goodReport s q).bill = s.bill ∧ (Stn.goodReport s q).cust = s.cust := by
  refine ⟨?_, ?_, ?_, ?_, ?_⟩ <;>
    (unfold Stn.goodReport; repeat' split) <;> simp

@[simp] theorem Stn.badReport_frame (s : Stn) :
    (Stn.badReport s).ctl = s.ctl ∧ (Stn.badReport s).intake = s.intake ∧ (Stn.badReport s).req = s.req
    ∧ (Stn.badReport s).subs = s.subs ∧ (Stn.badReport s).store = s.store ∧ (Stn.badReport
    s).air = s.air ∧ (Stn.badReport s).meter = s.meter ∧ (Stn.badReport s).bill = s.bill ∧
    (Stn.badReport s).bus = s.bus ∧ (Stn.badReport s).cust = s.cust :=
  ⟨rfl, rfl, rfl, rfl, rfl, rfl, rfl, rfl, rfl, rfl⟩

@[simp] theorem Stn.takeReport_frame (s : Stn) (q : Report) :
    (Stn.takeReport s q).ctl = s.ctl ∧ (Stn.takeReport s q).intake = s.intake ∧ (Stn.takeReport s
    q).req = s.req ∧ (Stn.takeReport s q).bill = s.bill ∧ (Stn.takeReport s q).cust = s.cust := by
  refine ⟨?_, ?_, ?_, ?_, ?_⟩ <;>
    (unfold Stn.takeReport; repeat' split) <;> simp

@[simp] theorem Stn.receive_frame (s : Stn) (l : LineNo) (value : Byte) (mark parityBit stopBit : Bool)
    :
    (Stn.receive s l value mark parityBit stopBit).ctl = s.ctl ∧ (Stn.receive s l value mark parityBit
    stopBit).req = s.req ∧ (Stn.receive s l value mark parityBit stopBit).subs = s.subs ∧ (Stn.receive s
    l value mark parityBit stopBit).store = s.store ∧ (Stn.receive s l value mark parityBit
    stopBit).air = s.air ∧ (Stn.receive s l value mark parityBit stopBit).ret = s.ret ∧ (Stn.receive s l
    value mark parityBit stopBit).meter = s.meter ∧ (Stn.receive s l value mark parityBit
    stopBit).bill = s.bill ∧ (Stn.receive s l value mark parityBit stopBit).bus = s.bus ∧ (Stn.receive s
    l value mark parityBit stopBit).cust = s.cust := by
  refine ⟨?_, ?_, ?_, ?_, ?_, ?_, ?_, ?_, ?_, ?_⟩ <;>
    (unfold Stn.receive; repeat' split) <;> simp

@[simp] theorem Stn.breakLine_frame (s : Stn) (l : LineNo) :
    (Stn.breakLine s l).ctl = s.ctl ∧ (Stn.breakLine s l).req = s.req ∧ (Stn.breakLine s
    l).subs = s.subs ∧ (Stn.breakLine s l).store = s.store ∧ (Stn.breakLine s l).air = s.air ∧
    (Stn.breakLine s l).ret = s.ret ∧ (Stn.breakLine s l).meter = s.meter ∧ (Stn.breakLine s
    l).bill = s.bill ∧ (Stn.breakLine s l).bus = s.bus ∧ (Stn.breakLine s l).cust = s.cust := by
  refine ⟨?_, ?_, ?_, ?_, ?_, ?_, ?_, ?_, ?_, ?_⟩ <;>
    (unfold Stn.breakLine; repeat' split) <;> simp

@[simp] theorem Stn.meetTerminator_frame (s : Stn) (l : LineNo) :
    (Stn.meetTerminator s l).cust = s.cust := by
  (unfold Stn.meetTerminator; repeat' split) <;> simp

@[simp] theorem Stn.transmit_frame (s : Stn) (l : LineNo) :
    (Stn.transmit s l).ctl = s.ctl ∧ (Stn.transmit s l).cust = s.cust := by
  refine ⟨?_, ?_⟩ <;>
    (unfold Stn.transmit; dsimp only; repeat' split) <;> simp

@[simp] theorem Stn.replyDone_frame (s : Stn) (l : LineNo) :
    (Stn.replyDone s l).ctl = s.ctl ∧ (Stn.replyDone s l).cust = s.cust := by
  refine ⟨?_, ?_⟩ <;>
    (unfold Stn.replyDone; repeat' split) <;> simp

@[simp] theorem Stn.drivePort_frame (s : Stn) (acts : List PortAct) :
    (s.drivePort acts).intake = s.intake ∧ (s.drivePort acts).req = s.req ∧ (s.drivePort acts).subs =
    s.subs ∧ (s.drivePort acts).store = s.store ∧ (s.drivePort acts).air = s.air ∧ (s.drivePort
    acts).ret = s.ret ∧ (s.drivePort acts).meter = s.meter ∧ (s.drivePort acts).bill = s.bill ∧
    (s.drivePort acts).bus = s.bus ∧ (s.drivePort acts).cust = s.cust :=
  ⟨rfl, rfl, rfl, rfl, rfl, rfl, rfl, rfl, rfl, rfl⟩

@[simp] theorem Stn.leaveHeld_frame (s : Stn) (straps : BitVec 4) :
    (Stn.leaveHeld s straps).intake = s.intake ∧ (Stn.leaveHeld s straps).req = s.req ∧ (Stn.leaveHeld s
    straps).subs = s.subs ∧ (Stn.leaveHeld s straps).store = s.store ∧ (Stn.leaveHeld s
    straps).air = s.air ∧ (Stn.leaveHeld s straps).ret = s.ret ∧ (Stn.leaveHeld s
    straps).meter = s.meter ∧ (Stn.leaveHeld s straps).bill = s.bill ∧ (Stn.leaveHeld s
    straps).bus = s.bus ∧ (Stn.leaveHeld s straps).cust = s.cust :=
  ⟨rfl, rfl, rfl, rfl, rfl, rfl, rfl, rfl, rfl, rfl⟩

@[simp] theorem Stn.tryStart_frame (s : Stn) (straps : BitVec 4) :
    (Stn.tryStart s straps).intake = s.intake ∧ (Stn.tryStart s straps).req = s.req ∧ (Stn.tryStart s
    straps).subs = s.subs ∧ (Stn.tryStart s straps).store = s.store ∧ (Stn.tryStart s
    straps).air = s.air ∧ (Stn.tryStart s straps).ret = s.ret ∧ (Stn.tryStart s straps).meter = s.meter
    ∧ (Stn.tryStart s straps).bill = s.bill ∧ (Stn.tryStart s straps).bus = s.bus ∧ (Stn.tryStart s
    straps).cust = s.cust := by
  refine ⟨?_, ?_, ?_, ?_, ?_, ?_, ?_, ?_, ?_, ?_⟩ <;>
    (unfold Stn.tryStart; repeat' split) <;> simp

@[simp] theorem Stn.startLines_frame (s : Stn) :
    (Stn.startLines s).ctl = s.ctl ∧ (Stn.startLines s).req = s.req ∧ (Stn.startLines s).subs = s.subs ∧
    (Stn.startLines s).store = s.store ∧ (Stn.startLines s).air = s.air ∧ (Stn.startLines s).ret = s.ret
    ∧ (Stn.startLines s).meter = s.meter ∧ (Stn.startLines s).bill = s.bill ∧ (Stn.startLines
    s).bus = s.bus ∧ (Stn.startLines s).cust = s.cust :=
  ⟨rfl, rfl, rfl, rfl, rfl, rfl, rfl, rfl, rfl, rfl⟩

@[simp] theorem Stn.close_frame (s : Stn) (img : Image) :
    (Stn.close s img).req = s.req ∧ (Stn.close s img).subs = s.subs ∧ (Stn.close s img).store = s.store
    ∧ (Stn.close s img).air = s.air ∧ (Stn.close s img).ret = s.ret ∧ (Stn.close s img).meter = s.meter
    ∧ (Stn.close s img).bill = s.bill ∧ (Stn.close s img).bus = s.bus :=
  ⟨rfl, rfl, rfl, rfl, rfl, rfl, rfl, rfl⟩

@[simp] theorem Stn.refuse_frame (s : Stn) :
    (Stn.refuse s).req = s.req ∧ (Stn.refuse s).subs = s.subs ∧ (Stn.refuse s).store = s.store ∧
    (Stn.refuse s).air = s.air ∧ (Stn.refuse s).ret = s.ret ∧ (Stn.refuse s).meter = s.meter ∧
    (Stn.refuse s).bill = s.bill ∧ (Stn.refuse s).bus = s.bus ∧ (Stn.refuse s).cust = s.cust :=
  ⟨rfl, rfl, rfl, rfl, rfl, rfl, rfl, rfl, rfl⟩

@[simp] theorem Stn.readComplete_frame (s : Stn) (bytes : List Byte) :
    (Stn.readComplete s bytes).req = s.req ∧ (Stn.readComplete s bytes).subs = s.subs ∧
    (Stn.readComplete s bytes).store = s.store ∧ (Stn.readComplete s bytes).air = s.air ∧
    (Stn.readComplete s bytes).ret = s.ret ∧ (Stn.readComplete s bytes).meter = s.meter ∧
    (Stn.readComplete s bytes).bill = s.bill ∧ (Stn.readComplete s bytes).bus = s.bus := by
  refine ⟨?_, ?_, ?_, ?_, ?_, ?_, ?_, ?_⟩ <;>
    (unfold Stn.readComplete; repeat' split) <;> simp

end Sys2Proof.Machine
end

