-- ==== Sys2Proof/Tests/Slice0.lean ====
section
/-!
SUPPORT. Tests: an ill-formed command for each check of WellFormed; for each statement of Obligations.lean, a
concrete state and operands that meet the hypotheses of each of its clauses; and a few results of single
steps. The theorem witness_X applies the statement X at those states: every hypothesis of the clause is
proved there by evaluation, and the conclusion says which commands the clause then answers for.
-/

namespace Sys2Proof.Tests

open Sys2Proof.Machine

set_option Elab.async false
set_option maxRecDepth 100000


/-! ### WellFormed: what each check refuses -/

theorem test_subWf : (Instr.suspend (.peer 2 7) 10000000).wf = false ∧ (Instr.suspend (.peer 2 7) 9999999).wf = true := by
  decide
theorem test_bodyWf_length :
    (Instr.submit (.peer 2 7) 1000001 .normal []).wf = false ∧
    (Instr.submit (.peer 2 7) 1000001 .normal (List.replicate 201 0x41)).wf = false ∧
    (Instr.submit (.peer 2 7) 1000001 .normal (List.replicate 200 0x41)).wf = true := by decide +kernel
theorem test_printableWf : (Instr.submit (.peer 2 7) 1000001 .normal [0x7F]).wf = false ∧
    (Instr.submit (.peer 2 7) 1000001 .normal [0x7E]).wf = true := by decide
theorem test_zonesWf : (Instr.enrol (.peer 2 7) 1000001 5 .alpha 0 0 0 none none).wf = false ∧
    (Instr.enrol (.peer 2 7) 1000001 5 .alpha 0 0 0x80 none none).wf = true := by decide
theorem test_groupWf : (Instr.amend (.peer 2 7) 1000001 [.zones 0]).wf = false := by decide
theorem test_groupsWf : (Instr.amend (.peer 2 7) 1000001 []).wf = false ∧
    (Instr.amend (.peer 2 7) 1000001 (List.replicate 9 .clearLimit)).wf = false ∧
    (Instr.amend (.peer 2 7) 1000001 (List.replicate 8 .clearLimit)).wf = true := by decide
theorem test_reportWf : (Instr.badReport []).wf = false ∧ (Instr.badReport (List.replicate 8 0)).wf = false ∧
    (Instr.badReport (0x31 :: List.replicate 5 0)).wf = false ∧ (Instr.badReport [0x99]).wf = true ∧
    (Instr.badReport (0x31 :: List.replicate 6 0)).wf = true := by decide
theorem test_gapWf : (Instr.reportGap []).wf = false ∧ (Instr.reportGap [0x99]).wf = false ∧
    (Instr.reportGap (0x31 :: List.replicate 6 0)).wf = false ∧
    (Instr.reportGap (0x31 :: List.replicate 5 0)).wf = true := by decide
theorem test_orderWf : (Instr.airFrameStart 100 [1, 1]).wf = false ∧ (Instr.airFrameStart 100 [1, 2]).wf = true := by
  decide

/-! ### Queue and words -/

theorem test_noWordSpellsACommand (nbits w : Nat) : decodeTableWord nbits w = none := rfl
theorem test_emptyQueueIdles : step State.reset = .next State.reset := rfl

/-! ### Witness states -/

/-- A plan of two steps and two rounds: at the home zones twice, then everywhere once. -/
def plan : Plan :=
  { steps := [⟨.home, 2, 3, false⟩, ⟨.all, 1, 4, true⟩], rounds := 2, roundGap := 5, hold := 20 }

/-- The same plan with no round gap. -/
def gapless : Plan := { plan with roundGap := 0 }

/-- Stations 1, 2 and 3 with a range each; every line is an operator's. -/
def image : Image :=
  { Image.blank with
    office := 1207, roster := 0x000E,
    ranges := [⟨1000000, 1999999, 1⟩, ⟨2000000, 2999999, 2⟩, ⟨3000000, 3999999, 3⟩],
    lines := Vector.replicate 4 ⟨.operator, .none, 9600⟩, tariffs := Vector.replicate 8 ⟨6, 2, 3⟩,
    validUrgent := 100, validNormal := 200, plans := (Vector.replicate 8 plan).set 1 gapless,
    silence := 3, quorum := 1, width := 2, notice := str "QUOTA" }

/-- A member of the office map, its own custodian. -/
def member (k : Station) (v : View) : MapEntry :=
  { station := k, view := v, silent := 0, custodian := some k, silence := 0 }

/-- Station 1, whose buddy is 2 and whose ward is 3, LIVE in frame 100, with nothing stored. -/
def live : State := { State.reset with stn := { Stn.reset with
  ctl := { phase := .closed, resetAsserted := false, supplyValid := true, station := 1, image := some image,
           port := [] },
  intake.lines := Vector.replicate 4 { Line.reset with ready := true },
  cust := { Stn.reset.cust with state := .live, map := [member 1 .live, member 2 .live, member 3 .live] },
  store.frame := 100,
  air := { Stn.reset.air with frame := 100, begun := true }, bus.mark := 100 } }

/-- A change to the station. -/
def on (s : State) (f : Stn → Stn) : State := { s with stn := f s.stn }

/-- The administrative fields of subscriber 1000001. -/
def admin : Admin := ⟨1000001, 77, .twoWay, 0, 0, 0x06, .active, none, none⟩

/-- A HOME record with nothing in its queue. -/
def record : Record :=
  { admin := admin, origin := .home, home := 1, returning := false, nextTag := 9, queue := [],
    lastZone := none, meter := ⟨20, 5, 1, 0, 0, false, false, false⟩ }

/-- An ADOPTED record of the ward. -/
def adopted : Record :=
  { record with admin := { admin with sub := 3000001, addr := 88 }, origin := .adopted, home := 3 }

/-- Records in the active table. -/
def holding (s : State) (l : List Record) : State := on s fun x => { x with subs.active := l }

/-- Stations 1 to 3 with the same view of peers 2 and 3. -/
def viewing (s : State) (buddy ward : View) : State :=
  on s fun x => { x with cust.map := [member 1 .live, member 2 buddy, member 3 ward] }

/-- Line 0. -/
def line0 (s : State) (f : Line → Line) : State := on s fun x => x.updLine 0 f

/-- A message of the record, in flight. -/
def message (serial : Serial) (st : MsgState) (l : Option Ladder) : Message :=
  { serial := serial, sub := 1000001, priority := .normal, origin := .caller, blocks := [str "HELLO"],
    tag := some 8, state := st, target := none, ladder := l, expiry := 1000, reserved := 8,
    transmissions := 1, pending := none }

/-- The record with these messages, a first one READY in its list, and a page of each one LOADED. -/
def storing (r : Record) (l : List Message) : State :=
  on live fun x => { x with
    subs.active := [{ r with queue := l.map (·.serial), meter.reserved := (l.map (·.reserved)).sum }],
    store.messages := l,
    store.serial := 50,
    store.normal := (l.filter fun m => decide (m.state = .ready)).map (·.serial) }

/-- The record with the queue it has in `storing`. -/
def owner (r : Record) (l : List Message) : Record :=
  { r with queue := l.map (·.serial), meter.reserved := (l.map (·.reserved)).sum }

/-- A round position, with the windows still to come. -/
def inRound (s : State) (index : Fin 4) (left : List Station) : State :=
  on s fun x => { x with bus.round := some ⟨100, index, left⟩ }

/-- Station 1's own window is next. -/
def inOwn (s : State) (index : Fin 4) : State := inRound s index [1, 2, 3]

/-- Peer 2's window is next. -/
def inBuddy (s : State) (index : Fin 4) : State := inRound s index [2, 3]

/-- Peer 3's window is next. -/
def inWard (s : State) (index : Fin 4) : State := inRound s index [3]

/-- Every window has ended. -/
def atEnd (s : State) (index : Fin 4) : State := inRound s index []

/-- Context 3 of line 0 collects an entry. -/
def collecting (s : State) : State :=
  line0 s fun x => { x.withCtx 3 { state := .collecting, buffer := str "M/1000001", gen := 4 } with current := some 3 }

/-- The terminator of that entry is at the oldest end of the FIFO, with a loss behind it, and no context is left. -/
def terminated (text : List Byte) (s : State) : State :=
  line0 s fun x => { x.withCtx 3 { state := .collecting, buffer := text, gen := 4 } with
    current := some 3, fifo := [⟨0x0D, false, true⟩, ⟨0x41, false, false⟩] }

/-- A pending entry for station 2. -/
def entry (tag : Tag) (st : PendState) : PendEntry :=
  { line := 0, ctx := 3, gen := 0, role := .operator, text := str "M/2000001",
    request := some (.meterRead 2000001), tag := tag, route := .home 2, target := some 2, state := st,
    deferrals := 0, rounds := 0, wait := 0 }

/-- Entries in the pending request table. -/
def pending (s : State) (l : List PendEntry) : State := on s fun x => { x with req.pend := l }

/-- Notes in the outbox. -/
def noted (s : State) (l : List Note) : State := on s fun x => { x with bus.outbox := l }

/-- A note to peer 2. -/
def note (body : NoteBody) : Note := Note.fresh 2 body .here .none

/-! ### A witness for every clause of every statement -/

theorem witness_StepRunsTheFrontCommand (h : Obligations.StepRunsTheFrontCommand) :
    step State.reset = .next State.reset := by
  have a := h.2 State.reset (by decide +kernel)
  exact a

def heldUp (a v : Bool) : State := on State.reset fun x => { x with ctl.resetAsserted := a, ctl.supplyValid := v }

theorem witness_StartUpFollowsResetLineAndSupply (h : Obligations.StartUpFollowsResetLineAndSupply) :
    Answers (exec (.resetLineReleased 9) State.reset) ∧
    Answers (exec (.resetLineReleased 9) (heldUp true false)) ∧
    Answers (exec (.supplyValid 9) (heldUp false false)) ∧
    Answers (exec (.supplyValid 9) (heldUp true false)) := by
  have a := (h.2 State.reset 9).1 (by decide +kernel)
  have b := (h.2 (heldUp true false) 9).2.1 (by decide +kernel)
  have c := (h.2 (heldUp false false) 9).2.2.1 (by decide +kernel)
  have d := (h.2 (heldUp true false) 9).2.2.2 (by decide +kernel)
  exact ⟨⟨_, a⟩, ⟨_, b⟩, ⟨_, c⟩, ⟨_, d⟩⟩

def reading (second : Bool) : State := on State.reset fun x => { x with ctl.phase := .reading second, ctl.station := 1 }
/-- The bytes of an image of stations 1 and 2, with two roster members. -/
def imageBytes (roster : Nat) : List Byte :=
  withCheck (be 2 0x4C12 ++ be 2 511 ++ be 2 1207 ++ be 2 roster ++
    (be 1 129 ++ be 3 1000000 ++ be 3 1999999) ++ (be 1 130 ++ be 3 2000000 ++ be 3 2999999) ++
    List.replicate 98 0 ++ (List.replicate 4 (131 : Byte)) ++
    ((List.range 8).flatMap fun _ => be 2 6 ++ be 2 2 ++ be 2 2) ++ be 2 100 ++ be 2 200 ++
    ((List.range 8).flatMap fun _ =>
      be 1 1 ++ be 1 1 ++ be 1 0 ++ be 1 131 ++ be 1 4 ++ List.replicate 28 0 ++ be 1 1 ++ be 1 0 ++ be 1 20) ++
    be 1 3 ++ be 1 1 ++ be 1 2 ++ be 1 5 ++ str "QUOTA" ++ List.replicate 35 0 ++ be 1 3)

theorem witness_ConfigurationReadOutcomes (h : Obligations.ConfigurationReadOutcomes) :
    Answers (exec (.configurationReadComplete []) (reading false)) ∧
    Answers (exec (.configurationReadComplete []) (reading true)) ∧
    Answers (exec (.configurationReadComplete (imageBytes 2)) (reading false)) ∧
    Answers (exec (.configurationReadComplete (imageBytes 6)) (reading true)) := by
  have a := (h (reading false) false [] (by decide +kernel)).1 (by decide +kernel) (by decide +kernel)
  have b := (h (reading true) true [] (by decide +kernel)).2.1 (by decide +kernel) (by decide +kernel)
  have c := (h (reading false) false (imageBytes 0x0002) (by decide +kernel)).2.2.1 (by decide +kernel) (by decide +kernel)
  have d := (h (reading true) true (imageBytes 0x0006) (by decide +kernel)).2.2.2.1 ((readImage 1 (imageBytes 0x0006)).getD Image.blank) (by decide +kernel) (by decide +kernel)
  have e := (h (reading false) false (imageBytes 0x0006) (by decide +kernel)).2.2.2.2 ((readImage 1 (imageBytes 0x0006)).getD Image.blank) (by decide +kernel) (by decide +kernel) (by decide +kernel)
  exact ⟨⟨_, a⟩, ⟨_, b⟩, ⟨_, c⟩, ⟨_, d⟩⟩

def data (n : Nat) : List FifoEntry := List.replicate n ⟨0x41, false, false⟩
def received (n : Nat) (st : CtxState) : State :=
  line0 live fun x => { (x.withCtx 3 { state := st, buffer := str "A", gen := 4 }) with fifo := data n, current := some 3 }

theorem witness_CharacterReceivedIsStoredOrLost (h : Obligations.CharacterReceivedIsStoredOrLost) :
    Answers (exec (.characterReceived 0 66 false true true) (received 7 .collecting)) ∧
    Answers (exec (.characterReceived 0 66 false true true) (received 4 .collecting)) ∧
    Answers (exec (.characterReceived 0 66 false true true) (received 8 .collecting)) ∧
    Answers (exec (.characterReceived 0 66 false true false) (received 8 .collecting)) ∧
    Answers (exec (.characterReceived 0 66 false true false) (received 0 .idle)) ∧
    Answers (exec (.characterReceived 0 66 false true false) (received 0 .collecting)) ∧
    sentParity .none 65 true = none := by
  have a := (h.1 (received 7 .collecting) 0 0x42 false true true (by decide +kernel)).1 (by decide +kernel) (by decide +kernel)
  have a' := (h.1 (received 4 .collecting) 0 0x42 false true true (by decide +kernel)).1 (by decide +kernel) (by decide +kernel)
  have b := (h.1 (received 8 .collecting) 0 0x42 false true true (by decide +kernel)).2.1 (by decide +kernel) (by decide +kernel)
  have c := (h.1 (received 8 .collecting) 0 0x42 false true false (by decide +kernel)).2.2.1 (by decide +kernel) (by decide +kernel)
  have d := (h.1 (received 0 .idle) 0 0x42 false true false (by decide +kernel)).2.2.2.1 (by decide +kernel) (by decide +kernel) (by decide +kernel)
  have e := (h.1 (received 0 .collecting) 0 0x42 false true false (by decide +kernel)).2.2.2.2 3 (by decide +kernel) (by decide +kernel) (by decide +kernel) (by decide +kernel)
  have f := h.2 0x41 true true
  have f1 := f.2.2.2.1; have f2 := f.2.2.2.2.1; have f3 := f.2.2.2.2.2
  exact ⟨⟨_, a⟩, ⟨_, a'⟩, ⟨_, b⟩, ⟨_, c⟩, ⟨_, d⟩, ⟨_, e⟩, f1⟩

def headed (v : Byte) (mark loss : Bool) (st : CtxState) : State :=
  line0 live fun x => { (x.withCtx 3 { state := st, buffer := str "A", gen := 255 }) with
    fifo := ⟨v, mark, loss⟩ :: data 2, current := some 5, ready := false }

theorem witness_BreakAndMarkCharactersChangeContexts (h : Obligations.BreakAndMarkCharactersChangeContexts) :
    Answers (exec (.lineBreak 0) (headed 3 true false .awaiting)) ∧
    Answers (exec (.markSelect 0) (headed 15 true false .idle)) ∧
    Answers (exec (.markSelect 0) (headed 3 true true .collecting)) ∧
    Answers (exec (.markSelect 0) (headed 3 true true .awaiting)) ∧
    Answers (exec (.markAbandon 0) (headed 131 true false .collecting)) ∧
    Answers (exec (.orphanMark 0) (headed 16 true false .collecting)) := by
  have z := h.1 (headed 3 true false .awaiting) 0 (by decide +kernel)
  have a := (h.2 (headed 0x0F true false .idle) 0 ⟨0x0F, true, false⟩ (data 2) (by decide +kernel) (by decide +kernel) (by decide +kernel)).1 (by decide +kernel) (by decide +kernel)
  have b := (h.2 (headed 0x03 true true .collecting) 0 ⟨0x03, true, true⟩ (data 2) (by decide +kernel) (by decide +kernel) (by decide +kernel)).2.1 (by decide +kernel) (by decide +kernel) (by decide +kernel)
  have b' := (h.2 (headed 0x03 true true .awaiting) 0 ⟨0x03, true, true⟩ (data 2) (by decide +kernel) (by decide +kernel) (by decide +kernel)).2.2.1 (by decide +kernel) (by decide +kernel) (by decide +kernel)
  have c := (h.2 (headed 0x83 true false .collecting) 0 ⟨0x83, true, false⟩ (data 2) (by decide +kernel) (by decide +kernel) (by decide +kernel)).2.2.2.1 (by decide +kernel) (by decide +kernel)
  have d := (h.2 (headed 0x10 true false .collecting) 0 ⟨0x10, true, false⟩ (data 2) (by decide +kernel) (by decide +kernel) (by decide +kernel)).2.2.2.2 (by decide +kernel) (by decide +kernel) (by decide +kernel)
  exact ⟨⟨_, z⟩, ⟨_, a⟩, ⟨_, b⟩, ⟨_, b'⟩, ⟨_, c⟩, ⟨_, d⟩⟩

def taking (v : Byte) (cur : Option CtxNo) (st : CtxState) (n : Nat) (lost : Bool := false) : State :=
  line0 live fun x => { (x.withCtx 3 { state := st, buffer := List.replicate n 0x41, gen := 255 }) with
    fifo := ⟨v, false, lost⟩ :: data 2, current := cur }

theorem witness_DataCharactersAreAssembled (h : Obligations.DataCharactersAreAssembled) :
    Answers (exec (.dataCharacter 0) (taking 32 (some 3) .idle 0 true)) ∧
    Answers (exec (.dataCharacter 0) (taking 66 (some 3) (.damaged Damage.tooLong) 0 true)) ∧
    Answers (exec (.dataCharacter 0) (taking 66 (some 3) .collecting 240 true)) ∧
    Answers (exec (.terminator 0) (taking 13 none .idle 0)) ∧
    Answers (exec (.dataCharacter 0) (taking 66 none .idle 0)) ∧
    Answers (exec (.dataCharacter 0) (taking 32 (some 3) .idle 0)) ∧
    Answers (exec (.dataCharacter 0) (taking 127 (some 3) .idle 0)) ∧
    Answers (exec (.dataCharacter 0) (taking 126 (some 3) .collecting 239)) ∧
    Answers (exec (.dataCharacter 0) (taking 66 (some 3) .collecting 240)) ∧
    Answers (exec (.dataCharacter 0) (taking 31 (some 3) .collecting 5)) ∧
    Answers (exec (.dataCharacter 0) (taking 66 (some 3) (.damaged Damage.tooLong) 0)) ∧
    Answers (exec (.dataCharacter 0) (taking 66 (some 3) .awaiting 0)) := by
  have y := h.1 (taking 0x0D none .idle 0) 0 false (data 2) (by decide +kernel) (by decide +kernel) (by decide +kernel)
  have z := (h.2 (taking 0x42 none .idle 0) 0 0x42 false (data 2) (by decide +kernel) (by decide +kernel) (by decide +kernel)).1 (by decide +kernel)
  have a := ((h.2 (taking 0x20 (some 3) .idle 0) 0 0x20 false (data 2) (by decide +kernel) (by decide +kernel) (by decide +kernel)).2 3 (by decide +kernel)).1 (by decide +kernel) (by decide +kernel)
  have b := ((h.2 (taking 0x7F (some 3) .idle 0) 0 0x7F false (data 2) (by decide +kernel) (by decide +kernel) (by decide +kernel)).2 3 (by decide +kernel)).2.1 (by decide +kernel) (by decide +kernel)
  have c := ((h.2 (taking 0x7E (some 3) .collecting 239) 0 0x7E false (data 2) (by decide +kernel) (by decide +kernel) (by decide +kernel)).2 3 (by decide +kernel)).2.2.1 (by decide +kernel) (by decide +kernel) (by decide +kernel)
  have d := ((h.2 (taking 0x42 (some 3) .collecting 240) 0 0x42 false (data 2) (by decide +kernel) (by decide +kernel) (by decide +kernel)).2 3 (by decide +kernel)).2.2.2.1 (by decide +kernel) (by decide +kernel) (by decide +kernel)
  have e := ((h.2 (taking 0x1F (some 3) .collecting 5) 0 0x1F false (data 2) (by decide +kernel) (by decide +kernel) (by decide +kernel)).2 3 (by decide +kernel)).2.2.2.2.1 (by decide +kernel) (by decide +kernel)
  have f := ((h.2 (taking 0x42 (some 3) (.damaged .tooLong) 0) 0 0x42 false (data 2) (by decide +kernel) (by decide +kernel) (by decide +kernel)).2 3 (by decide +kernel)).2.2.2.2.2.1 .tooLong (by decide +kernel)
  have g := ((h.2 (taking 0x42 (some 3) .awaiting 0) 0 0x42 false (data 2) (by decide +kernel) (by decide +kernel) (by decide +kernel)).2 3 (by decide +kernel)).2.2.2.2.2.2 (by decide +kernel)
  have x := ((h.2 (taking 0x20 (some 3) .idle 0 true) 0 0x20 true (data 2) (by decide +kernel) (by decide +kernel) (by decide +kernel)).2 3 (by decide +kernel)).1 (by decide +kernel) (by decide +kernel)
  have t := ((h.2 (taking 0x42 (some 3) (.damaged .tooLong) 0 true) 0 0x42 true (data 2) (by decide +kernel) (by decide +kernel) (by decide +kernel)).2 3 (by decide +kernel)).2.2.2.2.2.1 .tooLong (by decide +kernel)
  have u := ((h.2 (taking 0x42 (some 3) .collecting 240 true) 0 0x42 true (data 2) (by decide +kernel) (by decide +kernel) (by decide +kernel)).2 3 (by decide +kernel)).2.2.2.1 (by decide +kernel) (by decide +kernel) (by decide +kernel)
  exact ⟨⟨_, x⟩, ⟨_, t⟩, ⟨_, u⟩, ⟨_, y⟩, ⟨_, z⟩, ⟨_, a⟩, ⟨_, b⟩, ⟨_, c⟩, ⟨_, d⟩, ⟨_, e⟩, ⟨_, f⟩, ⟨_, g⟩⟩

def ending (cur : Option CtxNo) (st : CtxState) (text : List Byte) (replies : Nat) (lost : Bool := false) : State :=
  line0 live fun x => { (x.withCtx 3 { state := st, buffer := text, gen := 255 }) with
    fifo := ⟨0x0D, false, lost⟩ :: data 2, current := cur, replies := List.replicate replies ⟨5, 0, str "O"⟩ }
def offlined (s : State) : State := on s fun x => { x with ctl.phase := .refused }
def pendFull (s : State) : State := pending s ((List.range 16).map fun i => entry (BitVec.ofNat 8 i) .awaiting)

theorem witness_TerminatorsDiscardRefuseOrStop (h : Obligations.TerminatorsDiscardRefuseOrStop) :
    Answers (exec (.terminator 0) (ending (some 3) .idle [] 0 true)) ∧
    Answers (exec (.terminator 0) (pendFull (ending (some 3) .collecting (str "T") 0 true))) ∧
    Answers (exec (.terminator 0) (ending (some 3) .collecting (str "Z/1") 7 true)) ∧
    Answers (exec (.terminator 0) (ending none .idle [] 0)) ∧
    Answers (exec (.terminator 0) (ending (some 3) .idle [] 0)) ∧
    Answers (exec (.terminator 0) (ending (some 3) .awaiting [] 0)) ∧
    Answers (exec (.terminator 0) (ending (some 3) (.damaged Damage.damaged) [] 7)) ∧
    Answers (exec (.terminator 0) (ending (some 3) (.damaged Damage.tooLong) [] 7)) ∧
    Answers (exec (.terminator 0) (offlined (ending (some 3) .collecting (str "T") 7))) ∧
    Answers (exec (.terminator 0) (ending (some 3) (.damaged Damage.tooLong) [] 8)) ∧
    Answers (exec (.terminator 0) (pendFull (ending (some 3) .collecting (str "T") 0))) ∧
    Answers (exec (.terminator 0) (ending (some 3) .collecting (str "Z/1") 7)) := by
  have z := (h.1 (ending none .idle [] 0) 0 false (data 2) (by decide +kernel) (by decide +kernel)).1 (by decide +kernel)
  have a := ((h.1 (ending (some 3) .idle [] 0) 0 false (data 2) (by decide +kernel) (by decide +kernel)).2 3 (by decide +kernel)).1 (by decide +kernel)
  have b := ((h.1 (ending (some 3) .awaiting [] 0) 0 false (data 2) (by decide +kernel) (by decide +kernel)).2 3 (by decide +kernel)).2.1 (by decide +kernel)
  have c := ((h.1 (ending (some 3) (.damaged .damaged) [] 7) 0 false (data 2) (by decide +kernel) (by decide +kernel)).2 3 (by decide +kernel)).2.2.1 (by decide +kernel) (by decide +kernel) (by decide +kernel)
  have d := ((h.1 (ending (some 3) (.damaged .tooLong) [] 7) 0 false (data 2) (by decide +kernel) (by decide +kernel)).2 3 (by decide +kernel)).2.2.2.1 (by decide +kernel) (by decide +kernel) (by decide +kernel)
  have e := ((h.1 (offlined (ending (some 3) .collecting (str "T") 7)) 0 false (data 2) (by decide +kernel) (by decide +kernel)).2 3 (by decide +kernel)).2.2.2.2.1 (by decide +kernel) (by decide +kernel) (by exact (.inl (by decide +kernel)))
  have f := ((h.1 (ending (some 3) (.damaged .tooLong) [] 8) 0 false (data 2) (by decide +kernel) (by decide +kernel)).2 3 (by decide +kernel)).2.2.2.2.2.1 (by decide +kernel) (by exact ⟨.tooLong, by decide +kernel⟩)
  have g := ((h.1 (pendFull (ending (some 3) .collecting (str "T") 0)) 0 false (data 2) (by decide +kernel) (by decide +kernel)).2 3 (by decide +kernel)).2.2.2.2.2.2 (by decide +kernel) (by decide +kernel) (by decide +kernel)
  have i := h.2 (ending (some 3) .collecting (str "Z/1") 7) 0 false (data 2) 3 .badSyntax (by exact ⟨by decide +kernel, by decide +kernel, by decide +kernel, by decide +kernel⟩) (by decide +kernel) (by decide +kernel) (by decide +kernel) (by decide +kernel) (by decide +kernel)
  have z' := ((h.1 (ending (some 3) .idle [] 0 true) 0 true (data 2) (by decide +kernel) (by decide +kernel)).2 3 (by decide +kernel)).1 (by decide +kernel)
  have g' := ((h.1 (pendFull (ending (some 3) .collecting (str "T") 0 true)) 0 true (data 2) (by decide +kernel) (by decide +kernel)).2 3 (by decide +kernel)).2.2.2.2.2.2 (by decide +kernel) (by decide +kernel) (by decide +kernel)
  have i' := h.2 (ending (some 3) .collecting (str "Z/1") 7 true) 0 true (data 2) 3 .badSyntax (by exact ⟨by decide +kernel, by decide +kernel, by decide +kernel, by decide +kernel⟩) (by decide +kernel) (by decide +kernel) (by decide +kernel) (by decide +kernel) (by decide +kernel)
  exact ⟨⟨_, z'⟩, ⟨_, g'⟩, ⟨_, i'⟩, ⟨_, z⟩, ⟨_, a⟩, ⟨_, b⟩, ⟨_, c⟩, ⟨_, d⟩, ⟨_, e⟩, ⟨_, f⟩, ⟨_, g⟩, ⟨_, i⟩⟩

def replying (l : List LineReply) (sending : Option (List LineChar)) : State :=
  line0 live fun x => { x with replies := l, sending := sending }
def heldReply (gen : BitVec 8) (n : Nat) : State :=
  let s := pending (replying (List.replicate n ⟨5, 0, str "O"⟩) (if n = 8 then some [⟨5, true, none⟩] else none))
    [{ entry 7 (.holding (str "O")) with gen := gen }]
  on s fun x => { x with req.holdOrder := [7] }
def stopped : State := line0 (heldReply 4 8) fun x => { (x.withCtx 6 { state := .damaged .damaged, buffer := [], gen := 4 }) with
  fifo := ⟨0x0D, false, false⟩ :: data 2, current := some 6 }

theorem witness_RepliesLeaveInTurnAndHeldOnesFollow (h : Obligations.RepliesLeaveInTurnAndHeldOnesFollow) :
    Answers (exec (.replyTransmitStart 0) (replying [{ ctx := 3, gen := 1, text := str "O" : LineReply }, { ctx := 4, gen := 0, text := str "K/1-00000" : LineReply }, { ctx := 5, gen := 0, text := str "O" : LineReply }] none)) ∧
    Answers (exec (.replyTransmitStart 0) (replying [{ ctx := 3, gen := 1, text := str "O" : LineReply }] none)) ∧
    Answers (exec (.replyTransmitStart 0) (replying [{ ctx := 3, gen := 0, text := str "O" : LineReply }] (some [{ value := 3, mark := true, parity := none : LineChar }]))) ∧
    Answers (exec (.replySent 0) (replying [{ ctx := 3, gen := 0, text := str "O" : LineReply }] (some [{ value := 3, mark := true, parity := none : LineChar }]))) ∧
    Answers (exec (.replySent { line := (entry 7 (.holding (str "O"))).line, ctx := (entry 7 (.holding (str "O"))).ctx, gen := 0, role := (entry 7 (.holding (str "O"))).role, text := (entry 7 (.holding (str "O"))).text, request := (entry 7 (.holding (str "O"))).request, tag := (entry 7 (.holding (str "O"))).tag, route := (entry 7 (.holding (str "O"))).route, target := (entry 7 (.holding (str "O"))).target, state := (entry 7 (.holding (str "O"))).state, deferrals := (entry 7 (.holding (str "O"))).deferrals, rounds := (entry 7 (.holding (str "O"))).rounds, wait := (entry 7 (.holding (str "O"))).wait : PendEntry }.line) (heldReply 0 8)) ∧
    Answers (exec (.heldReplyOffer { line := (entry 7 (.holding (str "O"))).line, ctx := (entry 7 (.holding (str "O"))).ctx, gen := 4, role := (entry 7 (.holding (str "O"))).role, text := (entry 7 (.holding (str "O"))).text, request := (entry 7 (.holding (str "O"))).request, tag := (entry 7 (.holding (str "O"))).tag, route := (entry 7 (.holding (str "O"))).route, target := (entry 7 (.holding (str "O"))).target, state := (entry 7 (.holding (str "O"))).state, deferrals := (entry 7 (.holding (str "O"))).deferrals, rounds := (entry 7 (.holding (str "O"))).rounds, wait := (entry 7 (.holding (str "O"))).wait : PendEntry }.line) (heldReply 4 7)) ∧
    Answers (exec (.heldReplyOffer { line := (entry 7 (.holding (str "O"))).line, ctx := (entry 7 (.holding (str "O"))).ctx, gen := 0, role := (entry 7 (.holding (str "O"))).role, text := (entry 7 (.holding (str "O"))).text, request := (entry 7 (.holding (str "O"))).request, tag := (entry 7 (.holding (str "O"))).tag, route := (entry 7 (.holding (str "O"))).route, target := (entry 7 (.holding (str "O"))).target, state := (entry 7 (.holding (str "O"))).state, deferrals := (entry 7 (.holding (str "O"))).deferrals, rounds := (entry 7 (.holding (str "O"))).rounds, wait := (entry 7 (.holding (str "O"))).wait : PendEntry }.line) (heldReply 0 8)) ∧
    Answers (exec (.heldReplyOffer { line := (entry 7 (.holding (str "O"))).line, ctx := (entry 7 (.holding (str "O"))).ctx, gen := 4, role := (entry 7 (.holding (str "O"))).role, text := (entry 7 (.holding (str "O"))).text, request := (entry 7 (.holding (str "O"))).request, tag := (entry 7 (.holding (str "O"))).tag, route := (entry 7 (.holding (str "O"))).route, target := (entry 7 (.holding (str "O"))).target, state := (entry 7 (.holding (str "O"))).state, deferrals := (entry 7 (.holding (str "O"))).deferrals, rounds := (entry 7 (.holding (str "O"))).rounds, wait := (entry 7 (.holding (str "O"))).wait : PendEntry }.line) (heldReply 4 8)) ∧
    Answers (exec (.replySent 0) stopped) ∧
    Answers (exec (.heldReplyOffer { line := (entry 7 (.holding (str "O"))).line, ctx := (entry 7 (.holding (str "O"))).ctx, gen := 0, role := (entry 7 (.holding (str "O"))).role, text := (entry 7 (.holding (str "O"))).text, request := (entry 7 (.holding (str "O"))).request, tag := (entry 7 (.holding (str "O"))).tag, route := (entry 7 (.holding (str "O"))).route, target := (entry 7 (.holding (str "O"))).target, state := (entry 7 (.holding (str "O"))).state, deferrals := (entry 7 (.holding (str "O"))).deferrals, rounds := (entry 7 (.holding (str "O"))).rounds, wait := (entry 7 (.holding (str "O"))).wait : PendEntry }.line) (heldReply 0 7)) := by
  have a := ((h.1 (replying [⟨3, 1, str "O"⟩, ⟨4, 0, str "K/1-00000"⟩, ⟨5, 0, str "O"⟩] none) 0 (by decide +kernel) (by decide +kernel) (by decide +kernel) (by decide +kernel)).1 (by decide +kernel)).1 [⟨3, 1, str "O"⟩] ⟨4, 0, str "K/1-00000"⟩ [⟨5, 0, str "O"⟩] (by decide +kernel) (by decide +kernel) (by decide +kernel)
  have b := ((h.1 (replying [⟨3, 1, str "O"⟩] none) 0 (by decide +kernel) (by decide +kernel) (by decide +kernel) (by decide +kernel)).1 (by decide +kernel)).2 (by decide +kernel)
  have c := ((h.1 (replying [⟨3, 0, str "O"⟩] (some [⟨3, true, none⟩])) 0 (by decide +kernel) (by decide +kernel) (by decide +kernel) (by decide +kernel)).2 [⟨3, true, none⟩] (by decide +kernel))
  have c1 := c.1; have c2 := c.2
  have g := h.2.1 stopped 0 false (data 2) 6 [⟨5, true, none⟩] (by decide +kernel) (by decide +kernel) (by decide +kernel) (by decide +kernel) (by decide +kernel) (by decide +kernel) (by decide +kernel)
  have d := (h.2.2 (heldReply 0 8) { entry 7 (.holding (str "O")) with gen := 0 } (str "O") (by decide +kernel) (by decide +kernel) (by decide +kernel) (by decide +kernel) (by decide +kernel)).1 [⟨5, true, none⟩] (by decide +kernel) (by decide +kernel) (by decide +kernel)
  have j := (h.2.2 (heldReply 0 7) { entry 7 (.holding (str "O")) with gen := 0 } (str "O") (by decide +kernel) (by decide +kernel) (by decide +kernel) (by decide +kernel) (by decide +kernel)).2.1 (by decide +kernel) (by decide +kernel)
  have e := (h.2.2 (heldReply 4 7) { entry 7 (.holding (str "O")) with gen := 4 } (str "O") (by decide +kernel) (by decide +kernel) (by decide +kernel) (by decide +kernel) (by decide +kernel)).2.2.1 (by decide +kernel) (by decide +kernel)
  have f := (h.2.2 (heldReply 0 8) { entry 7 (.holding (str "O")) with gen := 0 } (str "O") (by decide +kernel) (by decide +kernel) (by decide +kernel) (by decide +kernel) (by decide +kernel)).2.2.2 (by decide +kernel)
  have f' := (h.2.2 (heldReply 4 8) { entry 7 (.holding (str "O")) with gen := 4 } (str "O") (by decide +kernel) (by decide +kernel) (by decide +kernel) (by decide +kernel) (by decide +kernel)).2.2.2 (by decide +kernel)
  exact ⟨⟨_, a⟩, ⟨_, b⟩, ⟨_, c1⟩, ⟨_, c2⟩, ⟨_, d⟩, ⟨_, e⟩, ⟨_, f⟩, ⟨_, f'⟩, ⟨_, g⟩, ⟨_, j⟩⟩

def requests : List Request :=
  [.submit 9999999 .urgent (str "A"), .cancel 15 65535, .query 0 0,
   .enrol 0 0x1FFFFF .alpha 7 7 0xFF (some 0xFFFFFFFF) none, .amend 5 (List.replicate 8 .clearLimit),
   .suspend 1000001, .resume 1000001, .withdraw 1000001, .meterRead 1000001, .periodClose, .status true]

theorem witness_ParseReadsBackEveryEntryText (h : Obligations.ParseReadsBackEveryEntryText) :
    parseEntry .operator (requestText (.submit 9999999 .urgent (List.replicate 200 0x7E))) =
      .ok (.submit 9999999 .urgent (List.replicate 200 0x7E)) := by
  have e : requests.all Request.wf = true := by decide +kernel
  have a := h.1 (.submit 9999999 .urgent (List.replicate 200 0x7E)) (by decide +kernel)
  have b := h.2 (.submit 9999999 .urgent (List.replicate 200 0x7E)) (by decide +kernel)
  have c : requests.all (fun q => decide (parseEntry .operator (requestText q) = .ok q)) = true := by decide +kernel
  exact a

theorem witness_WellFormedCommandsPassTheFieldTests (h : Obligations.WellFormedCommandsPassTheFieldTests) :
    Laws.FieldTests.Statement (.amend (.peer 2 7) 9999999 (List.replicate 8 .clearLimit)) := by
  have a := h (.amend (.peer 2 7) 9999999 (List.replicate 8 .clearLimit))
  exact a

def cached (l : List (Nat × Station)) : State := on live fun x => { x with req.cache := l }
def unserved : State := on live fun x => { x with cust.map := [member 1 .live, { member 2 .failed with custodian := none }, member 3 .live] }
def copy (m : StandbyMark) : StandbyRec := { admin := { admin with sub := 3000001, addr := 88 }, nextTag := 4, mark := m }
def mirrored (m : StandbyMark) (custodian : Option Station) (walk : ReturnWalk) : State :=
  on live fun x => { x with subs.standby := [copy m], subs.ret := walk,
                            cust.map := [member 1 .live, member 2 .live, { member 3 .live with custodian := custodian }] }

theorem witness_RoutingAndLookupOfARequest (h : Obligations.RoutingAndLookupOfARequest) :
    live.stn.routing (.suspend 4000000) = .refuse .unknownSubscriber ∧
    (cached [(2000001, 3)]).stn.routing (.suspend 2000001) = .to (.home 2) 3 ∧
    (cached [(2000001, 3)]).stn.routing (.suspend 2000002) = .to (.home 2) 2 ∧
    unserved.stn.routing (.suspend 2000002) = .refuse .noService ∧
    live.stn.routing (.cancel 4 9) = .refuse .unknownReceipt ∧
    live.stn.routing (.query 2 9) = .to (.receipt 2) 2 ∧
    unserved.stn.routing (.query 2 9) = .refuse .unknownReceipt ∧
    (mirrored .returned (some 3) .idle).stn.lookup 3000001 3 = .moved 3 ∧
    (mirrored .unadopted (some 3) .idle).stn.lookup 3000001 3 = .noService ∧
    (mirrored .plain (some 1) .waiting).stn.lookup 3000001 3 = .notYet ∧
    (mirrored .plain (some 3) .idle).stn.lookup 3000001 3 = .moved 3 ∧
    (mirrored .plain (some 1) .idle).stn.lookup 3000001 3 = .noService ∧
    (mirrored .plain (some 1) .waiting).stn.lookup 3000002 3 = .notYet ∧
    live.stn.lookup 1000002 1 = .absent ∧
    (mirrored .plain (some 3) .idle).stn.lookup 3000002 3 = .moved 3 ∧
    (mirrored .plain none .idle).stn.lookup 3000002 3 = .noService := by
  have a := ((h.1 live.stn (.suspend 4000000)).1 4000000 (by decide +kernel)).1 (by decide +kernel)
  have b := ((h.1 (cached [(2000001, 3)]).stn (.suspend 2000001)).1 2000001 (by decide +kernel)).2.1 2 3 (by decide +kernel) (by decide +kernel) (by decide +kernel)
  have c := ((h.1 (cached [(2000001, 3)]).stn (.suspend 2000002)).1 2000002 (by decide +kernel)).2.2.1 2 2 (by decide +kernel) (by decide +kernel) (by decide +kernel)
  have d := ((h.1 unserved.stn (.suspend 2000002)).1 2000002 (by decide +kernel)).2.2.2 2 (by decide +kernel) (by decide +kernel) (by decide +kernel)
  have e := ((h.1 live.stn (.cancel 4 9)).2 4 9 (by exact .inl rfl)).1 (by decide +kernel)
  have f := ((h.1 live.stn (.query 2 9)).2 2 9 (by exact .inr rfl)).2.1 (by decide +kernel) (by decide +kernel)
  have g := ((h.1 unserved.stn (.query 2 9)).2 2 9 (by exact .inr rfl)).2.2 (by decide +kernel) (by decide +kernel)
  have la := (h.2 (holding live [record]).stn 1000001 1).1 record (by decide +kernel)
  have la' := (h.2 (holding live [{ record with returning := true }]).stn 1000001 1).1 { record with returning := true } (by decide +kernel)
  have lb := ((h.2 (mirrored .returned (some 3) .idle).stn 3000001 3).2.1 (copy .returned) (by decide +kernel) (by decide +kernel)).1 (by decide +kernel)
  have lc := ((h.2 (mirrored .unadopted (some 3) .idle).stn 3000001 3).2.1 (copy .unadopted) (by decide +kernel) (by decide +kernel)).2.1 (by decide +kernel)
  have ld := ((h.2 (mirrored .plain (some 1) .waiting).stn 3000001 3).2.1 (copy .plain) (by decide +kernel) (by decide +kernel)).2.2.1 (by decide +kernel) (by decide +kernel)
  have le := ((h.2 (mirrored .plain (some 3) .idle).stn 3000001 3).2.1 (copy .plain) (by decide +kernel) (by decide +kernel)).2.2.2.1 3 (by decide +kernel) (by decide +kernel) (by decide +kernel) (by decide +kernel)
  have lf := ((h.2 (mirrored .plain (some 1) .idle).stn 3000001 3).2.1 (copy .plain) (by decide +kernel) (by decide +kernel)).2.2.2.2 (by decide +kernel) (by decide +kernel) (by decide +kernel)
  have lg := ((h.2 (mirrored .plain (some 1) .waiting).stn 3000002 3).2.2 (by decide +kernel) (by decide +kernel)).1 (by decide +kernel)
  have li := ((h.2 live.stn 1000002 1).2.2 (by decide +kernel) (by decide +kernel)).2.1 (by decide +kernel) (by decide +kernel)
  have lj := ((h.2 (mirrored .plain (some 1) .idle).stn 3000002 3).2.2 (by decide +kernel) (by decide +kernel)).2.2.1 (by decide +kernel) (by decide +kernel) (by decide +kernel)
  have lk := ((h.2 (mirrored .plain (some 3) .idle).stn 3000002 3).2.2 (by decide +kernel) (by decide +kernel)).2.2.2.1 3 (by decide +kernel) (by decide +kernel) (by decide +kernel) (by decide +kernel)
  have ll := ((h.2 (mirrored .plain none .idle).stn 3000002 3).2.2 (by decide +kernel) (by decide +kernel)).2.2.2.2 (by decide +kernel) (by decide +kernel) (by decide +kernel)
  exact ⟨a, b, c, d, e, f, g, lb, lc, ld, le, lf, lg, li, lk, ll⟩

def joining (s : State) : State := on s fun x => { x with cust.state := .joining }
theorem mayHandOver (s : State) (h : s.stn.ctl.phase = .closed ∧ s.stn.req.pend.length < Config.pendingCap ∧
    s.stn.intake.waiting = [] ∧ ∀ t ∈ s.stn.req.holdOrder, ∃ e ∈ s.stn.req.pend, e.tag = t) : MayHandOver s.stn := h
theorem byRow (i : Instr) (s : State) (q : Request) (text : List Byte) (parsed : Except Word Request)
    (h : (s.stn.line 0).current = some 3 ∧ ((s.stn.line 0).ctx 3).state = .collecting ∧ i.request? = some q ∧
      i.requester? = some (.context 0 3) ∧ text = requestText q ∧
      parsed = admitted (s.stn.lineSettings 0).role q) :
    HandsOver i s.stn 0 3 text parsed (s.stn.line 0) :=
  ⟨h.1, h.2.1, .inl ⟨q, h.2.2.1, h.2.2.2.1, h.2.2.2.2.1, h.2.2.2.2.2, rfl⟩⟩
theorem byTerminator (s : State) (text : List Byte) (rest : List FifoEntry) (lost : Bool)
    (parsed : Except Word Request)
    (h : (s.stn.line 0).current = some 3 ∧ ((s.stn.line 0).ctx 3).state = .collecting ∧
      (s.stn.line 0).fifo = ⟨0x0D, false, lost⟩ :: rest ∧ text = ((s.stn.line 0).ctx 3).buffer ∧
      parsed = parseEntry (s.stn.lineSettings 0).role text) :
    HandsOver (.terminator 0) s.stn 0 3 text parsed ((s.stn.line 0).took rest) :=
  ⟨h.1, h.2.1, .inr ⟨lost, rest, rfl, h.2.2.1, h.2.2.2.1, h.2.2.2.2, rfl⟩⟩
/-- The station that executes the only request of context 3. -/
def executed (s : State) (text : List Byte) (q : Request) (route : Route) (y : Line) : Stn × Result :=
  let u := (s.withLine 0 y).stn
  (u.handed 0 3 (u.handedEntry 0 3 text q route 1 .localHere)).execute q
def after0D : List FifoEntry := [⟨0x41, false, false⟩]

theorem witness_ContextRequestsAreExecutedHere (h : Obligations.ContextRequestsAreExecutedHere) :
    Answers (exec (.meterRead (.context 0 3) 1000001) (collecting (holding live [record]))) ∧
    Answers (exec (.statusClear 0 3) (collecting (joining live))) ∧
    Answers (exec (.terminator 0) (terminated (str "U/1000001") (holding live [record]))) := by
  have a := h (.meterRead (.context 0 3) 1000001) (.meterRead 1000001) (collecting (holding live [record])) 0 3 (str "M/1000001") ((collecting (holding live [record])).stn.line 0) (.home 1) (executed (collecting (holding live [record])) (str "M/1000001") (.meterRead 1000001) (.home 1) ((collecting (holding live [record])).stn.line 0)).1 (str "V/20/0/-/1/0/0") (byRow _ _ (.meterRead 1000001) _ _ (by decide +kernel)) (mayHandOver _ (by decide +kernel)) (by exact .inl (by decide +kernel)) (by decide +kernel) (by decide +kernel) (by decide +kernel)
  have b := h (.statusClear 0 3) (.status true) (collecting (joining live)) 0 3 (str "T/C") ((collecting (joining live)).stn.line 0) .here (executed (collecting (joining live)) (str "T/C") (.status true) .here ((collecting (joining live)).stn.line 0)).1 (collecting (joining live)).stn.statusText (byRow _ _ (.status true) _ _ (by decide +kernel)) (mayHandOver _ (by decide +kernel)) (by exact .inr ⟨true, rfl⟩) (by decide +kernel) (by decide +kernel) (by decide +kernel)
  have c := h (.terminator 0) (.suspend 1000001) (terminated (str "U/1000001") (holding live [record])) 0 3 (str "U/1000001") (((terminated (str "U/1000001") (holding live [record])).stn.line 0).took after0D) (.home 1) (executed (terminated (str "U/1000001") (holding live [record])) (str "U/1000001") (.suspend 1000001) (.home 1) (((terminated (str "U/1000001") (holding live [record])).stn.line 0).took after0D)).1 (str "O") (byTerminator _ _ after0D true _ (by decide +kernel)) (mayHandOver _ (by decide +kernel)) (by exact .inl (by decide +kernel)) (by decide +kernel) (by decide +kernel) (by decide +kernel)
  exact ⟨⟨_, a⟩, ⟨_, b⟩, ⟨_, c⟩⟩

def crowded (s : State) (n : Nat) : State := noted s (List.replicate n (note (.mirrorRemove 5)))
theorem noEntryWaits (s : State) (h : s.stn.req.pend = []) : NoEntryWaits s.stn := fun e he => by rw [h] at he; cases he
def asking (n : Nat) : State := collecting (crowded live n)
def typed (text : String) (n : Nat) : State := terminated (str text) (crowded live n)

theorem witness_ContextRequestsAreRefusedForwardedOrKept (h : Obligations.ContextRequestsAreRefusedForwardedOrKept) :
    Answers (exec (.suspend (.context 0 3) 4000000) (asking 0)) ∧
    Answers (exec (.suspend (.context 0 3) 10000000) (asking 0)) ∧
    Answers (exec (.terminator 0) (typed "U/4000000" 0)) ∧
    Answers (exec (.suspend (.context 0 3) 2000001) (asking 31)) ∧
    Answers (exec (.terminator 0) (typed "U/2000001" 31)) ∧
    Answers (exec (.suspend (.context 0 3) 2000001) (asking 32)) ∧
    Answers (exec (.suspend (.context 0 3) 1000001) (joining (asking 0))) ∧
    Answers (exec (.terminator 0) (joining (typed "U/1000001" 0))) ∧
    Answers (exec (.suspend (.context 0 3) 1000001) (pendFull (asking 0))) ∧
    Answers (exec (.status 0 3) State.reset) ∧
    Answers (exec (.periodClose 0 3) live) ∧
    Answers (exec (.periodClose 0 3) (received 0 .awaiting)) := by
  have a := (h.1 (.suspend (.context 0 3) 4000000) (.suspend 4000000) (asking 0) 0 3 (str "U/4000000") (admitted .operator (.suspend 4000000)) _ (byRow _ _ (.suspend 4000000) _ _ (by decide +kernel)) (mayHandOver _ (by decide +kernel))).1 .unknownSubscriber (by decide +kernel) (by exact .inr (by decide +kernel))
  have a' := (h.1 (.suspend (.context 0 3) 10000000) (.suspend 10000000) (asking 0) 0 3 (requestText (.suspend 10000000)) (admitted .operator (.suspend 10000000)) _ (byRow _ _ (.suspend 10000000) _ _ (by decide +kernel)) (mayHandOver _ (by decide +kernel))).1 .badSyntax (by decide +kernel) (by exact .inl (by decide +kernel))
  have a1 := (h.1 (.terminator 0) (.suspend 4000000) (typed "U/4000000" 0) 0 3 (str "U/4000000") (parseEntry .operator (str "U/4000000")) _ (byTerminator _ _ after0D true _ (by decide +kernel)) (mayHandOver _ (by decide +kernel))).1 .unknownSubscriber (by decide +kernel) (by exact .inr (by decide +kernel))
  have b := (h.1 (.suspend (.context 0 3) 2000001) (.suspend 2000001) (asking 31) 0 3 (str "U/2000001") (.ok (.suspend 2000001)) _ (byRow _ _ (.suspend 2000001) _ _ (by decide +kernel)) (mayHandOver _ (by decide +kernel))).2.1 (.home 2) 2 (by decide +kernel) (by decide +kernel) (by decide +kernel) (by decide +kernel) (noEntryWaits _ (by decide +kernel)) (by decide +kernel)
  have b1 := (h.1 (.terminator 0) (.suspend 2000001) (typed "U/2000001" 31) 0 3 (str "U/2000001") (.ok (.suspend 2000001)) _ (byTerminator _ _ after0D true _ (by decide +kernel)) (mayHandOver _ (by decide +kernel))).2.1 (.home 2) 2 (by decide +kernel) (by decide +kernel) (by decide +kernel) (by decide +kernel) (noEntryWaits _ (by decide +kernel)) (by decide +kernel)
  have c := (h.1 (.suspend (.context 0 3) 2000001) (.suspend 2000001) (asking 32) 0 3 (str "U/2000001") (.ok (.suspend 2000001)) _ (byRow _ _ (.suspend 2000001) _ _ (by decide +kernel)) (mayHandOver _ (by decide +kernel))).2.2.1 (.home 2) 2 (by decide +kernel) (by decide +kernel) (by decide +kernel) (by decide +kernel)
  have d := (h.1 (.suspend (.context 0 3) 1000001) (.suspend 1000001) (joining (asking 0)) 0 3 (str "U/1000001") (.ok (.suspend 1000001)) _ (byRow _ _ (.suspend 1000001) _ _ (by decide +kernel)) (mayHandOver _ (by decide +kernel))).2.2.2 (.home 1) (by decide +kernel) (by decide +kernel) (by decide +kernel) (by exact nofun)
  have d1 := (h.1 (.terminator 0) (.suspend 1000001) (joining (typed "U/1000001" 0)) 0 3 (str "U/1000001") (.ok (.suspend 1000001)) _ (byTerminator _ _ after0D true _ (by decide +kernel)) (mayHandOver _ (by decide +kernel))).2.2.2 (.home 1) (by decide +kernel) (by decide +kernel) (by decide +kernel) (by exact nofun)
  have e := h.2 (.suspend (.context 0 3) 1000001) (pendFull (asking 0)) 0 3 (by exact ⟨_, rfl⟩) (by decide +kernel) (by exact .inl (by decide +kernel))
  have f := h.2 (.status 0 3) State.reset 0 3 (by exact ⟨_, rfl⟩) (by decide +kernel) (by exact .inr (.inl (by decide +kernel)))
  have g := h.2 (.periodClose 0 3) live 0 3 (by exact ⟨_, rfl⟩) (by decide +kernel) (by exact .inr (.inr (.inl (by decide +kernel))))
  have i := h.2 (.periodClose 0 3) (received 0 .awaiting) 0 3 (by exact ⟨_, rfl⟩) (by decide +kernel) (by exact .inr (.inr (.inr (by decide +kernel))))
  exact ⟨⟨_, a⟩, ⟨_, a'⟩, ⟨_, a1⟩, ⟨_, b⟩, ⟨_, b1⟩, ⟨_, c⟩, ⟨_, d⟩, ⟨_, d1⟩, ⟨_, e⟩, ⟨_, f⟩, ⟨_, g⟩, ⟨_, i⟩⟩

def busy (g : Grant) (d : DrainWalk) : State := on live fun x => { x with subs.grant := g, subs.drain := d }
theorem nobodyBehind : ∀ k, live.stn.bill.peers.get k = none := by decide +kernel
def behind : State := on live fun x => { x with bill.peers := x.bill.peers.set 2 (some (0, true)) }
def strayed : State := line0 live fun x => { x with orphans := 7 }
def mixed (st : Member) : State := on strayed fun x => { x with
  cust.state := st, cust.map := [member 1 .live, member 2 .silent, { member 3 .failed with custodian := none }],
  air.frame := 3102, bill.period := 21, bus.resent := 10, ret.late := 65535, meter.billed := 281474976710655,
  subs.drain := .running none, subs.standbyComplete := true }

theorem witness_PeriodCloseAndStatusOfACallContext (h : Obligations.PeriodCloseAndStatusOfACallContext) :
    Answers (exec (.periodClose 0 3) (collecting live)) ∧
    Answers (exec (.terminator 0) (terminated (str "P") live)) ∧
    Answers (exec (.periodClose 0 3) (collecting (busy .drain (.running none)))) ∧
    Answers (exec (.periodClose 0 3) (collecting (busy .ret .idle))) ∧
    Answers (exec (.periodClose 0 3) (collecting behind)) ∧
    Answers (exec (.status 0 3) (collecting live)) ∧
    Answers (exec (.statusClear 0 3) (collecting live)) ∧
    Answers (exec (.terminator 0) (terminated (str "T/C") live)) ∧
    dec 9 = [BitVec.ofNat 8 (48 + 9)] ∧
    dec 10 = dec (10 / 10) ++ dec (10 % 10) ∧
    dec 281474976710655 = dec (281474976710655 / 10) ++ dec (281474976710655 % 10) := by
  have a := (h.1 (.periodClose 0 3) (collecting live) 0 3 (str "P") _ (byRow _ _ .periodClose _ _ (by decide +kernel)) (mayHandOver _ (by decide +kernel)) (by decide +kernel) (by decide +kernel)).1 (by decide +kernel) (by decide +kernel) (by exact fun ⟨k, _, _, _, _, _, hp, _⟩ => absurd ((nobodyBehind k).symm.trans hp) nofun)
  have a' := (h.1 (.terminator 0) (terminated (str "P") live) 0 3 (str "P") _ (byTerminator _ _ after0D true _ (by decide +kernel)) (mayHandOver _ (by decide +kernel)) (by decide +kernel) (by decide +kernel)).1 (by decide +kernel) (by decide +kernel) (by exact fun ⟨k, _, _, _, _, _, hp, _⟩ => absurd ((nobodyBehind k).symm.trans hp) nofun)
  have b := (h.1 (.periodClose 0 3) (collecting (busy .drain (.running none))) 0 3 (str "P") _ (byRow _ _ .periodClose _ _ (by decide +kernel)) (mayHandOver _ (by decide +kernel)) (by decide +kernel) (by decide +kernel)).2 (by exact .inl (by decide +kernel))
  have c := (h.1 (.periodClose 0 3) (collecting (busy .ret .idle)) 0 3 (str "P") _ (byRow _ _ .periodClose _ _ (by decide +kernel)) (mayHandOver _ (by decide +kernel)) (by decide +kernel) (by decide +kernel)).2 (by exact .inr (.inl (by decide +kernel)))
  have d := (h.1 (.periodClose 0 3) (collecting behind) 0 3 (str "P") _ (byRow _ _ .periodClose _ _ (by decide +kernel)) (mayHandOver _ (by decide +kernel)) (by decide +kernel) (by decide +kernel)).2 (by exact .inr (.inr ⟨2, by decide +kernel, by decide +kernel, by decide +kernel, 0, true, by decide +kernel, .inl rfl⟩))
  have e := (h.2.1 (.status 0 3) (collecting live) 0 3 (str "T") _ false (byRow _ _ (.status false) _ _ (by decide +kernel)) (mayHandOver _ (by decide +kernel)) (by decide +kernel)).1 (by decide +kernel)
  have f := (h.2.1 (.statusClear 0 3) (collecting live) 0 3 (str "T/C") _ true (byRow _ _ (.status true) _ _ (by decide +kernel)) (mayHandOver _ (by decide +kernel)) (by decide +kernel)).2 (by decide +kernel)
  have g := (h.2.1 (.terminator 0) (terminated (str "T/C") live) 0 3 (str "T/C") _ true (byTerminator _ _ after0D true _ (by decide +kernel)) (mayHandOver _ (by decide +kernel)) (by decide +kernel)).2 (by decide +kernel)
  have i := h.2.2.1 (mixed .joining).stn
  have j := h.2.2.1 (mixed .live).stn
  have k := h.2.2.2.1 9 (by decide +kernel)
  have k' := h.2.2.2.2 10 (by decide +kernel) (by decide +kernel)
  have m := h.2.2.2.2 281474976710655 (by decide +kernel) (by decide +kernel)
  exact ⟨⟨_, a⟩, ⟨_, a'⟩, ⟨_, b⟩, ⟨_, c⟩, ⟨_, d⟩, ⟨_, e⟩, ⟨_, f⟩, ⟨_, g⟩, k, k', m⟩

def only : State := holding live [record]
def outboxOf (n : Nat) (s : State) : State := crowded s n
theorem answersPeer : MayAnswer only.stn 2 := ⟨by decide +kernel, by decide +kernel, by decide +kernel, by decide +kernel, by decide +kernel⟩
theorem findsRecord : FoundHere only.stn 1000001 record := ⟨by decide +kernel, by decide +kernel, by decide +kernel, by decide +kernel⟩
def numeric : Record := { record with admin := { admin with pagerClass := .numeric, quota := some 28 } }
def submitNumeric (r : Record) : State := holding live [r]
theorem may (s : State) (k : Station) (h : s.stn.ctl.phase = .closed ∧ k ≠ s.stn.self ∧ inSet s.stn.img.roster k = true ∧ s.stn.bus.outbox.length < 32 ∧ (s.stn.view k).down = false) : MayAnswer s.stn k := h
theorem found (s : State) (sub : Nat) (r : Record) (h : s.stn.cust.state ≠ .joining ∧ (s.stn.homeOf sub).isSome = true ∧ s.stn.rec? sub = some r ∧ r.returning = false) : FoundHere s.stn sub r := h
def served (v : Service) (q : Option (BitVec 32)) : Record := { record with admin := { admin with service := v, quota := q } }
def fullStore (s : State) : State := on s fun x => { x with store.messages := List.replicate 512 (message 1 .held none) }

theorem witness_SubmitIsAcceptedOrRefused (h : Obligations.SubmitIsAcceptedOrRefused) :
    Answers (exec (.submit (.peer 2 7) 1000001 .normal (str "HELLO")) only) ∧
    Answers (exec (.submit (.peer 2 7) 1000001 .urgent (str "12345678901234567890")) (submitNumeric numeric)) ∧
    Answers (exec (.submit (.peer 2 7) 1000001 .normal (List.replicate 200 65)) only) ∧
    Answers (exec (.submit (.peer 2 7) 1000001 .urgent (str "123456789012345678901")) (submitNumeric numeric)) ∧
    Answers (exec (.submit (.peer 2 7) 1000001 .urgent (str "A")) (submitNumeric (served .suspended none))) ∧
    Answers (exec (.submit (.peer 2 7) 1000001 .urgent (str "A")) (submitNumeric (served .barred none))) ∧
    Answers (exec (.submit (.peer 2 7) 1000001 .urgent (str "A")) (submitNumeric (served .active (some 27)))) ∧
    Answers (exec (.submit (.peer 2 7) 1000001 .urgent (str "A")) (fullStore (submitNumeric (served .active none)))) := by
  have a := h.1 only 2 7 1000001 .normal (str "HELLO") record (may _ _ (by decide +kernel)) (found _ _ _ (by decide +kernel)) (by decide +kernel) (by decide +kernel) (by decide +kernel) (by decide +kernel) (by decide +kernel) (by decide +kernel) (by exact nofun) (by decide +kernel) (by decide +kernel) (by decide +kernel) (by exact (by unfold ActiveUnique; decide +kernel)) (by decide +kernel)
  have b := h.1 (submitNumeric numeric) 2 7 1000001 .urgent (str "12345678901234567890") numeric (may _ _ (by decide +kernel)) (found _ _ _ (by decide +kernel)) (by decide +kernel) (by decide +kernel) (by decide +kernel) (by decide +kernel) (by decide +kernel) (by decide +kernel) (by exact fun q hq => by cases hq; decide +kernel) (by decide +kernel) (by decide +kernel) (by decide +kernel) (by exact (by unfold ActiveUnique; decide +kernel)) (by decide +kernel)
  have c := h.1 only 2 7 1000001 .normal (List.replicate 200 0x41) record (may _ _ (by decide +kernel)) (found _ _ _ (by decide +kernel)) (by decide +kernel) (by decide +kernel) (by decide +kernel) (by decide +kernel) (by decide +kernel) (by decide +kernel) (by exact nofun) (by decide +kernel) (by decide +kernel) (by decide +kernel) (by exact (by unfold ActiveUnique; decide +kernel)) (by decide +kernel)
  have ra := (h.2 (submitNumeric numeric) 2 7 1000001 .urgent (str "123456789012345678901") numeric (may _ _ (by decide +kernel)) (found _ _ _ (by decide +kernel)) (by decide +kernel) (by decide +kernel) (by decide +kernel)).1 (by decide +kernel)
  have rb := (h.2 (submitNumeric (served .suspended none)) 2 7 1000001 .urgent (str "A") (served .suspended none) (may _ _ (by decide +kernel)) (found _ _ _ (by decide +kernel)) (by decide +kernel) (by decide +kernel) (by decide +kernel)).2.1 (by decide +kernel) (by decide +kernel)
  have rc := (h.2 (submitNumeric (served .barred none)) 2 7 1000001 .urgent (str "A") (served .barred none) (may _ _ (by decide +kernel)) (found _ _ _ (by decide +kernel)) (by decide +kernel) (by decide +kernel) (by decide +kernel)).2.2.1 (by decide +kernel) (by decide +kernel)
  have rd := (h.2 (submitNumeric (served .active (some 27))) 2 7 1000001 .urgent (str "A") (served .active (some 27)) (may _ _ (by decide +kernel)) (found _ _ _ (by decide +kernel)) (by decide +kernel) (by decide +kernel) (by decide +kernel)).2.2.2.1 (by decide +kernel) (by decide +kernel) (by exact ⟨27, by decide +kernel, by decide +kernel⟩)
  have re := (h.2 (fullStore (submitNumeric (served .active none))) 2 7 1000001 .urgent (str "A") (served .active none) (may _ _ (by decide +kernel)) (found _ _ _ (by decide +kernel)) (by decide +kernel) (by decide +kernel) (by decide +kernel)).2.2.2.2 (by decide +kernel) (by decide +kernel) (by exact nofun) (by decide +kernel)
  exact ⟨⟨_, a⟩, ⟨_, b⟩, ⟨_, c⟩, ⟨_, ra⟩, ⟨_, rb⟩, ⟨_, rc⟩, ⟨_, rd⟩, ⟨_, re⟩⟩

def readyMsg (t : Option Tag) : Message := { message 4 .ready none with tag := t }
def urgentOne (serial : Serial) : Message := { message serial .waiting none with priority := .urgent, tag := none }
def queued (head : Message) : State := storing record [head, urgentOne 5, { message 6 .waiting none with tag := none }]
theorem admits (s : State) (k : Station) (sub : Nat) (body : List Byte) (r : Record) (h : (s.stn.ctl.phase = .closed ∧
    k ≠ s.stn.self ∧ inSet s.stn.img.roster k = true ∧ s.stn.bus.outbox.length < 32 ∧ (s.stn.view k).down = false) ∧
    (s.stn.cust.state ≠ .joining ∧ (s.stn.homeOf sub).isSome = true ∧ s.stn.rec? sub = some r ∧ r.returning = false) ∧
    sub < Config.subscriberLimit ∧ 1 ≤ body.length ∧ body.length ≤ 200 ∧ r.admin.pagerClass ≠ .numeric ∧
    r.admin.service = .active ∧
    s.stn.store.messages.length < 512 ∧ (s.stn.store.messages.map (·.blocks.length)).sum + segments body ≤ 1024)
    (q : ∀ q, r.admin.quota = some q →
      r.meter.current + r.meter.reserved + (s.stn.tariffOf r).fullCharge (segments body) ≤ q.toNat) :
    Admits s.stn k sub body r :=
  ⟨h.1, h.2.1, h.2.2.1, h.2.2.2.1, h.2.2.2.2.1, fun e => absurd e h.2.2.2.2.2.1, h.2.2.2.2.2.2.1, q,
    h.2.2.2.2.2.2.2.1, h.2.2.2.2.2.2.2.2⟩
theorem alone (s : State) (h : (s.stn.subs.active.map (·.admin.sub)).Nodup) : ActiveUnique s.stn := h
/-- The record has a quota and a threshold. -/
def watched (q n : BitVec 32) : Record := { record with admin := { admin with quota := some q, threshold := some n } }
/-- The store holds this many single messages of nobody. -/
def filled (n : Nat) (s : State) : State := on s fun x =>
  { x with store.messages := x.store.messages ++ List.replicate n { message 900 .held none with sub := 5 } }
def expired : Message := { message 4 .ready none with expiry := 100 }
def expiring (r : Record) : State := storing r [expired]
theorem endsAlone (s : State) (m : Message) (r : Record) (o : Outcome)
    (h : ((s.stn.subs.active.map (·.admin.sub)).Nodup ∧ s.stn.msg? m.serial = some m ∧ s.stn.rec? m.sub = some r ∧
      later s.stn.bill.period r.meter.period = false ∧
      r.meter.current + m.charge (s.stn.tariffOf r).fee o ≤ Config.unitLimit ∧ r.queue = [m.serial])) :
    EndsAlone s.stn m r o := h

theorem witness_QueuePlacesAndThresholdNotices_places (h : Obligations.QueuePlacesAndThresholdNotices) :
    Answers (exec (.submit (.peer 2 7) 1000001 .normal (str "A")) (queued (message 4 .ready none))) ∧
    Answers (exec (.submit (.peer 2 7) 1000001 .urgent (str "A")) (queued (message 4 .ready none))) := by
  have a := (h.1 (queued (message 4 .ready none)) 2 7 1000001 .normal (str "A") (owner record [message 4 .ready none, urgentOne 5, { message 6 .waiting none with tag := none }]) 4 (message 4 .ready none) [5] [6] (admits _ _ _ _ _ (by decide +kernel) (by exact nofun)) (alone _ (by decide +kernel)) (by decide +kernel) (by decide +kernel) (by decide +kernel) (by decide +kernel) (by exact .inr (by decide +kernel)) (by exact List.forall_mem_singleton.2 (by decide +kernel)) (by exact fun x e => by cases e; decide +kernel)).1 (by decide +kernel)
  have b := (h.1 (queued (message 4 .ready none)) 2 7 1000001 .urgent (str "A") (owner record [message 4 .ready none, urgentOne 5, { message 6 .waiting none with tag := none }]) 4 (message 4 .ready none) [5] [6] (admits _ _ _ _ _ (by decide +kernel) (by exact nofun)) (alone _ (by decide +kernel)) (by decide +kernel) (by decide +kernel) (by decide +kernel) (by decide +kernel) (by exact .inr (by decide +kernel)) (by exact List.forall_mem_singleton.2 (by decide +kernel)) (by exact fun x e => by cases e; decide +kernel)).2.1 (by decide +kernel) (by decide +kernel)
  exact ⟨⟨_, a⟩, ⟨_, b⟩⟩

theorem witness_QueuePlacesAndThresholdNotices_displacement (h : Obligations.QueuePlacesAndThresholdNotices) :
    Answers (exec (.submit (.peer 2 7) 1000001 .urgent (str "A")) (queued (readyMsg none))) := by
  have c := (h.1 (queued (readyMsg none)) 2 7 1000001 .urgent (str "A") (owner record [readyMsg none, urgentOne 5, { message 6 .waiting none with tag := none }]) 4 (readyMsg none) [5] [6] (admits _ _ _ _ _ (by decide +kernel) (by exact nofun)) (alone _ (by decide +kernel)) (by decide +kernel) (by decide +kernel) (by decide +kernel) (by decide +kernel) (by exact .inr (by decide +kernel)) (by exact List.forall_mem_singleton.2 (by decide +kernel)) (by exact fun x e => by cases e; decide +kernel)).2.2 (by decide +kernel) (by decide +kernel) (by decide +kernel)
  exact ⟨_, c⟩

theorem witness_QueuePlacesAndThresholdNotices_reservation (h : Obligations.QueuePlacesAndThresholdNotices) :
    Answers (exec (.submit (.peer 2 7) 1000001 .normal (str "HELLO")) (holding live [watched 40 11])) ∧
    Answers (exec (.submit (.peer 2 7) 1000001 .normal (str "HELLO")) (holding live [watched 40 12])) ∧
    Answers (exec (.submit (.peer 2 7) 1000001 .normal (str "HELLO")) (filled 511 (holding live [watched 40 12]))) := by
  have d := (h.2.1 (holding live [watched 40 11]) 2 7 1000001 .normal (str "HELLO") (watched 40 11) 40 11 (admits _ _ _ _ _ (by decide +kernel) (by exact fun q e => by cases e; decide +kernel)) (alone _ (by decide +kernel)) (by decide +kernel) (by decide +kernel) (by decide +kernel) (by decide +kernel) (by decide +kernel)).1 (by decide +kernel)
  have e := (h.2.1 (holding live [watched 40 12]) 2 7 1000001 .normal (str "HELLO") (watched 40 12) 40 12 (admits _ _ _ _ _ (by decide +kernel) (by exact fun q e => by cases e; decide +kernel)) (alone _ (by decide +kernel)) (by decide +kernel) (by decide +kernel) (by decide +kernel) (by decide +kernel) (by decide +kernel)).2.1 (by decide +kernel) (by decide +kernel)
  have f := (h.2.1 (filled 511 (holding live [watched 40 12])) 2 7 1000001 .normal (str "HELLO") (watched 40 12) 40 12 (admits _ _ _ _ _ (by decide +kernel) (by exact fun q e => by cases e; decide +kernel)) (alone _ (by decide +kernel)) (by decide +kernel) (by decide +kernel) (by decide +kernel) (by decide +kernel) (by decide +kernel)).2.2 (by decide +kernel) (by decide +kernel)
  exact ⟨⟨_, d⟩, ⟨_, e⟩, ⟨_, f⟩⟩

theorem witness_QueuePlacesAndThresholdNotices_settlement (h : Obligations.QueuePlacesAndThresholdNotices) :
    Answers (exec (.messageExpiry expired.serial) (expiring (watched 40 16))) ∧
    Answers (exec (.messageExpiry expired.serial) (expiring { admin := (watched 40 17).admin, origin := (watched 40 17).origin, home := (watched 40 17).home, returning := true, nextTag := (watched 40 17).nextTag, queue := (watched 40 17).queue, lastZone := (watched 40 17).lastZone, meter := (watched 40 17).meter : Record })) ∧
    Answers (exec (.messageExpiry expired.serial) (filled 512 (expiring (watched 40 17)))) ∧
    Answers (exec (.messageExpiry expired.serial) (expiring (watched 40 17))) := by
  have g := (h.2.2 (expiring (watched 40 16)) expired (owner (watched 40 16) [expired]) 40 16 (endsAlone _ _ _ _ (by decide +kernel)) (by decide +kernel) (by decide +kernel) (by decide +kernel) (by decide +kernel) (by decide +kernel) (by decide +kernel)).1 (by decide +kernel)
  have i := (h.2.2 (expiring { watched 40 17 with returning := true }) expired (owner { watched 40 17 with returning := true } [expired]) 40 17 (endsAlone _ _ _ _ (by decide +kernel)) (by decide +kernel) (by decide +kernel) (by decide +kernel) (by decide +kernel) (by decide +kernel) (by decide +kernel)).2.1 (by decide +kernel) (by decide +kernel)
  have j := (h.2.2 (filled 512 (expiring (watched 40 17))) expired (owner (watched 40 17) [expired]) 40 17 (endsAlone _ _ _ _ (by decide +kernel)) (by decide +kernel) (by decide +kernel) (by decide +kernel) (by decide +kernel) (by decide +kernel) (by decide +kernel)).2.2.1 (by decide +kernel) (by decide +kernel) (by decide +kernel)
  have k := (h.2.2 (expiring (watched 40 17)) expired (owner (watched 40 17) [expired]) 40 17 (endsAlone _ _ _ _ (by decide +kernel)) (by decide +kernel) (by decide +kernel) (by decide +kernel) (by decide +kernel) (by decide +kernel) (by decide +kernel)).2.2.2 (by decide +kernel) (by decide +kernel) (by decide +kernel) (by decide +kernel)
  exact ⟨⟨_, g⟩, ⟨_, i⟩, ⟨_, j⟩, ⟨_, k⟩⟩

def homeless : State := on live fun x => { x with cust.state := .reclaiming }

theorem witness_PeerRequestsWithoutARecordAreAnswered (h : Obligations.PeerRequestsWithoutARecordAreAnswered) :
    Answers (exec (.meterRead (.peer 2 7) 1000001) (joining live)) ∧
    Answers (exec (.suspend (.peer 2 7) 4000000) live) ∧
    Answers (exec (.suspend (.peer 2 7) 1000001) (holding live [{ admin := record.admin, origin := record.origin, home := record.home, returning := true, nextTag := record.nextTag, queue := record.queue, lastZone := record.lastZone, meter := record.meter : Record }])) ∧
    Answers (exec (.suspend (.peer 2 7) 3000001) (mirrored .returned (some 3) .idle)) ∧
    Answers (exec (.suspend (.peer 2 7) 3000001) (mirrored .unadopted (some 3) .idle)) ∧
    Answers (exec (.suspend (.peer 2 7) 1000001) homeless) ∧
    Answers (exec (.suspend (.peer 2 7) 1000001) live) := by
  have a := (h (.meterRead (.peer 2 7) 1000001) (.meterRead 1000001) (joining live) 2 7 1000001 (by decide +kernel) (by decide +kernel) (by decide +kernel) (by decide +kernel) (may _ _ (by decide +kernel))).1 (by decide +kernel)
  have b := (h (.suspend (.peer 2 7) 4000000) (.suspend 4000000) live 2 7 4000000 (by decide +kernel) (by decide +kernel) (by decide +kernel) (by decide +kernel) (may _ _ (by decide +kernel))).2.1 (by decide +kernel) (by decide +kernel)
  have c := ((h (.suspend (.peer 2 7) 1000001) (.suspend 1000001) (holding live [{ record with returning := true }]) 2 7 1000001 (by decide +kernel) (by decide +kernel) (by decide +kernel) (by decide +kernel) (may _ _ (by decide +kernel))).2.2 1 (by decide +kernel) (by decide +kernel)).1 (by decide +kernel)
  have d := ((h (.suspend (.peer 2 7) 3000001) (.suspend 3000001) (mirrored .returned (some 3) .idle) 2 7 3000001 (by decide +kernel) (by decide +kernel) (by decide +kernel) (by decide +kernel) (may _ _ (by decide +kernel))).2.2 3 (by decide +kernel) (by decide +kernel)).2.1 3 (by decide +kernel)
  have e := ((h (.suspend (.peer 2 7) 3000001) (.suspend 3000001) (mirrored .unadopted (some 3) .idle) 2 7 3000001 (by decide +kernel) (by decide +kernel) (by decide +kernel) (by decide +kernel) (may _ _ (by decide +kernel))).2.2 3 (by decide +kernel) (by decide +kernel)).2.2.1 (by decide +kernel)
  have f := ((h (.suspend (.peer 2 7) 1000001) (.suspend 1000001) homeless 2 7 1000001 (by decide +kernel) (by decide +kernel) (by decide +kernel) (by decide +kernel) (may _ _ (by decide +kernel))).2.2 1 (by decide +kernel) (by decide +kernel)).2.2.2.1 (by decide +kernel) (by decide +kernel) (by decide +kernel)
  have g := ((h (.suspend (.peer 2 7) 1000001) (.suspend 1000001) live 2 7 1000001 (by decide +kernel) (by decide +kernel) (by decide +kernel) (by decide +kernel) (may _ _ (by decide +kernel))).2.2 1 (by decide +kernel) (by decide +kernel)).2.2.2.2 (by decide +kernel) (by decide +kernel) (by exact nofun)
  exact ⟨⟨_, a⟩, ⟨_, b⟩, ⟨_, c⟩, ⟨_, d⟩, ⟨_, e⟩, ⟨_, f⟩, ⟨_, g⟩⟩

def flying (p : Option PendingOutcome) : Message := { message 4 .loaded (some ⟨0, 2, 2, 0⟩) with target := some 100, pending := p }
def paused : Message := message 4 .paused (some ⟨0, 2, 2, 1⟩)
def past (o : Outcome) : State := on live fun x => { x with store.outcomes := [(4, o)] }
theorem plainly (s : State) (m : Message) (r : Record) (o : Outcome)
    (h1 : (s.stn.subs.active.map (·.admin.sub)).Nodup)
    (h : s.stn.msg? m.serial = some m ∧ s.stn.rec? m.sub = some r ∧ later s.stn.bill.period r.meter.period = false ∧
      r.admin.threshold = none ∧ r.meter.current + m.charge (s.stn.tariffOf r).fee o ≤ Config.unitLimit ∧ r.queue = [m.serial]) :
    EndsPlainly s.stn m r o := ⟨⟨h1, h.1, h.2.1, h.2.2.1, h.2.2.2.2⟩, h.2.2.2.1⟩

theorem witness_CancelAndQueryActByTheMessage (h : Obligations.CancelAndQueryActByTheMessage) :
    Answers (exec (.cancel (.peer 2 7) 1 4) (storing record [flying none])) ∧
    Answers (exec (.cancel (.peer 2 7) 1 4) (storing record [flying (some .cancel)])) ∧
    Answers (exec (.cancel (.peer 2 7) 1 4) (storing record [flying (some .delivered)])) ∧
    Answers (exec (.cancel (.peer 2 7) 1 4) (storing record [paused])) ∧
    Answers (exec (.cancel (.peer 2 7) 1 4) (past .expired)) ∧
    Answers (exec (.cancel (.peer 2 7) 1 4) live) ∧
    Answers (exec (.query (.peer 2 7) 1 4) (storing record [message 4 .ready none])) ∧
    Answers (exec (.query (.peer 2 7) 1 4) (storing record [flying none])) ∧
    Answers (exec (.query (.peer 2 7) 1 4) (storing record [paused])) ∧
    Answers (exec (.query (.peer 2 7) 1 4) (storing record [message 4 .held none])) ∧
    Answers (exec (.query (.peer 2 7) 1 4) (past .unconfirmed)) ∧
    Answers (exec (.query (.peer 2 7) 1 4) live) ∧
    Answers (exec (.query (.peer 2 7) 1 4) (joining live)) ∧
    Answers (exec (.cancel (.peer 2 7) 1 4) (joining live)) ∧
    Answers (exec (.query (.peer 2 7) 1 4) (on live fun s => s.updEntry 2 fun e => { station := e.station, view := .silent, silent := e.silent, custodian := e.custodian, silence := e.silence : MapEntry })) := by
  have a := (((h.1 (storing record [flying none]) 2 7 1 4 (may _ _ (by decide +kernel)) (by decide +kernel)).1 (flying none) (by decide +kernel) (by decide +kernel)).1 (by decide +kernel))
  have b := (((h.1 (storing record [flying (some .cancel)]) 2 7 1 4 (may _ _ (by decide +kernel)) (by decide +kernel)).1 (flying (some .cancel)) (by decide +kernel) (by decide +kernel)).2.1 (by decide +kernel))
  have c := (((h.1 (storing record [flying (some .delivered)]) 2 7 1 4 (may _ _ (by decide +kernel)) (by decide +kernel)).1 (flying (some .delivered)) (by decide +kernel) (by decide +kernel)).2.2 (by decide +kernel))
  have d := (h.1 (storing record [paused]) 2 7 1 4 (may _ _ (by decide +kernel)) (by decide +kernel)).2.1 paused (owner record [paused]) (by decide +kernel) (plainly _ _ _ _ (by decide +kernel) (by decide +kernel)) (by decide +kernel)
  have e := (h.1 (past .expired) 2 7 1 4 (may _ _ (by decide +kernel)) (by decide +kernel)).2.2.1 .expired (by decide +kernel) (by decide +kernel)
  have f := (h.1 live 2 7 1 4 (may _ _ (by decide +kernel)) (by decide +kernel)).2.2.2 (by decide +kernel) (by decide +kernel)
  have qa := (((h.2 (storing record [message 4 .ready none]) 2 7 1 4).1 (may _ _ (by decide +kernel)) (by decide +kernel)).1 (message 4 .ready none) (by decide +kernel)).1 (by exact .inr (by decide +kernel))
  have qb := (((h.2 (storing record [flying none]) 2 7 1 4).1 (may _ _ (by decide +kernel)) (by decide +kernel)).1 (flying none) (by decide +kernel)).2.1 (by exact .inr (by decide +kernel))
  have qc := (((h.2 (storing record [paused]) 2 7 1 4).1 (may _ _ (by decide +kernel)) (by decide +kernel)).1 paused (by decide +kernel)).2.2.1 (by exact .inr (by decide +kernel))
  have qd := (((h.2 (storing record [message 4 .held none]) 2 7 1 4).1 (may _ _ (by decide +kernel)) (by decide +kernel)).1 (message 4 .held none) (by decide +kernel)).2.2.2 (by decide +kernel)
  have qe := ((h.2 (past .unconfirmed) 2 7 1 4).1 (may _ _ (by decide +kernel)) (by decide +kernel)).2.1 .unconfirmed (by decide +kernel) (by decide +kernel)
  have qf := ((h.2 live 2 7 1 4).1 (may _ _ (by decide +kernel)) (by decide +kernel)).2.2 (by decide +kernel) (by decide +kernel)
  have qg := (h.2 (joining live) 2 7 1 4).2.1 (may _ _ (by decide +kernel)) (by decide +kernel)
  have qk := (h.2 (on live fun s => s.updEntry 2 fun e => { e with view := .silent }) 2 7 1 4).2.2 (by decide +kernel)
  have qg1 := qg.1; have qg2 := qg.2
  exact ⟨⟨_, a⟩, ⟨_, b⟩, ⟨_, c⟩, ⟨_, d⟩, ⟨_, e⟩, ⟨_, f⟩, ⟨_, qa⟩, ⟨_, qb⟩, ⟨_, qc⟩, ⟨_, qd⟩, ⟨_, qe⟩, ⟨_, qf⟩, ⟨_, qg1⟩, ⟨_, qg2⟩, ⟨_, qk⟩⟩

def tableFull : State := holding live ((List.range 1024).map fun i => { record with admin := { admin with sub := 1000000 + i } })

theorem witness_EnrolCreatesARecord (h : Obligations.EnrolCreatesARecord) :
    Answers (exec (.enrol (.peer 2 7) 1000001 5 .alpha 0 0 1 none none) only) ∧
    Answers (exec (.enrol (.peer 2 7) 1000002 77 .alpha 0 0 1 none none) only) ∧
    Answers (exec (.enrol (.peer 2 7) 1900000 78 .alpha 0 0 1 none none) tableFull) ∧
    Answers (exec (.enrol (.peer 2 7) 3000002 78 .alpha 0 0 1 (some 50) (some 5)) (on only fun x => { ctl := x.ctl, intake := x.intake, req := x.req, subs := { active := x.subs.active, standby := x.subs.standby, standbyComplete := true, grant := x.subs.grant, drain := x.subs.drain, ret := x.subs.ret, mirror := x.subs.mirror : Subscribers }, store := x.store, air := x.air, ret := x.ret, meter := x.meter, bill := x.bill, bus := x.bus, cust := { state := x.cust.state, map := [member 1 .live, member 2 .live, { station := (member 3 .failed).station, view := (member 3 .failed).view, silent := (member 3 .failed).silent, custodian := some 1, silence := (member 3 .failed).silence : MapEntry }], custody := x.cust.custody, declaration := x.cust.declaration, join := x.cust.join, heard := x.cust.heard, buddyWait := x.cust.buddyWait, returnTaken := x.cust.returnTaken, returnEndTaken := x.cust.returnEndTaken, retryDelay := x.cust.retryDelay : Custody } : Stn })) ∧
    Answers (exec (.enrol (.peer 3 7) 1000002 78 .alpha 0 0 1 none none) (viewing only .silent .live)) ∧
    Answers (exec (.enrol (.peer 2 7) 1000000 78 .alpha 0 0 1 none none) (outboxOf 30 only)) := by
  have a := (h only 2 7 1000001 5 .alpha 0 0 1 none none 1 (may _ _ (by decide +kernel)) (by decide +kernel) (by decide +kernel) (by decide +kernel)).1 record (found _ _ _ (by decide +kernel))
  have b := ((h only 2 7 1000002 77 .alpha 0 0 1 none none 1 (may _ _ (by decide +kernel)) (by decide +kernel) (by decide +kernel) (by decide +kernel)).2 (by decide +kernel) (by decide +kernel) (by decide +kernel)).1 (by decide +kernel)
  have c := ((h tableFull 2 7 1900000 78 .alpha 0 0 1 none none 1 (may _ _ (by decide +kernel)) (by decide +kernel) (by decide +kernel) (by decide +kernel)).2 (by decide +kernel) (by decide +kernel) (by decide +kernel)).2.1 (by decide +kernel) (by decide +kernel)
  have d := ((h (on only fun x => { x with subs.standbyComplete := true, cust.map := [member 1 .live, member 2 .live, { member 3 .failed with custodian := some 1 }] }) 2 7 3000002 78 .alpha 0 0 1 (some 50) (some 5) 3 (may _ _ (by decide +kernel)) (by decide +kernel) (by decide +kernel) (by decide +kernel)).2 (by decide +kernel) (by decide +kernel) (by decide +kernel)).2.2 (by decide +kernel) (by decide +kernel) |>.1 (by decide +kernel)
  have e := ((h (viewing only .silent .live) 3 7 1000002 78 .alpha 0 0 1 none none 1 (may _ _ (by decide +kernel)) (by decide +kernel) (by decide +kernel) (by decide +kernel)).2 (by decide +kernel) (by decide +kernel) (by decide +kernel)).2.2 (by decide +kernel) (by decide +kernel) |>.2.1 (by decide +kernel) (by decide +kernel)
  have f := ((h (outboxOf 30 only) 2 7 1000000 78 .alpha 0 0 1 none none 1 (may _ _ (by decide +kernel)) (by decide +kernel) (by decide +kernel) (by decide +kernel)).2 (by decide +kernel) (by decide +kernel) (by decide +kernel)).2.2 (by decide +kernel) (by decide +kernel) |>.2.2 (by decide +kernel) (by decide +kernel) (by decide +kernel)
  exact ⟨⟨_, a⟩, ⟨_, b⟩, ⟨_, c⟩, ⟨_, d⟩, ⟨_, e⟩, ⟨_, f⟩⟩

def visitor (v : Service) (q : Option (BitVec 32)) : Record :=
  { adopted with admin := { adopted.admin with sub := 1000001, service := v, quota := q } }
def homeRec (v : Service) (q : Option (BitVec 32)) : Record :=
  { record with admin := { admin with service := v, quota := q }, meter := { record.meter with limit := true } }
def homeOnly (v : Service) (q : Option (BitVec 32)) (n : Nat) : State := outboxOf n (holding live [homeRec v q])
/-- The mirror walk runs with two notes of its own in the outbox, beside the FORWARD of an entry in SENDING. -/
def mirroring (s : State) : State := on s fun x => { x with
  subs.mirror := .running none false false, req.pend := [entry 7 .sending],
  bus.outbox := [note (.forward 7 (str "M/2000001")), note (.mirrorRemove 5), note (.mirrorRemove 6)] ++ x.bus.outbox.drop 3 }
theorem eachHasItsNote (s : State) (h : ∀ e ∈ s.stn.req.pend, e.state = .sending → ∃ n ∈ s.stn.bus.outbox, n.forwardTag? = some e.tag) : NoEntryWaits s.stn := h

theorem witness_ServiceStateAndAmendOfARecord (h : Obligations.ServiceStateAndAmendOfARecord) :
    Answers (exec (.suspend (.peer 2 7) 1000001) (holding live [visitor .active none])) ∧
    Answers (exec (.resume (.peer 2 7) 1000001) (holding live [visitor .suspended (some 20)])) ∧
    Answers (exec (.resume (.peer 2 7) 1000001) (holding live [visitor .active (some 19)])) ∧
    Answers (exec (.resume (.peer 2 7) 1000001) (holding live [visitor .suspended (some 19)])) ∧
    Answers (exec (.amend (.peer 2 7) 1000001 [.tariff 3, .clearLimit]) (holding live [visitor .suspended (some 19)])) ∧
    Answers (exec (.amend (.peer 2 7) 1000001 [.quota (some 20)]) (holding live [visitor .barred (some 19)])) ∧
    Answers (exec (.amend (.peer 2 7) 1000001 (List.replicate 8 (.quota (some 19)))) (holding live [visitor .active none])) ∧
    Answers (exec (.suspend (.peer 2 7) 1000001) (homeOnly .active none 30)) ∧
    Answers (exec (.suspend (.peer 2 7) 1000001) (homeOnly .active none 31)) ∧
    Answers (exec (.suspend (.peer 2 7) 1000001) (mirroring (homeOnly .active none 31))) ∧
    Answers (exec (.suspend (.peer 3 7) 1000001) (viewing (homeOnly .active none 31) .failed .live)) ∧
    Answers (exec (.suspend (.peer 2 7) 1000001) (homeOnly .suspended none 30)) ∧
    Answers (exec (.resume (.peer 2 7) 1000001) (homeOnly .barred (some 20) 30)) ∧
    Answers (exec (.resume (.peer 2 7) 1000001) (homeOnly .suspended (some 19) 30)) ∧
    Answers (exec (.resume (.peer 2 7) 1000001) (homeOnly .barred (some 19) 30)) ∧
    Answers (exec (.resume (.peer 2 7) 1000001) (homeOnly .active (some 19) 30)) ∧
    Answers (exec (.amend (.peer 2 7) 1000001 [.tariff 3, .clearLimit]) (homeOnly .suspended none 30)) ∧
    Answers (exec (.amend (.peer 2 7) 1000001 [.clearLimit]) (homeOnly .active (some 19) 30)) ∧
    Answers (exec (.amend (.peer 2 7) 1000001 [.clearLimit]) (homeOnly .barred (some 19) 30)) ∧
    Answers (exec (.amend (.peer 2 7) 1000001 [.quota (some 20)]) (homeOnly .barred (some 19) 31)) := by
  have a := (h.1 (holding live [visitor .active none]) 2 7 1000001 (visitor .active none) [.clearLimit] (may _ _ (by decide +kernel)) (found _ _ _ (by decide +kernel)) (by decide +kernel) (by decide +kernel) (alone _ (by decide +kernel))).1
  have b := (h.1 (holding live [visitor .suspended (some 20)]) 2 7 1000001 (visitor .suspended (some 20)) [.clearLimit] (may _ _ (by decide +kernel)) (found _ _ _ (by decide +kernel)) (by decide +kernel) (by decide +kernel) (alone _ (by decide +kernel))).2.1 (by exact .inr fun q hq => by cases hq; decide +kernel)
  have b' := (h.1 (holding live [visitor .active (some 19)]) 2 7 1000001 (visitor .active (some 19)) [.clearLimit] (may _ _ (by decide +kernel)) (found _ _ _ (by decide +kernel)) (by decide +kernel) (by decide +kernel) (alone _ (by decide +kernel))).2.1 (by exact .inl (by decide +kernel))
  have c := (h.1 (holding live [visitor .suspended (some 19)]) 2 7 1000001 (visitor .suspended (some 19)) [.clearLimit] (may _ _ (by decide +kernel)) (found _ _ _ (by decide +kernel)) (by decide +kernel) (by decide +kernel) (alone _ (by decide +kernel))).2.2.1 (by decide +kernel) (by exact fun m => absurd (m 19 rfl) (by decide +kernel))
  have d := ((h.1 (holding live [visitor .suspended (some 19)]) 2 7 1000001 (visitor .suspended (some 19)) [.tariff 3, .clearLimit] (may _ _ (by decide +kernel)) (found _ _ _ (by decide +kernel)) (by decide +kernel) (by decide +kernel) (alone _ (by decide +kernel))).2.2.2 (by decide +kernel) (by decide +kernel) (by decide +kernel)).1 (by decide +kernel)
  have e := ((h.1 (holding live [visitor .barred (some 19)]) 2 7 1000001 (visitor .barred (some 19)) [.quota (some 20)] (may _ _ (by decide +kernel)) (found _ _ _ (by decide +kernel)) (by decide +kernel) (by decide +kernel) (alone _ (by decide +kernel))).2.2.2 (by decide +kernel) (by decide +kernel) (by decide +kernel)).2.1 (by decide +kernel) (by exact fun q hq => by cases hq; decide +kernel)
  have f := ((h.1 (holding live [visitor .active none]) 2 7 1000001 (visitor .active none) (List.replicate 8 (.quota (some 19))) (may _ _ (by decide +kernel)) (found _ _ _ (by decide +kernel)) (by decide +kernel) (by decide +kernel) (alone _ (by decide +kernel))).2.2.2 (by decide +kernel) (by decide +kernel) (by decide +kernel)).2.2 (by decide +kernel) (by exact fun m => absurd (m 19 rfl) (by decide +kernel))
  have ha := (h.2 (homeOnly .active none 30) 2 7 1000001 (homeRec .active none) (may _ _ (by decide +kernel)) (found _ _ _ (by decide +kernel)) (by decide +kernel) (by decide +kernel) (alone _ (by decide +kernel))).1 (by decide +kernel)
  have ha1 := ha.2 (by decide +kernel) |>.1 (by decide +kernel)
  have hb := (h.2 (homeOnly .active none 31) 2 7 1000001 (homeRec .active none) (may _ _ (by decide +kernel)) (found _ _ _ (by decide +kernel)) (by decide +kernel) (by decide +kernel) (alone _ (by decide +kernel))).1 (by decide +kernel)
  have hb1 := hb.2 (by decide +kernel) |>.2.1 (by decide +kernel) (by exact nofun)
  have hc := (h.2 (mirroring (homeOnly .active none 31)) 2 7 1000001 (homeRec .active none) (may _ _ (by decide +kernel)) (found _ _ _ (by decide +kernel)) (by decide +kernel) (by decide +kernel) (alone _ (by decide +kernel))).1 (by decide +kernel)
  have hc1 := hc.2 (by decide +kernel) |>.2.2 none false false (by decide +kernel) (by decide +kernel) (eachHasItsNote _ (by decide +kernel))
  have hd := (h.2 (viewing (homeOnly .active none 31) .failed .live) 3 7 1000001 (homeRec .active none) (may _ _ (by decide +kernel)) (found _ _ _ (by decide +kernel)) (by decide +kernel) (by decide +kernel) (alone _ (by decide +kernel))).1 (by decide +kernel)
  have hd1 := hd.1 (by decide +kernel)
  have he := (h.2 (homeOnly .suspended none 30) 2 7 1000001 (homeRec .suspended none) (may _ _ (by decide +kernel)) (found _ _ _ (by decide +kernel)) (by decide +kernel) (by decide +kernel) (alone _ (by decide +kernel))).2.1 (by decide +kernel)
  have hf := (h.2 (homeOnly .barred (some 20) 30) 2 7 1000001 (homeRec .barred (some 20)) (may _ _ (by decide +kernel)) (found _ _ _ (by decide +kernel)) (by decide +kernel) (by decide +kernel) (alone _ (by decide +kernel))).2.2.1 (by decide +kernel) (by exact fun q hq => by cases hq; decide +kernel)
  have hf1 := hf.2 (by decide +kernel) |>.1 (by decide +kernel)
  have hg := (h.2 (homeOnly .suspended (some 19) 30) 2 7 1000001 (homeRec .suspended (some 19)) (may _ _ (by decide +kernel)) (found _ _ _ (by decide +kernel)) (by decide +kernel) (by decide +kernel) (alone _ (by decide +kernel))).2.2.2.1 (by decide +kernel) (by exact fun m => absurd (m 19 rfl) (by decide +kernel))
  have hg1 := hg.2 (by decide +kernel) |>.1 (by decide +kernel)
  have hi := (h.2 (homeOnly .barred (some 19) 30) 2 7 1000001 (homeRec .barred (some 19)) (may _ _ (by decide +kernel)) (found _ _ _ (by decide +kernel)) (by decide +kernel) (by decide +kernel) (alone _ (by decide +kernel))).2.2.2.2.1 (by decide +kernel) (by exact fun m => absurd (m 19 rfl) (by decide +kernel))
  have hj := (h.2 (homeOnly .active (some 19) 30) 2 7 1000001 (homeRec .active (some 19)) (may _ _ (by decide +kernel)) (found _ _ _ (by decide +kernel)) (by decide +kernel) (by decide +kernel) (alone _ (by decide +kernel))).2.2.2.2.2.1 (by decide +kernel)
  have hk := (h.2 (homeOnly .suspended none 30) 2 7 1000001 (homeRec .suspended none) (may _ _ (by decide +kernel)) (found _ _ _ (by decide +kernel)) (by decide +kernel) (by decide +kernel) (alone _ (by decide +kernel))).2.2.2.2.2.2 [.tariff 3, .clearLimit] ([Group.tariff 3, .clearLimit].foldl applyGroup (homeRec .suspended none)) (by decide +kernel) (by decide +kernel) (by decide +kernel) (by exact .inl ⟨by decide +kernel, rfl⟩)
  have hk1 := hk.1 (by exact .inl ⟨.tariff 3, by decide +kernel, by decide +kernel⟩)
  have hk2 := hk1.2 (by decide +kernel) |>.1 (by decide +kernel)
  have hl := (h.2 (homeOnly .active (some 19) 30) 2 7 1000001 (homeRec .active (some 19)) (may _ _ (by decide +kernel)) (found _ _ _ (by decide +kernel)) (by decide +kernel) (by decide +kernel) (alone _ (by decide +kernel))).2.2.2.2.2.2 [.clearLimit] { homeRec .barred (some 19) with meter := record.meter } (by decide +kernel) (by decide +kernel) (by decide +kernel) (by exact .inr ⟨by decide +kernel, .inr ⟨fun m => absurd (m 19 rfl) (by decide +kernel), by decide +kernel⟩⟩)
  have hl1 := hl.1 (by exact .inr (by decide +kernel))
  have hl2 := hl1.2 (by decide +kernel) |>.1 (by decide +kernel)
  have hm := (h.2 (homeOnly .barred (some 19) 30) 2 7 1000001 (homeRec .barred (some 19)) (may _ _ (by decide +kernel)) (found _ _ _ (by decide +kernel)) (by decide +kernel) (by decide +kernel) (alone _ (by decide +kernel))).2.2.2.2.2.2 [.clearLimit] { homeRec .barred (some 19) with meter := record.meter } (by decide +kernel) (by decide +kernel) (by decide +kernel) (by exact .inr ⟨by decide +kernel, .inr ⟨fun m => absurd (m 19 rfl) (by decide +kernel), by decide +kernel⟩⟩)
  have hm1 := hm.2 (by decide +kernel) (by decide +kernel)
  have hn := (h.2 (homeOnly .barred (some 19) 31) 2 7 1000001 (homeRec .barred (some 19)) (may _ _ (by decide +kernel)) (found _ _ _ (by decide +kernel)) (by decide +kernel) (by decide +kernel) (alone _ (by decide +kernel))).2.2.2.2.2.2 [.quota (some 20)] { homeRec .active (some 20) with meter := (homeRec .active none).meter } (by decide +kernel) (by decide +kernel) (by decide +kernel) (by exact .inr ⟨by decide +kernel, .inl ⟨fun q hq => by cases hq; decide +kernel, by decide +kernel⟩⟩)
  have hn1 := hn.1 (by exact .inr (by decide +kernel))
  have hn2 := hn1.2 (by decide +kernel) |>.2.1 (by decide +kernel) (by exact nofun)
  exact ⟨⟨_, a⟩, ⟨_, b⟩, ⟨_, b'⟩, ⟨_, c⟩, ⟨_, d⟩, ⟨_, e⟩, ⟨_, f⟩, ⟨_, ha1⟩, ⟨_, hb1⟩, ⟨_, hc1⟩, ⟨_, hd1⟩, ⟨_, he⟩, ⟨_, hf1⟩, ⟨_, hg1⟩, ⟨_, hi⟩, ⟨_, hj⟩, ⟨_, hk2⟩, ⟨_, hl2⟩, ⟨_, hm1⟩, ⟨_, hn2⟩⟩

def guest : State := on (holding live [visitor .active none]) fun x => { x with bill.counted := some 0, bill.counter := 6 }
def billed (n : Nat) (s : State) : State := on s fun x => { x with bill.queue := List.replicate n ⟨1, 0, 0, 0, []⟩ }
def withQueue (l : List Serial) : Record := { visitor .active none with queue := l }
def rich : Record := { visitor .active none with meter := ⟨65529, 5, 1, 0, 0, false, false, false⟩ }
def homeGuest (n : Nat) (total : Nat) : State := on (outboxOf n (holding live [{ record with meter := ⟨total, 0, 0, 0, 0, false, false, false⟩ }])) fun x => { x with bill.counted := some 0, bill.counter := 6 }
def homeGuestRec (total : Nat) : Record := { record with meter := ⟨total, 0, 0, 0, 0, false, false, false⟩ }

theorem witness_MeterReadAndWithdrawOfARecord (h : Obligations.MeterReadAndWithdrawOfARecord) :
    Answers (exec (.meterRead (.peer 2 7) 1000001) only) ∧
    Answers (exec (.withdraw (.peer 2 7) 1000001) (holding live [withQueue [4]])) ∧
    Answers (exec (.withdraw (.peer 2 7) 1000001) (on guest fun x => { ctl := x.ctl, intake := x.intake, req := x.req, subs := { active := x.subs.active, standby := x.subs.standby, standbyComplete := x.subs.standbyComplete, grant := x.subs.grant, drain := .running none, ret := x.subs.ret, mirror := x.subs.mirror : Subscribers }, store := x.store, air := x.air, ret := x.ret, meter := x.meter, bill := x.bill, bus := x.bus, cust := x.cust : Stn })) ∧
    Answers (exec (.withdraw (.peer 2 7) 1000001) (billed 4 guest)) ∧
    Answers (exec (.withdraw (.peer 2 7) 1000001) (billed 3 (on guest fun x => { ctl := x.ctl, intake := x.intake, req := x.req, subs := { active := [rich], standby := x.subs.standby, standbyComplete := x.subs.standbyComplete, grant := x.subs.grant, drain := x.subs.drain, ret := x.subs.ret, mirror := x.subs.mirror : Subscribers }, store := x.store, air := x.air, ret := x.ret, meter := x.meter, bill := x.bill, bus := x.bus, cust := x.cust : Stn }))) ∧
    Answers (exec (.withdraw (.peer 2 7) 1000001) (homeGuest 30 65537)) ∧
    Answers (exec (.withdraw (.peer 2 7) 1000001) (homeGuest 31 (65536 * 4096))) ∧
    Answers (exec (.withdraw (.peer 2 7) 1000001) (mirroring (homeGuest 31 (2 ^ 20)))) ∧
    Answers (exec (.withdraw (.peer 3 7) 1000001) (viewing (homeGuest 31 0) .silent .live)) := by
  have z := h.1 only 2 7 1000001 record (may _ _ (by decide +kernel)) (found _ _ _ (by decide +kernel)) (by decide +kernel)
  have a := (h.2 (holding live [withQueue [4]]) 2 7 1000001 (withQueue [4]) (may _ _ (by decide +kernel)) (found _ _ _ (by decide +kernel)) (by decide +kernel) (alone _ (by decide +kernel))).1 (by decide +kernel)
  have b := (h.2 (on guest fun x => { x with subs.drain := .running none }) 2 7 1000001 (visitor .active none) (may _ _ (by decide +kernel)) (found _ _ _ (by decide +kernel)) (by decide +kernel) (alone _ (by decide +kernel))).2.1 (by decide +kernel) (by decide +kernel)
  have c := (h.2 (billed 4 guest) 2 7 1000001 (visitor .active none) (may _ _ (by decide +kernel)) (found _ _ _ (by decide +kernel)) (by decide +kernel) (alone _ (by decide +kernel))).2.2.1 (by decide +kernel) (by decide +kernel) (by decide +kernel)
  have d := ((h.2 (billed 3 (on guest fun x => { x with subs.active := [rich] })) 2 7 1000001 rich (may _ _ (by decide +kernel)) (found _ _ _ (by decide +kernel)) (by decide +kernel) (alone _ (by decide +kernel))).2.2.2 0 (by decide +kernel) (by decide +kernel) (by decide +kernel) (by decide +kernel) (by decide +kernel) (by decide +kernel)).1 (by exact .inl rfl)
  have e := ((h.2 (homeGuest 30 65537) 2 7 1000001 (homeGuestRec 65537) (may _ _ (by decide +kernel)) (found _ _ _ (by decide +kernel)) (by decide +kernel) (alone _ (by decide +kernel))).2.2.2 1 (by decide +kernel) (by decide +kernel) (by decide +kernel) (by decide +kernel) (by decide +kernel) (by decide +kernel)).2 (by decide +kernel) (by decide +kernel) |>.1 (by decide +kernel)
  have f := ((h.2 (homeGuest 31 (65536 * 4096)) 2 7 1000001 (homeGuestRec (65536 * 4096)) (may _ _ (by decide +kernel)) (found _ _ _ (by decide +kernel)) (by decide +kernel) (alone _ (by decide +kernel))).2.2.2 3 (by decide +kernel) (by decide +kernel) (by decide +kernel) (by decide +kernel) (by decide +kernel) (by decide +kernel)).2 (by decide +kernel) (by decide +kernel) |>.2.1 (by decide +kernel) (by exact nofun)
  have g := ((h.2 (mirroring (homeGuest 31 (2 ^ 20))) 2 7 1000001 (homeGuestRec (2 ^ 20)) (may _ _ (by decide +kernel)) (found _ _ _ (by decide +kernel)) (by decide +kernel) (alone _ (by decide +kernel))).2.2.2 2 (by decide +kernel) (by decide +kernel) (by decide +kernel) (by decide +kernel) (by decide +kernel) (by decide +kernel)).2 (by decide +kernel) (by decide +kernel) |>.2.2 none false false (by decide +kernel) (by decide +kernel) (eachHasItsNote _ (by decide +kernel))
  have i := ((h.2 (viewing (homeGuest 31 0) .silent .live) 3 7 1000001 (homeGuestRec 0) (may _ _ (by decide +kernel)) (found _ _ _ (by decide +kernel)) (by decide +kernel) (alone _ (by decide +kernel))).2.2.2 0 (by decide +kernel) (by decide +kernel) (by decide +kernel) (by decide +kernel) (by decide +kernel) (by decide +kernel)).1 (by exact .inr (by decide +kernel))
  exact ⟨⟨_, z⟩, ⟨_, a⟩, ⟨_, b⟩, ⟨_, c⟩, ⟨_, d⟩, ⟨_, e⟩, ⟨_, f⟩, ⟨_, g⟩, ⟨_, i⟩⟩

def lasting (e : PendEntry) : State := noted (pending live [e]) [note (.forward 7 (str "M/2000001")), note (.mirrorRemove 5)]
theorem replyFits (s : State) (e : PendEntry) (h : ((s.stn.line e.line).ctx e.ctx).gen = e.gen ∧ (s.stn.line e.line).replies.length < 8) : ReplyFits s.stn e := h
def ending8 : List PendEntry := [{ entry 7 .sending with rounds := 23 }, entry 8 .sending]
def fullOf (l : List PendEntry) : State := noted (pending live l) (note (.forward 7 (str "M/2000001")) :: List.replicate 31 (note (.mirrorRemove 5)))

theorem witness_PendingEntriesMeetTheirLimits (h : Obligations.PendingEntriesMeetTheirLimits) :
    Answers (exec (.requestOverallLimit { line := (entry 7 .sending).line, ctx := (entry 7 .sending).ctx, gen := (entry 7 .sending).gen, role := (entry 7 .sending).role, text := (entry 7 .sending).text, request := (entry 7 .sending).request, tag := (entry 7 .sending).tag, route := (entry 7 .sending).route, target := (entry 7 .sending).target, state := (entry 7 .sending).state, deferrals := (entry 7 .sending).deferrals, rounds := 23, wait := (entry 7 .sending).wait : PendEntry }.tag) (lasting { line := (entry 7 .sending).line, ctx := (entry 7 .sending).ctx, gen := (entry 7 .sending).gen, role := (entry 7 .sending).role, text := (entry 7 .sending).text, request := (entry 7 .sending).request, tag := (entry 7 .sending).tag, route := (entry 7 .sending).route, target := (entry 7 .sending).target, state := (entry 7 .sending).state, deferrals := (entry 7 .sending).deferrals, rounds := 23, wait := (entry 7 .sending).wait : PendEntry })) ∧
    Answers (exec (.requestOverallLimit { line := (entry 7 .sending).line, ctx := (entry 7 .sending).ctx, gen := (entry 7 .sending).gen, role := (entry 7 .sending).role, text := (entry 7 .sending).text, request := (entry 7 .sending).request, tag := (entry 7 .sending).tag, route := (entry 7 .sending).route, target := (entry 7 .sending).target, state := (entry 7 .sending).state, deferrals := (entry 7 .sending).deferrals, rounds := 23, wait := (entry 7 .sending).wait : PendEntry }.tag) (fullOf ending8)) ∧
    Answers (exec (.answerLimit { line := (entry 7 .awaiting).line, ctx := (entry 7 .awaiting).ctx, gen := (entry 7 .awaiting).gen, role := (entry 7 .awaiting).role, text := (entry 7 .awaiting).text, request := (entry 7 .awaiting).request, tag := (entry 7 .awaiting).tag, route := (entry 7 .awaiting).route, target := (entry 7 .awaiting).target, state := (entry 7 .awaiting).state, deferrals := (entry 7 .awaiting).deferrals, rounds := 22, wait := 11 : PendEntry }.tag) (lasting { line := (entry 7 .awaiting).line, ctx := (entry 7 .awaiting).ctx, gen := (entry 7 .awaiting).gen, role := (entry 7 .awaiting).role, text := (entry 7 .awaiting).text, request := (entry 7 .awaiting).request, tag := (entry 7 .awaiting).tag, route := (entry 7 .awaiting).route, target := (entry 7 .awaiting).target, state := (entry 7 .awaiting).state, deferrals := (entry 7 .awaiting).deferrals, rounds := 22, wait := 11 : PendEntry })) ∧
    Answers (exec (.deferralEnd { line := (entry 7 .deferred).line, ctx := (entry 7 .deferred).ctx, gen := (entry 7 .deferred).gen, role := (entry 7 .deferred).role, text := (entry 7 .deferred).text, request := (entry 7 .deferred).request, tag := (entry 7 .deferred).tag, route := (entry 7 .deferred).route, target := (entry 7 .deferred).target, state := (entry 7 .deferred).state, deferrals := (entry 7 .deferred).deferrals, rounds := 22, wait := 3 : PendEntry }.tag) (noted (pending live [{ line := (entry 7 .deferred).line, ctx := (entry 7 .deferred).ctx, gen := (entry 7 .deferred).gen, role := (entry 7 .deferred).role, text := (entry 7 .deferred).text, request := (entry 7 .deferred).request, tag := (entry 7 .deferred).tag, route := (entry 7 .deferred).route, target := (entry 7 .deferred).target, state := (entry 7 .deferred).state, deferrals := (entry 7 .deferred).deferrals, rounds := 22, wait := 3 : PendEntry }]) (List.replicate 31 (note (.mirrorRemove 5))))) ∧
    Answers (exec .forwardReoffer (outboxOf 31 (pending live [entry 6 .awaiting, entry 7 .sending, entry 8 .sending]))) ∧
    Answers (exec .forwardReoffer (outboxOf 32 (pending live [entry 6 .awaiting, entry 7 .sending, entry 8 .sending]))) := by
  have a := ((h.1 (lasting { entry 7 .sending with rounds := 23 }) { entry 7 .sending with rounds := 23 } (by decide +kernel) (by decide +kernel) (by decide +kernel) (by decide +kernel) (replyFits _ _ (by decide +kernel))).1 (by decide +kernel) (by exact nofun)).1 (eachHasItsNote _ (by decide +kernel))
  have a1 := ((h.1 (fullOf ending8) { entry 7 .sending with rounds := 23 } (by decide +kernel) (by decide +kernel) (by decide +kernel) (by decide +kernel) (replyFits _ _ (by decide +kernel))).1 (by decide +kernel) (by exact nofun)).2 (entry 8 .sending) 2 (by decide +kernel) (by decide +kernel) (by decide +kernel) (by decide +kernel) (by decide +kernel) (by decide +kernel) (by decide +kernel) (by decide +kernel)
  have b := (h.1 (lasting { entry 7 .awaiting with rounds := 22, wait := 11 }) { entry 7 .awaiting with rounds := 22, wait := 11 } (by decide +kernel) (by decide +kernel) (by decide +kernel) (by decide +kernel) (replyFits _ _ (by decide +kernel))).2 (by decide +kernel) (by decide +kernel) (by decide +kernel)
  have c := h.2.1 (noted (pending live [{ entry 7 .deferred with rounds := 22, wait := 3 }]) (List.replicate 31 (note (.mirrorRemove 5)))) { entry 7 .deferred with rounds := 22, wait := 3 } (.meterRead 2000001) (.home 2) 2 (by decide +kernel) (by decide +kernel) (by decide +kernel) (eachHasItsNote _ (by decide +kernel)) (by decide +kernel) (by decide +kernel) (by decide +kernel) (by decide +kernel) (by decide +kernel) (by decide +kernel) (by decide +kernel) (by decide +kernel)
  have d := (h.2.2 (outboxOf 31 (pending live [entry 6 .awaiting, entry 7 .sending, entry 8 .sending])) [entry 6 .awaiting] [entry 8 .sending] (entry 7 .sending) 2 (by decide +kernel) (by decide +kernel) (by decide +kernel) (by decide +kernel) (by decide +kernel) (by decide +kernel)).1 (by decide +kernel)
  have e := (h.2.2 (outboxOf 32 (pending live [entry 6 .awaiting, entry 7 .sending, entry 8 .sending])) [entry 6 .awaiting] [entry 8 .sending] (entry 7 .sending) 2 (by decide +kernel) (by decide +kernel) (by decide +kernel) (by decide +kernel) (by decide +kernel) (by decide +kernel)).2 (by decide +kernel)
  exact ⟨⟨_, a⟩, ⟨_, a1⟩, ⟨_, b⟩, ⟨_, c⟩, ⟨_, d⟩, ⟨_, e⟩⟩

def claim (slots number : Nat) (m : Option Serial) : Claim := { target := 102, urgent := false, slots := slots, number := number, message := m }
def claims : List (Station × Claim) := (List.range 6).map fun i => (2, claim 5 i none)
/-- Two claims of this station and two of peer 2, an URGENT one each. -/
def claiming : State := on live fun x => { x with air := { x.air with
  claims := [claim 2 0 (some 4), { claim 1 1 none with urgent := true }],
  peerClaims := x.air.peerClaims.set 2 [{ claim 3 0 none with urgent := true }, claim 5 1 none] } }

theorem witness_BlocksAndSlotRunsAreContiguous (h : Obligations.BlocksAndSlotRunsAreContiguous) :
    (mapSlots (assignSlots 0 [(1, claim 3 0 none)]))[3]? = some none ∧
    (2, claim 5 1 none) ∈ claiming.stn.claimOrder 98 ∧
    (claiming.stn.closeMap 100).air.buffer.length ≤ claiming.stn.air.buffer.length + claiming.stn.air.claims.length := by
  have a := (h.1 (List.replicate 41 0x41)).2.2 1 [0x41] (by decide +kernel)
  have b := (h.2.1 (claims ++ [(1, claim 3 0 none), (1, claim 2 1 none)])).2.1 (30, 1, claim 2 1 none) (by decide +kernel) 1 (by decide +kernel)
  have c := (h.2.1 [(1, claim 3 0 none)]).2.2.1 3 (by decide +kernel) (by decide +kernel)
  have d := (h.2.1 (claims ++ (1, claim 3 0 none) :: [(1, claim 2 1 none)])).2.2.2 claims [(1, claim 2 1 none)] 1 (claim 3 0 none) (by decide +kernel)
  have e := (h.2.2.1 claiming.stn 98).1 2 (claim 5 1 none) |>.2 (by decide +kernel)
  have f := (h.2.2.1 claiming.stn 98).2 (by decide +kernel)
  have f' := (h.2.2.1 claiming.stn 111).2 (by decide +kernel)
  have g := h.2.2.2 claiming.stn 100
  exact ⟨c, e, g⟩

def used : State := on only fun x => { x with
  store := { x.store with serial := 65535, messages := [message 65535 .held none], outcomes := [(0, .expired)] } }

theorem witness_ReceiptSerialsAreFirstFreeAndUnique (h : Obligations.ReceiptSerialsAreFirstFreeAndUnique) :
    (used.stn.acceptMessage 1000001 .urgent .caller (str "A") 8).store.serial = 2 := by
  have a := h.1 used.stn 1000001 .urgent .caller (str "A") 8 (by decide +kernel) (by decide +kernel)
  have d := (h.2.1 only.stn (only.stn.execute (.submit 1000001 .normal (str "A"))).1 1000001 .normal (str "A") (str "1-00000")).1 (by decide +kernel)
  have e := (h.2.1 only.stn only.stn 4000000 .normal (str "A") (str "UNKNOWN SUBSCRIBER")).2 (by decide +kernel)
  have f := h.2.2.1 (fullStore only).stn 1000001 (by decide +kernel)
  have g := h.2.2.2.2 live true true State.reset (by exact .inl rfl)
  have b := a.2 (by decide +kernel)
  have c : (used.stn.acceptMessage 1000001 .urgent .caller (str "A") 8).store.serial = 2 := by decide +kernel
  exact c

def heldFor (n : Nat) : Message := message 4 .held (some ⟨0, 2, 2, n⟩)

theorem witness_AirFrameStartCountsEveryWait (h : Obligations.AirFrameStartCountsEveryWait) :
    Answers (exec (.airFrameStart 101 [4]) (storing record [heldFor 2])) ∧
    Answers (exec (.airFrameStart 101 [4]) (storing record [heldFor 1, message 5 .waiting none])) := by
  have a := (h (storing record [heldFor 2]) 101 [4] (by decide +kernel) (by decide +kernel)).1 (by exact fun m hm => by rcases List.mem_singleton.1 hm with rfl; exact fun _ => ⟨_, rfl, by decide⟩)
  have b := (h (storing record [heldFor 1, message 5 .waiting none]) 101 [4] (by decide +kernel) (by decide +kernel)).2 (heldFor 1) (by decide +kernel) (by decide +kernel) (by exact ⟨_, rfl, rfl⟩) (by decide +kernel) (by exact fun m hm hne => by fin_cases hm <;> first | exact absurd rfl hne | exact nofun) (by decide +kernel)
  exact ⟨⟨_, a⟩, ⟨_, b⟩⟩

def awaiting (st : MsgState) (step inner outer : Nat) : Message := message 4 st (some ⟨step, inner, outer, 1⟩)
def follower (plan : Fin 8) (c : PagerClass) : Record := { record with admin := { admin with plan := plan, pagerClass := c } }

theorem witness_WaitEndFollowsTheLadder (h : Obligations.WaitEndFollowsTheLadder) :
    Answers (exec (.waitEnd (awaiting .paused 1 0 1).serial) (storing record [awaiting .paused 1 0 1])) ∧
    Answers (exec (.waitEnd (awaiting .awaitAck 0 2 2).serial) (storing record [awaiting .awaitAck 0 2 2])) ∧
    Answers (exec (.waitEnd (awaiting .paused 0 1 2).serial) (storing record [awaiting .paused 0 1 2])) ∧
    Answers (exec (.waitEnd (awaiting .paused 7 9 9).serial) (storing (follower 1 .alpha) [awaiting .paused 7 9 9])) ∧
    Answers (exec (.waitEnd (awaiting .paused 1 1 2).serial) (storing record [awaiting .paused 1 1 2])) ∧
    Answers (exec (.waitEnd (awaiting .awaitAck 1 1 1).serial) (storing record [awaiting .awaitAck 1 1 1])) := by
  have a := (h (storing record [awaiting .paused 1 0 1]) (awaiting .paused 1 0 1) (owner record [awaiting .paused 1 0 1]) ⟨1, 0, 1, 1⟩ (by decide +kernel) (by decide +kernel) (by decide +kernel) (by exact .inr rfl) (by decide +kernel)).1 (by decide +kernel)
  have b := (h (storing record [awaiting .awaitAck 0 2 2]) (awaiting .awaitAck 0 2 2) (owner record [awaiting .awaitAck 0 2 2]) ⟨0, 2, 2, 1⟩ (by decide +kernel) (by decide +kernel) (by decide +kernel) (by exact .inl rfl) (by decide +kernel)).2.1 (by decide +kernel) (by decide +kernel)
  have c := (h (storing record [awaiting .paused 0 1 2]) (awaiting .paused 0 1 2) (owner record [awaiting .paused 0 1 2]) ⟨0, 1, 2, 1⟩ (by decide +kernel) (by decide +kernel) (by decide +kernel) (by exact .inr rfl) (by decide +kernel)).2.2.1 (by decide +kernel) (by decide +kernel) (by exact (by unfold Plan.endsRound; decide +kernel))
  have d := (h (storing (follower 1 .alpha) [awaiting .paused 7 9 9]) (awaiting .paused 7 9 9) (owner (follower 1 .alpha) [awaiting .paused 7 9 9]) ⟨7, 9, 9, 1⟩ (by decide +kernel) (by decide +kernel) (by decide +kernel) (by exact .inr rfl) (by decide +kernel)).2.2.2.1 (by decide +kernel) (by decide +kernel) (by exact (by unfold Plan.endsRound; decide +kernel)) (by decide +kernel) (by decide +kernel)
  have e := (h (storing record [awaiting .paused 1 1 2]) (awaiting .paused 1 1 2) (owner record [awaiting .paused 1 1 2]) ⟨1, 1, 2, 1⟩ (by decide +kernel) (by decide +kernel) (by decide +kernel) (by exact .inr rfl) (by decide +kernel)).2.2.2.2.1 (by decide +kernel) (by decide +kernel) (by exact (by unfold Plan.endsRound; decide +kernel)) (by decide +kernel) (by decide +kernel)
  have f := (h (storing record [awaiting .awaitAck 1 1 1]) (awaiting .awaitAck 1 1 1) (owner record [awaiting .awaitAck 1 1 1]) ⟨1, 1, 1, 1⟩ (by decide +kernel) (by decide +kernel) (by decide +kernel) (by exact .inl rfl) (by decide +kernel)).2.2.2.2.2 (by decide +kernel) (by decide +kernel) (by exact (by unfold Plan.endsRound; decide +kernel)) (by decide +kernel) (plainly _ _ _ _ (by decide +kernel) (by decide +kernel))
  exact ⟨⟨_, a⟩, ⟨_, b⟩, ⟨_, c⟩, ⟨_, d⟩, ⟨_, e⟩, ⟨_, f⟩⟩

def stale (st : MsgState) : Message := { message 4 st (some ⟨0, 0, 2, 1⟩) with expiry := 100 }
def two : List Message := [stale .held, message 5 .waiting none]

theorem witness_HoldsAndValidityRunOut (h : Obligations.HoldsAndValidityRunOut) :
    Answers (exec (.holdEnd (stale .held).serial) (storing record [stale .held])) ∧
    Answers (exec (.holdEnd (heldFor 1).serial) (storing record [heldFor 1])) ∧
    Answers (exec (.messageExpiry (stale .ready).serial) (storing record [stale .ready])) ∧
    Answers (exec (.messageExpiry (stale .claimed).serial) (storing record [stale .claimed])) ∧
    Answers (exec (.messageExpiry (stale .awaitAck).serial) (storing record [stale .awaitAck])) ∧
    Answers (exec (.messageExpiry { serial := (stale .paused).serial, sub := (stale .paused).sub, priority := (stale .paused).priority, origin := (stale .paused).origin, blocks := (stale .paused).blocks, tag := (stale .paused).tag, state := (stale .paused).state, target := (stale .paused).target, ladder := (stale .paused).ladder, expiry := 101, reserved := (stale .paused).reserved, transmissions := (stale .paused).transmissions, pending := (stale .paused).pending : Message }.serial) (storing record [{ serial := (stale .paused).serial, sub := (stale .paused).sub, priority := (stale .paused).priority, origin := (stale .paused).origin, blocks := (stale .paused).blocks, tag := (stale .paused).tag, state := (stale .paused).state, target := (stale .paused).target, ladder := (stale .paused).ladder, expiry := 101, reserved := (stale .paused).reserved, transmissions := (stale .paused).transmissions, pending := (stale .paused).pending : Message }])) ∧
    Answers (exec (.messageExpiry { serial := (flying none).serial, sub := (flying none).sub, priority := (flying none).priority, origin := (flying none).origin, blocks := (flying none).blocks, tag := (flying none).tag, state := (flying none).state, target := (flying none).target, ladder := (flying none).ladder, expiry := 100, reserved := (flying none).reserved, transmissions := (flying none).transmissions, pending := (flying none).pending : Message }.serial) (storing record [{ serial := (flying none).serial, sub := (flying none).sub, priority := (flying none).priority, origin := (flying none).origin, blocks := (flying none).blocks, tag := (flying none).tag, state := (flying none).state, target := (flying none).target, ladder := (flying none).ladder, expiry := 100, reserved := (flying none).reserved, transmissions := (flying none).transmissions, pending := (flying none).pending : Message }])) ∧
    Answers (exec (.messageExpiry (stale .held).serial) (storing record two)) := by
  have a := ((h.1 (storing record [stale .held]) (stale .held) (owner record [stale .held]) (by decide +kernel) (by decide +kernel)).1 ⟨0, 0, 2, 1⟩ (by decide +kernel) (by decide +kernel) (by decide +kernel)).1 (by decide +kernel)
  have b := ((h.1 (storing record [heldFor 1]) (heldFor 1) (owner record [heldFor 1]) (by decide +kernel) (by decide +kernel)).1 ⟨0, 2, 2, 1⟩ (by decide +kernel) (by decide +kernel) (by decide +kernel)).2 (by decide +kernel)
  have c := (h.1 (storing record [stale .ready]) (stale .ready) (owner record [stale .ready]) (by decide +kernel) (by decide +kernel)).2.1 (by decide +kernel) (by decide +kernel) (by decide +kernel) (plainly _ _ _ _ (by decide +kernel) (by decide +kernel))
  have c' := (h.1 (storing record [stale .claimed]) (stale .claimed) (owner record [stale .claimed]) (by decide +kernel) (by decide +kernel)).2.1 (by decide +kernel) (by decide +kernel) (by decide +kernel) (plainly _ _ _ _ (by decide +kernel) (by decide +kernel))
  have d := (h.1 (storing record [stale .awaitAck]) (stale .awaitAck) (owner record [stale .awaitAck]) (by decide +kernel) (by decide +kernel)).2.2 (by exact .inr (.inl rfl))
  have e := (h.1 (storing record [{ stale .paused with expiry := 101 }]) { stale .paused with expiry := 101 } (owner record [{ stale .paused with expiry := 101 }]) (by decide +kernel) (by decide +kernel)).2.2 (by exact .inl (by decide +kernel))
  have f := (h.1 (storing record [{ flying none with expiry := 100 }]) { flying none with expiry := 100 } (owner record [{ flying none with expiry := 100 }]) (by decide +kernel) (by decide +kernel)).2.2 (by exact .inr (.inr (by decide +kernel)))
  have na := h.2 (storing record two) (stale .held) (message 5 .waiting none) (owner record two) [] (alone _ (by decide +kernel)) (by decide +kernel) (by decide +kernel) (by decide +kernel) (by decide +kernel) (by decide +kernel) (by decide +kernel) (by decide +kernel) (by decide +kernel) (by decide +kernel) (by decide +kernel) (by decide +kernel) (by decide +kernel)
  exact ⟨⟨_, a⟩, ⟨_, b⟩, ⟨_, c⟩, ⟨_, c'⟩, ⟨_, d⟩, ⟨_, e⟩, ⟨_, f⟩, (na.imp fun _ p => p.1)⟩

def owing : Record := { record with meter := { record.meter with owed := true } }

theorem witness_OwedNoticesAreOffered (h : Obligations.OwedNoticesAreOffered) :
    Answers (exec .owedNoticeOffers (holding live [{ admin := owing.admin, origin := owing.origin, home := owing.home, returning := true, nextTag := owing.nextTag, queue := owing.queue, lastZone := owing.lastZone, meter := owing.meter : Record }])) ∧
    Answers (exec .owedNoticeOffers (fullStore (holding live [owing]))) ∧
    Answers (exec .owedNoticeOffers (holding live [owing])) := by
  have a := (h (holding live [{ owing with returning := true }]) (by decide +kernel) (by decide +kernel)).1 (by decide +kernel)
  have b := (h (fullStore (holding live [owing])) (by decide +kernel) (by decide +kernel)).2.1 (by decide +kernel)
  have c := (h (holding live [owing]) (by decide +kernel) (by decide +kernel)).2.2 owing (by decide +kernel) (by decide +kernel) (by decide +kernel) (alone _ (by decide +kernel)) (by decide +kernel)
  exact ⟨⟨_, a⟩, ⟨_, b⟩, ⟨_, c⟩⟩

def page (sent : Nat) (target : FrameNo) : Page :=
  { message := 4, target := target, number := 0, first := 3, slots := 1, addr := 77, tag := 8, zones := 6,
    body := str "HELLO", committed := true, sent := sent }
def loaded (p : Option PendingOutcome) (l : Ladder) : Message := { flying p with ladder := some l }
def paged (r : Record) (p : Page) (m : Message) : State := on (storing r [m]) fun x => { x with air.buffer := [p], air.feed := some ⟨3, [0x99]⟩ }

theorem witness_PageCompletionAdvancesTheMessage (h : Obligations.PageCompletionAdvancesTheMessage) :
    Answers (exec (.pageCompletion (loaded none { step := 0, inner := 2, outer := 2, wait := 0 : Ladder }).serial) (paged record (page 0 100) (loaded none { step := 0, inner := 2, outer := 2, wait := 0 : Ladder }))) ∧
    Answers (exec (.pageCompletion (loaded none { step := 0, inner := 2, outer := 2, wait := 0 : Ladder }).serial) (paged record (page 1 100) (loaded none { step := 0, inner := 2, outer := 2, wait := 0 : Ladder }))) ∧
    Answers (exec (.pageCompletion (loaded none { step := 0, inner := 2, outer := 2, wait := 0 : Ladder }).serial) (paged (follower 0 .alpha) (page 0 99) (loaded none { step := 0, inner := 2, outer := 2, wait := 0 : Ladder }))) ∧
    Answers (exec (.pageCompletion (loaded none { step := 1, inner := 1, outer := 1, wait := 0 : Ladder }).serial) (paged (follower 0 .numeric) (page 1 100) (loaded none { step := 1, inner := 1, outer := 1, wait := 0 : Ladder }))) ∧
    Answers (exec (.pageCompletion (loaded (some .cancel) { step := 0, inner := 2, outer := 2, wait := 0 : Ladder }).serial) (paged record (page 1 100) (loaded (some .cancel) { step := 0, inner := 2, outer := 2, wait := 0 : Ladder }))) ∧
    Answers (exec (.pageCompletion (loaded (some .delivered) { step := 0, inner := 2, outer := 2, wait := 0 : Ladder }).serial) (paged record (page 1 100) (loaded (some .delivered) { step := 0, inner := 2, outer := 2, wait := 0 : Ladder }))) := by
  have a := (h (paged record (page 0 100) (loaded none ⟨0, 2, 2, 0⟩)) (page 0 100) (loaded none ⟨0, 2, 2, 0⟩) (owner record [loaded none ⟨0, 2, 2, 0⟩]) ⟨0, 2, 2, 0⟩ (by decide +kernel) (by decide +kernel) (by decide +kernel) (by decide +kernel) (by decide +kernel)).1 (by decide +kernel)
  have b := (h (paged record (page 1 100) (loaded none ⟨0, 2, 2, 0⟩)) (page 1 100) (loaded none ⟨0, 2, 2, 0⟩) (owner record [loaded none ⟨0, 2, 2, 0⟩]) ⟨0, 2, 2, 0⟩ (by decide +kernel) (by decide +kernel) (by decide +kernel) (by decide +kernel) (by decide +kernel)).2.1 (by decide +kernel) (by decide +kernel) (by decide +kernel)
  have c := (h (paged (follower 0 .alpha) (page 0 99) (loaded none ⟨0, 2, 2, 0⟩)) (page 0 99) (loaded none ⟨0, 2, 2, 0⟩) (owner (follower 0 .alpha) [loaded none ⟨0, 2, 2, 0⟩]) ⟨0, 2, 2, 0⟩ (by decide +kernel) (by decide +kernel) (by decide +kernel) (by decide +kernel) (by decide +kernel)).2.2.1 (by decide +kernel) (by decide +kernel) (by decide +kernel) (by exact (by unfold Plan.endsRound; decide +kernel))
  have d := (h (paged (follower 0 .numeric) (page 1 100) (loaded none ⟨1, 1, 1, 0⟩)) (page 1 100) (loaded none ⟨1, 1, 1, 0⟩) (owner (follower 0 .numeric) [loaded none ⟨1, 1, 1, 0⟩]) ⟨1, 1, 1, 0⟩ (by decide +kernel) (by decide +kernel) (by decide +kernel) (by decide +kernel) (by decide +kernel)).2.2.2.1 (by decide +kernel) (by decide +kernel) (by decide +kernel) (by exact (by unfold Plan.endsRound; decide +kernel)) (plainly _ _ _ _ (by decide +kernel) (by decide +kernel)) (by decide +kernel)
  have e := (h (paged record (page 1 100) (loaded (some .cancel) ⟨0, 2, 2, 0⟩)) (page 1 100) (loaded (some .cancel) ⟨0, 2, 2, 0⟩) (owner record [loaded (some .cancel) ⟨0, 2, 2, 0⟩]) ⟨0, 2, 2, 0⟩ (by decide +kernel) (by decide +kernel) (by decide +kernel) (by decide +kernel) (by decide +kernel)).2.2.2.2.1 (by decide +kernel) (by decide +kernel) (plainly _ _ _ _ (by decide +kernel) (by decide +kernel)) (by decide +kernel)
  have f := (h (paged record (page 1 100) (loaded (some .delivered) ⟨0, 2, 2, 0⟩)) (page 1 100) (loaded (some .delivered) ⟨0, 2, 2, 0⟩) (owner record [loaded (some .delivered) ⟨0, 2, 2, 0⟩]) ⟨0, 2, 2, 0⟩ (by decide +kernel) (by decide +kernel) (by decide +kernel) (by decide +kernel) (by decide +kernel)).2.2.2.2.2 (by decide +kernel) (by decide +kernel) (plainly _ _ _ _ (by decide +kernel) (by decide +kernel)) (by decide +kernel)
  exact ⟨⟨_, a⟩, ⟨_, b⟩, ⟨_, c⟩, ⟨_, d⟩, ⟨_, e⟩, ⟨_, f⟩⟩

def mapped (k : Station) (l : List Page) (begun : Bool) : State :=
  on live fun x => { x with
    air.begun := begun, air.buffer := l,
    air.maps := [⟨100, List.replicate 3 none ++ [some ⟨k, 0, false⟩] ++ List.replicate 28 none⟩] }

theorem witness_OfficeMarksAndSlots (h : Obligations.OfficeMarksAndSlots) :
    Answers (exec (.slotStart 3) (mapped 1 [] false)) ∧
    Answers (exec (.slotStart 31) (mapped 1 [] true)) ∧
    Answers (exec (.slotStart 3) (mapped 2 [] true)) ∧
    Answers (exec (.slotStart 3) (mapped 1 [] true)) ∧
    Answers (exec (.slotStart 3) (mapped 1 [page 0 100] true)) ∧
    Answers (exec (.slotStart 3) (mapped 1 [page 1 100] true)) ∧
    Answers (exec .officeMarkAirtime State.reset) ∧
    Answers (exec (.officeMarkBus 1) State.reset) ∧
    Answers (exec (.officeMarkBus 7) live) ∧
    Answers (exec .officeMarkAirtime (paged record (page 0 100) (loaded none { step := 0, inner := 2, outer := 2, wait := 0 : Ladder }))) ∧
    Answers (exec .officeMarkAirtime (on (mapped 1 [page 1 101, { message := (page 0 102).message, target := (page 0 102).target, number := (page 0 102).number, first := (page 0 102).first, slots := (page 0 102).slots, addr := (page 0 102).addr, tag := (page 0 102).tag, zones := (page 0 102).zones, body := (page 0 102).body, committed := false, sent := (page 0 102).sent : Page }] true) fun x => { ctl := x.ctl, intake := x.intake, req := x.req, subs := x.subs, store := x.store, air := { frame := x.air.frame, begun := x.air.begun, claims := x.air.claims, peerClaims := x.air.peerClaims, maps := x.air.maps, buffer := x.air.buffer, abstain := [100, 101, 103, 104], feed := x.air.feed, claimsLost := x.air.claimsLost, forfeits := x.air.forfeits, framesAbstained := x.air.framesAbstained : Airtime }, ret := x.ret, meter := x.meter, bill := x.bill, bus := x.bus, cust := x.cust : Stn })) ∧
    Answers (exec .officeMarkAirtime (on (inRound live 2 []) fun x => { ctl := x.ctl, intake := x.intake, req := x.req, subs := x.subs, store := x.store, air := { frame := 103, begun := x.air.begun, claims := x.air.claims, peerClaims := x.air.peerClaims, maps := x.air.maps, buffer := x.air.buffer, abstain := [102, 103], feed := x.air.feed, claimsLost := x.air.claimsLost, forfeits := x.air.forfeits, framesAbstained := x.air.framesAbstained : Airtime }, ret := x.ret, meter := x.meter, bill := x.bill, bus := x.bus, cust := x.cust : Stn })) ∧
    Answers (exec (.officeMarkBus (live.stn.bus.mark + 1)) live) ∧
    Answers (exec (.officeMarkBus ((joining live).stn.bus.mark + 1)) (joining live)) ∧
    Answers (exec (.officeMarkBus ((inRound live 3 []).stn.bus.mark + 1)) (inRound live 3 [])) := by
  have a := (h.1 (mapped 1 [] false) 3 (by decide +kernel)).1 (by decide +kernel)
  have b := (h.1 (mapped 1 [] true) 31 (by decide +kernel)).2.1 (by decide +kernel)
  have c := ((h.1 (mapped 2 [] true) 3 (by decide +kernel)).2.2 ⟨2, 0, false⟩ (by decide +kernel) (by decide +kernel)).1 (by decide +kernel)
  have d := ((h.1 (mapped 1 [] true) 3 (by decide +kernel)).2.2 ⟨1, 0, false⟩ (by decide +kernel) (by decide +kernel)).2.1 (by decide +kernel) (by decide +kernel)
  have e := (((h.1 (mapped 1 [page 0 100] true) 3 (by decide +kernel)).2.2 ⟨1, 0, false⟩ (by decide +kernel) (by decide +kernel)).2.2 (page 0 100) (by decide +kernel) (by decide +kernel)).1 (by decide +kernel)
  have f := (((h.1 (mapped 1 [page 1 100] true) 3 (by decide +kernel)).2.2 ⟨1, 0, false⟩ (by decide +kernel) (by decide +kernel)).2.2 (page 1 100) (by decide +kernel) (by decide +kernel)).2 (by decide +kernel)
  have ma1 := (h.2 State.reset).1 (by decide +kernel)
  have ma2 := (h.2 State.reset).2.1 1 (by exact .inl (by decide))
  have ma3 := (h.2 live).2.1 7 (by exact .inr (by decide +kernel))
  have mb := ((h.2 (paged record (page 0 100) (loaded none ⟨0, 2, 2, 0⟩))).2.2 (by decide +kernel)).1
  have mc := ((h.2 (on (mapped 1 [page 1 101, { page 0 102 with committed := false }] true) fun x => { x with air.abstain := [100, 101, 103, 104] })).2.2 (by decide +kernel)).2.1 (by decide +kernel)
  have mc' := ((h.2 (on (inRound live 2 []) fun x => { x with air.abstain := [102, 103], air.frame := 103 })).2.2 (by decide +kernel)).2.1 (by decide +kernel)
  have md := ((h.2 live).2.2 (by decide +kernel)).2.2.1 (by decide +kernel)
  have md' := ((h.2 (joining live)).2.2 (by decide +kernel)).2.2.1 (by decide +kernel)
  have me := ((h.2 (inRound live 3 [])).2.2 (by decide +kernel)).2.2.2.1 ⟨100, 3, []⟩ (by decide +kernel)
  have mf := ((h.2 live).2.2 (by decide +kernel)).2.2.2.2 _ _ (by decide +kernel) (.inl ⟨rfl, rfl⟩)
  have mg := ((h.2 live).2.2 (by decide +kernel)).2.2.2.2 _ _ (by decide +kernel) (.inr ⟨rfl, rfl⟩)
  exact ⟨⟨_, a⟩, ⟨_, b⟩, ⟨_, c⟩, ⟨_, d⟩, ⟨_, e⟩, ⟨_, f⟩, ⟨_, ma1⟩, ⟨_, ma2⟩, ⟨_, ma3⟩, (mb.imp fun _ p => p.1), ⟨_, mc⟩, ⟨_, mc'⟩, ⟨_, md⟩, ⟨_, md'⟩, ⟨_, me⟩⟩

def heardReport (q : Report) (s : State) : State := on s fun x => { x with ret.recent := [⟨q, 99⟩] }
def rcv : Report := .received 77 8
theorem finding (q : Report) (s : State) (r : Record) (h1 : s.stn.ctl.phase = .closed)
    (h2 : ∀ e ∈ s.stn.ret.recent, e.report = q → s.stn.img.width ≤ (s.stn.air.frame - e.frame).toNat)
    (h3 : s.stn.recAt? q.addr = some r) (h4 : s.stn.inTransit r.admin.sub = false) : q.finds s.stn r := ⟨h1, h2, h3, h4⟩
theorem fresh (q : Report) (s : State)
    (h2 : ∀ e ∈ s.stn.ret.recent, e.report = q → s.stn.img.width ≤ (s.stn.air.frame - e.frame).toNat) : q.isFresh s.stn := h2

theorem witness_ReportsWithoutEffectAreCounted (h : Obligations.ReportsWithoutEffectAreCounted) :
    Answers (exec rcv.command (heardReport rcv only)) ∧
    Answers (exec rcv.command (heardReport (Report.ready 77) live)) ∧
    Answers (exec rcv.command (noted only [note (.ret admin 9 none record.meter)])) ∧
    Answers (exec rcv.command only) ∧
    Answers (exec (Report.full 77 8).command (storing record [{ serial := paused.serial, sub := paused.sub, priority := paused.priority, origin := paused.origin, blocks := paused.blocks, tag := none, state := paused.state, target := paused.target, ladder := paused.ladder, expiry := paused.expiry, reserved := paused.reserved, transmissions := paused.transmissions, pending := paused.pending : Message }])) ∧
    Answers (exec (Report.full 77 9).command (storing record [paused])) ∧
    Answers (exec (.badReport (49 :: List.replicate 6 0)) live) ∧
    Answers (exec (.badReport [153]) live) ∧
    Answers (exec (.badReport rcv.bytes) live) ∧
    Answers (exec (.badReport [49, 0]) live) ∧
    Answers (exec (.reportGap [51, 0, 0, 0, 0]) live) ∧
    Answers (exec (.reportGap [48]) live) ∧
    Answers (exec (.badReport []) live) ∧
    Answers (exec (.reportGap []) live) ∧
    Answers (exec (.reportGap (List.take 6 (Report.register 77 3).bytes)) live) ∧
    Answers (exec (.reportEntryAged 101) (heardReport rcv only)) ∧
    judgeReport (Report.ready 2097151).bytes = some (Report.ready 2097151) := by
  have a := ((h (heardReport rcv only) (by decide +kernel)).1 rcv).1 (by exact (by unfold Report.isFresh; decide +kernel))
  have b := ((h (heardReport (.ready 77) live) (by decide +kernel)).1 rcv).2.1 (fresh _ _ (by decide +kernel)) (by decide +kernel)
  have c := ((h (noted only [note (.ret admin 9 none record.meter)]) (by decide +kernel)).1 rcv).2.2.1 record (fresh _ _ (by decide +kernel)) (by decide +kernel) (by decide +kernel)
  have d := ((((h only (by decide +kernel)).1 rcv).2.2.2 record 77 8 (finding _ _ _ (by decide +kernel) (by decide +kernel) (by decide +kernel) (by decide +kernel)) (by exact .inl rfl)).1 (by decide +kernel))
  have e := ((((h (storing record [{ paused with tag := none }]) (by decide +kernel)).1 (.full 77 8)).2.2.2 (owner record [{ paused with tag := none }]) 77 8 (finding _ _ _ (by decide +kernel) (by decide +kernel) (by decide +kernel) (by decide +kernel)) (by exact .inr rfl)).2.1 { paused with tag := none } (by decide +kernel) (by decide +kernel))
  have f := ((((h (storing record [paused]) (by decide +kernel)).1 (.full 77 9)).2.2.2 (owner record [paused]) 77 9 (finding _ _ _ (by decide +kernel) (by decide +kernel) (by decide +kernel) (by decide +kernel)) (by exact .inr rfl)).2.2 paused 8 (by decide +kernel) (by decide +kernel) (by decide +kernel))
  have g := (((h live (by decide +kernel)).2.1 (0x31 :: List.replicate 6 0)).1 0x31 (List.replicate 6 0) (by decide +kernel)).1 (by decide +kernel) (by decide +kernel)
  have g' := (((h live (by decide +kernel)).2.1 [0x99]).1 0x99 [] (by decide +kernel)).1 (by decide +kernel) (by decide +kernel)
  have i := (((h live (by decide +kernel)).2.1 rcv.bytes).1 0x31 (rcv.bytes.drop 1) (by decide +kernel)).2.1 (by exact .inr (by decide +kernel))
  have i' := (((h live (by decide +kernel)).2.1 [0x31, 0]).1 0x31 [0] (by decide +kernel)).2.1 (by exact .inl (by decide +kernel))
  have j := (((h live (by decide +kernel)).2.1 [0x33, 0, 0, 0, 0]).1 0x33 [0, 0, 0, 0] (by decide +kernel)).2.2.1 (by decide +kernel)
  have k := (((h live (by decide +kernel)).2.1 [0x30]).1 0x30 [] (by decide +kernel)).2.2.2 (by decide +kernel)
  have o := ((h live (by decide +kernel)).2.1 []).2 (by decide +kernel)
  have o1 := o.1; have o2 := o.2
  have l := ((h live (by decide +kernel)).2.2.1 (.register 77 3)).2.2.2 6 (by decide +kernel) (by decide +kernel)
  have m := ((h (heardReport rcv only) (by decide +kernel)).2.2.2 101)
  have n1 := ((h live (by decide +kernel)).2.2.1 (.ready 0x1FFFFF)).1
  exact ⟨⟨_, a⟩, ⟨_, b⟩, ⟨_, c⟩, ⟨_, d⟩, ⟨_, e⟩, ⟨_, f⟩, ⟨_, g⟩, ⟨_, g'⟩, ⟨_, i⟩, ⟨_, i'⟩, ⟨_, j⟩, ⟨_, k⟩, ⟨_, o1⟩, ⟨_, o2⟩, ⟨_, l⟩, ⟨_, m⟩, n1⟩

def sealed (st : MsgState) (l : Ladder) (p : Option PendingOutcome) (t : Option FrameNo) : Message :=
  { message 4 st (some l) with pending := p, target := t }

theorem witness_ReportsActOnTheHead_reports (h : Obligations.ReportsActOnTheHead) :
    Answers (exec (Report.received 77 8).command (storing record [flying none])) ∧
    Answers (exec (Report.received 77 8).command (storing record [flying (some .cancel)])) ∧
    Answers (exec (Report.received 77 8).command (storing record [paused])) ∧
    Answers (exec (Report.full 77 8).command (storing record [flying none])) ∧
    Answers (exec (Report.full 77 8).command (storing record [heldFor 2])) ∧
    Answers (exec (Report.full 77 8).command (storing record [awaiting .ready 7 9 9])) ∧
    Answers (exec (Report.register 77 5).command (storing record [heldFor 2])) ∧
    Answers (exec (Report.register 77 5).command (storing record [awaiting .paused 1 0 1])) ∧
    Answers (exec (Report.register 77 5).command (storing record [awaiting .paused 0 2 1])) ∧
    Answers (exec (Report.register 77 5).command (storing record [awaiting .paused 0 1 1])) ∧
    Answers (exec (Report.register 77 5).command (storing record [awaiting .paused 1 1 2])) := by
  have a := ((h.1 (storing record [flying none]) (owner record [flying none]) (flying none) 77 8 (by decide +kernel) (by decide +kernel) (by decide +kernel) (by decide +kernel)).1 (finding _ _ _ (by decide +kernel) (by decide +kernel) (by decide +kernel) (by decide +kernel)) (by decide +kernel)).1 (by decide +kernel) (by decide +kernel)
  have b := ((h.1 (storing record [flying (some .cancel)]) (owner record [flying (some .cancel)]) (flying (some .cancel)) 77 8 (by decide +kernel) (by decide +kernel) (by decide +kernel) (by decide +kernel)).1 (finding _ _ _ (by decide +kernel) (by decide +kernel) (by decide +kernel) (by decide +kernel)) (by decide +kernel)).2.1 (by decide +kernel) (by decide +kernel)
  have c := ((h.1 (storing record [paused]) (owner record [paused]) paused 77 8 (by decide +kernel) (by decide +kernel) (by decide +kernel) (by decide +kernel)).1 (finding _ _ _ (by decide +kernel) (by decide +kernel) (by decide +kernel) (by decide +kernel)) (by decide +kernel)).2.2 (by decide +kernel) (plainly _ _ _ _ (by decide +kernel) (by decide +kernel))
  have d := ((h.1 (storing record [flying none]) (owner record [flying none]) (flying none) 77 8 (by decide +kernel) (by decide +kernel) (by decide +kernel) (by decide +kernel)).2.1 (finding _ _ _ (by decide +kernel) (by decide +kernel) (by decide +kernel) (by decide +kernel)) (by decide +kernel)).1 (by decide +kernel)
  have e := ((h.1 (storing record [heldFor 2]) (owner record [heldFor 2]) (heldFor 2) 77 8 (by decide +kernel) (by decide +kernel) (by decide +kernel) (by decide +kernel)).2.1 (finding _ _ _ (by decide +kernel) (by decide +kernel) (by decide +kernel) (by decide +kernel)) (by decide +kernel)).2.1 (by decide +kernel)
  have f := ((h.1 (storing record [awaiting .ready 7 9 9]) (owner record [awaiting .ready 7 9 9]) (awaiting .ready 7 9 9) 77 8 (by decide +kernel) (by decide +kernel) (by decide +kernel) (by decide +kernel)).2.1 (finding _ _ _ (by decide +kernel) (by decide +kernel) (by decide +kernel) (by decide +kernel)) (by decide +kernel)).2.2 (by decide +kernel) (by decide +kernel)
  have g := ((h.1 (storing record [heldFor 2]) (owner record [heldFor 2]) (heldFor 2) 77 8 (by decide +kernel) (by decide +kernel) (by decide +kernel) (by decide +kernel)).2.2 5 (finding _ _ _ (by decide +kernel) (by decide +kernel) (by decide +kernel) (by decide +kernel)) (alone _ (by decide +kernel))).1 (by decide +kernel)
  have i := ((h.1 (storing record [awaiting .paused 1 0 1]) (owner record [awaiting .paused 1 0 1]) (awaiting .paused 1 0 1) 77 8 (by decide +kernel) (by decide +kernel) (by decide +kernel) (by decide +kernel)).2.2 5 (finding _ _ _ (by decide +kernel) (by decide +kernel) (by decide +kernel) (by decide +kernel)) (alone _ (by decide +kernel))).2 ⟨1, 0, 1, 1⟩ (by decide +kernel) (by decide +kernel) |>.1 (by decide +kernel)
  have j := ((h.1 (storing record [awaiting .paused 0 2 1]) (owner record [awaiting .paused 0 2 1]) (awaiting .paused 0 2 1) 77 8 (by decide +kernel) (by decide +kernel) (by decide +kernel) (by decide +kernel)).2.2 5 (finding _ _ _ (by decide +kernel) (by decide +kernel) (by decide +kernel) (by decide +kernel)) (alone _ (by decide +kernel))).2 ⟨0, 2, 1, 1⟩ (by decide +kernel) (by decide +kernel) |>.2.1 (by decide +kernel) (by decide +kernel)
  have k := ((h.1 (storing record [awaiting .paused 0 1 1]) (owner record [awaiting .paused 0 1 1]) (awaiting .paused 0 1 1) 77 8 (by decide +kernel) (by decide +kernel) (by decide +kernel) (by decide +kernel)).2.2 5 (finding _ _ _ (by decide +kernel) (by decide +kernel) (by decide +kernel) (by decide +kernel)) (alone _ (by decide +kernel))).2 ⟨0, 1, 1, 1⟩ (by decide +kernel) (by decide +kernel) |>.2.2.1 (by decide +kernel) (by decide +kernel) (by exact (by unfold Plan.endsRound; decide +kernel))
  have l := ((h.1 (storing record [awaiting .paused 1 1 2]) (owner record [awaiting .paused 1 1 2]) (awaiting .paused 1 1 2) 77 8 (by decide +kernel) (by decide +kernel) (by decide +kernel) (by decide +kernel)).2.2 5 (finding _ _ _ (by decide +kernel) (by decide +kernel) (by decide +kernel) (by decide +kernel)) (alone _ (by decide +kernel))).2 ⟨1, 1, 2, 1⟩ (by decide +kernel) (by decide +kernel) |>.2.2.2 (by decide +kernel) (by decide +kernel) (by exact (by unfold Plan.endsRound; decide +kernel)) (by decide +kernel)
  exact ⟨⟨_, a⟩, ⟨_, b⟩, ⟨_, c⟩, ⟨_, d⟩, ⟨_, e⟩, ⟨_, f⟩, ⟨_, g⟩, ⟨_, i⟩, ⟨_, j⟩, ⟨_, k⟩, ⟨_, l⟩⟩

theorem witness_ReportsActOnTheHead_ready (h : Obligations.ReportsActOnTheHead) :
    Answers (exec (.reportReady 77) only) ∧
    Answers (exec (.reportReady 77) (storing record [paused])) ∧
    Answers (exec (.reportReady 77) (storing record [stale .held])) ∧
    Answers (exec (.reportReady 77) (storing record [heldFor 20])) := by
  have ya := (h.2 only record 77 (finding _ _ _ (by decide +kernel) (by decide +kernel) (by decide +kernel) (by decide +kernel))).1 (by decide +kernel)
  have yb := ((h.2 (storing record [paused]) (owner record [paused]) 77 (finding _ _ _ (by decide +kernel) (by decide +kernel) (by decide +kernel) (by decide +kernel))).2 paused (by decide +kernel)).1 (by decide +kernel)
  have yc := (((h.2 (storing record [stale .held]) (owner record [stale .held]) 77 (finding _ _ _ (by decide +kernel) (by decide +kernel) (by decide +kernel) (by decide +kernel))).2 (stale .held) (by decide +kernel)).2 ⟨0, 0, 2, 1⟩ (by decide +kernel) (by decide +kernel) (by decide +kernel)).1 (by decide +kernel)
  have yd := (((h.2 (storing record [heldFor 20]) (owner record [heldFor 20]) 77 (finding _ _ _ (by decide +kernel) (by decide +kernel) (by decide +kernel) (by decide +kernel))).2 (heldFor 20) (by decide +kernel)).2 ⟨0, 2, 2, 20⟩ (by decide +kernel) (by decide +kernel) (by decide +kernel)).2 (by decide +kernel)
  exact ⟨⟨_, ya⟩, ⟨_, yb⟩, ⟨_, yc⟩, ⟨_, yd⟩⟩

def withTakes (s : State) (n : Nat) : State := on s fun x => { x with bus.takes := (List.range n).map fun i => (2, BitVec.ofNat 8 i) }
theorem inside (s : State) (r : RoundPos) (h1 : s.stn.ctl.phase = .closed) (h2 : s.stn.bus.round = some r) : InRound s.stn r := ⟨h1, h2⟩

theorem witness_QueuedTakesWaitForTheNextWindow (h : Obligations.QueuedTakesWaitForTheNextWindow) :
    Answers (exec .roundFrameSend (withTakes (inOwn live 0) 9)) := by
  have a := h.1 (withTakes (inOwn live 0) 9) ⟨100, 0, [1, 2, 3]⟩ (inside _ _ (by decide +kernel) (by decide +kernel)) (by decide +kernel)
  have b := h.2.1 (withTakes (inOwn live 0) 9) true true State.reset (by exact .inl rfl)
  have c := h.2.2 (withTakes live 9) (withTakes live 9) .roundEnd (by exact rfl) (by decide +kernel) (by decide +kernel) (by decide +kernel) (by exact nofun)
  exact (let ⟨t, _, e, _⟩ := a; ⟨t, e⟩)

theorem witness_RoundFrameCarriesClaimsAndNotes (h : Obligations.RoundFrameCarriesClaimsAndNotes) :
    Answers (exec .roundFrameSend (withTakes (inOwn live 3) 9)) ∧
    Answers (exec .roundFrameSend (withTakes (inOwn (joining live) 2) 9)) ∧
    Answers (exec .roundFrameSend (inOwn live 0)) ∧
    Answers (exec .roundFrameSend (inOwn (on (storing record [readyMsg none]) fun x => { ctl := x.ctl, intake := x.intake, req := x.req, subs := x.subs, store := x.store, air := { frame := x.air.frame, begun := x.air.begun, claims := x.air.claims, peerClaims := x.air.peerClaims, maps := x.air.maps, buffer := x.air.buffer, abstain := [102], feed := x.air.feed, claimsLost := x.air.claimsLost, forfeits := x.air.forfeits, framesAbstained := x.air.framesAbstained : Airtime }, ret := x.ret, meter := x.meter, bill := x.bill, bus := x.bus, cust := x.cust : Stn }) 0)) ∧
    Answers (exec .roundFrameSend (inOwn (on (storing record [readyMsg none]) fun x => { ctl := x.ctl, intake := x.intake, req := x.req, subs := x.subs, store := x.store, air := { frame := x.air.frame, begun := x.air.begun, claims := List.replicate 8 (claim 1 0 none), peerClaims := x.air.peerClaims, maps := x.air.maps, buffer := x.air.buffer, abstain := x.air.abstain, feed := x.air.feed, claimsLost := x.air.claimsLost, forfeits := x.air.forfeits, framesAbstained := x.air.framesAbstained : Airtime }, ret := x.ret, meter := x.meter, bill := x.bill, bus := x.bus, cust := x.cust : Stn }) 0)) ∧
    Answers (exec .roundFrameSend (inOwn (storing record [readyMsg (some 8)]) 2)) ∧
    Answers (exec .roundFrameSend (inOwn (storing record [readyMsg none]) 2)) ∧
    Answers (exec .roundFrameSend (inOwn (noted live [{ dest := (note (.mirrorRemove 5)).dest, body := (note (.mirrorRemove 5)).body, serial := some 6, awaiting := (note (.mirrorRemove 5)).awaiting, sends := 7, route := (note (.mirrorRemove 5)).route, held := (note (.mirrorRemove 5)).held, stale := (note (.mirrorRemove 5)).stale, walk := (note (.mirrorRemove 5)).walk : Note }]) 3)) ∧
    Answers (exec .roundFrameSend (inOwn (noted live [note (.forward 7 (List.replicate 240 65))]) 3)) := by
  have a := ((h.1 (withTakes (inOwn live 3) 9) ⟨100, 3, [1, 2, 3]⟩ (inside _ _ (by decide +kernel) (by decide +kernel)) (by decide +kernel) (by decide +kernel)).1 (by decide +kernel)).1 (by decide +kernel)
  have b := ((h.1 (withTakes (inOwn (joining live) 2) 9) ⟨100, 2, [1, 2, 3]⟩ (inside _ _ (by decide +kernel) (by decide +kernel)) (by decide +kernel) (by decide +kernel)).1 (by decide +kernel)).2.1 (by decide +kernel) (by decide +kernel)
  have c := ((h.1 (inOwn live 0) ⟨100, 0, [1, 2, 3]⟩ (inside _ _ (by decide +kernel) (by decide +kernel)) (by decide +kernel) (by decide +kernel)).1 (by decide +kernel)).2.2.1 (by decide +kernel) (by decide +kernel) (by exact .inr (.inl (by decide +kernel)))
  have c' := ((h.1 (inOwn (on (storing record [readyMsg none]) fun x => { x with air.abstain := [102] }) 0) ⟨100, 0, [1, 2, 3]⟩ (inside _ _ (by decide +kernel) (by decide +kernel)) (by decide +kernel) (by decide +kernel)).1 (by decide +kernel)).2.2.1 (by decide +kernel) (by decide +kernel) (by exact .inl (by decide +kernel))
  have c'' := ((h.1 (inOwn (on (storing record [readyMsg none]) fun x => { x with air.claims := List.replicate 8 (claim 1 0 none) }) 0) ⟨100, 0, [1, 2, 3]⟩ (inside _ _ (by decide +kernel) (by decide +kernel)) (by decide +kernel) (by decide +kernel)).1 (by decide +kernel)).2.2.1 (by decide +kernel) (by decide +kernel) (by exact .inr (.inr (by decide +kernel)))
  have d := (((h.1 (inOwn (storing record [readyMsg (some 8)]) 2) ⟨100, 2, [1, 2, 3]⟩ (inside _ _ (by decide +kernel) (by decide +kernel)) (by decide +kernel) (by decide +kernel)).1 (by decide +kernel)).2.2.2 (readyMsg (some 8)) (owner record [readyMsg (some 8)]) (by decide +kernel) (by decide +kernel) (by decide +kernel) (by decide +kernel) (by decide +kernel) (by decide +kernel) (by decide +kernel)).1 (by decide +kernel)
  have e := (((h.1 (inOwn (storing record [readyMsg none]) 2) ⟨100, 2, [1, 2, 3]⟩ (inside _ _ (by decide +kernel) (by decide +kernel)) (by decide +kernel) (by decide +kernel)).1 (by decide +kernel)).2.2.2 (readyMsg none) (owner record [readyMsg none]) (by decide +kernel) (by decide +kernel) (by decide +kernel) (by decide +kernel) (by decide +kernel) (by decide +kernel) (by decide +kernel)).2 (by decide +kernel)
  have f := ((h.1 (inOwn (noted live [{ note (.mirrorRemove 5) with serial := some 6, sends := 7 }]) 3) ⟨100, 3, [1, 2, 3]⟩ (inside _ _ (by decide +kernel) (by decide +kernel)) (by decide +kernel) (by decide +kernel)).2 { note (.mirrorRemove 5) with serial := some 6, sends := 7 } (by decide +kernel) (by decide +kernel) (by decide +kernel) (by decide +kernel) (by decide +kernel)).1 6 (by decide +kernel) (by decide +kernel)
  have g := ((h.1 (inOwn (noted live [note (.forward 7 (List.replicate 240 0x41))]) 3) ⟨100, 3, [1, 2, 3]⟩ (inside _ _ (by decide +kernel) (by decide +kernel)) (by decide +kernel) (by decide +kernel)).2 (note (.forward 7 (List.replicate 240 0x41))) (by decide +kernel) (by decide +kernel) (by decide +kernel) (by decide +kernel) (by decide +kernel)).2 (by decide +kernel) (by decide +kernel)
  exact ⟨⟨_, a⟩, ⟨_, b⟩, ⟨_, c⟩, ⟨_, c'⟩, ⟨_, c''⟩, ⟨_, d⟩, ⟨_, e⟩, ⟨_, f⟩, ⟨_, g⟩⟩

/-- A held FORWARD, a note that waits for its take, and two long ones, behind which a long one to peer 2 does not fit,
nor a short one to peer 2 goes. -/
def mixedNotes : List Note :=
  [{ note (.forward 7 (str "M")) with held := true },
   { note (.mirrorRemove 5) with serial := some 3, awaiting := true, sends := 1 },
   note (.forward 8 (List.replicate 209 0x41)),
   { note (.forward 9 (List.replicate 199 0x41)) with dest := 3, sends := 2, serial := some 9 },
   note (.forward 10 (List.replicate 100 0x41)), note (.mirrorRemove 6)]
/-- Five short notes. -/
def fiveNotes : List Note := [note (.mirrorRemove 1), note (.mirrorRemove 2), note (.mirrorRemove 3), note (.mirrorRemove 4), note (.mirrorRemove 5)]
/-- Fifteen, or more, notes on their way to peer 2, the last of them DUE again, and one that was never sent. -/
def inFlightNotes (n : Nat) : List Note :=
  List.replicate n { note (.mirrorRemove 1) with serial := some 1, awaiting := true, sends := 1 } ++
    [{ note (.mirrorRemove 2) with serial := some 2, sends := 7 }, note (.mirrorRemove 3)]
theorem notShut {n : Note} {older after younger : List Note}
    (h : ∀ o ∈ older, o ∈ after → o.dest = n.dest → o.awaiting = true ∨ o.forwardTag? ≠ none ∧ o.held = true) :
    ¬ShutOut n older after younger := by
  rintro ⟨a, a', b, b', o, rfl, rfl, _, hd, hw, hf, _⟩
  rcases h o (by simp) (by simp) hd with h | ⟨h1, h2⟩
  · simp [hw] at h
  · simp [hf h1] at h2
def sends (l : List Note) (i : Fin 4) : State := inOwn (noted live l) i
def sentState (l : List Note) (i : Fin 4) : State :=
  match exec .roundFrameSend (sends l i) with
  | .next t => t
  | _ => sends l i
def sentNotes (l : List Note) (i : Fin 4) : List Note := (sentState l i).stn.bus.outbox
theorem sent_of {l : List Note} {i : Fin 4} {t : State} (h : exec .roundFrameSend (sends l i) = .next t) :
    t = sentState l i := by
  unfold sentState; rw [h]

theorem witness_RoundFrameCarriesClaimsAndNotes_notes (h : Obligations.RoundFrameCarriesClaimsAndNotes) :
    Answers (exec .roundFrameSend (sends mixedNotes 0)) ∧
    Answers (exec .roundFrameSend (sends fiveNotes 1)) ∧
    Answers (exec .roundFrameSend (sends (inFlightNotes 15) 2)) ∧
    Answers (exec .roundFrameSend (sends (inFlightNotes 14) 2)) := by
  obtain ⟨ta, fa, ea, _, _, _, _, ka, ca, _, _, _, _, _, _, ga⟩ := h.2 (sends mixedNotes 0) ⟨100, 0, [1, 2, 3]⟩ (inside _ _ (by decide +kernel) (by decide +kernel)) (by decide +kernel) (by decide +kernel)
  obtain rfl := sent_of ea
  rw [ka, ca] at ga
  have a0 := (ga (mixedNotes.take 0) (mixedNotes.drop 1) ((sentNotes mixedNotes 0).take 0) ((sentNotes mixedNotes 0).drop 1) (mixedNotes.get ⟨0, by decide +kernel⟩) ((sentNotes mixedNotes 0).get ⟨0, by decide +kernel⟩) (by decide +kernel) (by decide +kernel) (by decide +kernel)).2 (fun x => absurd (x.1.2.1 (by decide +kernel)) (by decide +kernel))
  have a1 := (ga (mixedNotes.take 1) (mixedNotes.drop 2) ((sentNotes mixedNotes 0).take 1) ((sentNotes mixedNotes 0).drop 2) (mixedNotes.get ⟨1, by decide +kernel⟩) ((sentNotes mixedNotes 0).get ⟨1, by decide +kernel⟩) (by decide +kernel) (by decide +kernel) (by decide +kernel)).2 (fun x => absurd x.1.1 (by decide +kernel))
  have a2 := (ga (mixedNotes.take 2) (mixedNotes.drop 3) ((sentNotes mixedNotes 0).take 2) ((sentNotes mixedNotes 0).drop 3) (mixedNotes.get ⟨2, by decide +kernel⟩) ((sentNotes mixedNotes 0).get ⟨2, by decide +kernel⟩) (by decide +kernel) (by decide +kernel) (by decide +kernel)).1 ⟨⟨by decide +kernel, fun _ => by decide +kernel, fun _ => by decide +kernel⟩, by decide +kernel, by decide +kernel, notShut (by decide +kernel)⟩
  have a3 := (ga (mixedNotes.take 3) (mixedNotes.drop 4) ((sentNotes mixedNotes 0).take 3) ((sentNotes mixedNotes 0).drop 4) (mixedNotes.get ⟨3, by decide +kernel⟩) ((sentNotes mixedNotes 0).get ⟨3, by decide +kernel⟩) (by decide +kernel) (by decide +kernel) (by decide +kernel)).1 ⟨⟨by decide +kernel, fun _ => by decide +kernel, fun z => absurd z (by decide +kernel)⟩, by decide +kernel, by decide +kernel, notShut (by decide +kernel)⟩
  have a4 := (ga (mixedNotes.take 4) (mixedNotes.drop 5) ((sentNotes mixedNotes 0).take 4) ((sentNotes mixedNotes 0).drop 5) (mixedNotes.get ⟨4, by decide +kernel⟩) ((sentNotes mixedNotes 0).get ⟨4, by decide +kernel⟩) (by decide +kernel) (by decide +kernel) (by decide +kernel)).2 (fun x => absurd x.2.2.1 (by decide +kernel))
  have a5 := (ga (mixedNotes.take 5) (mixedNotes.drop 6) ((sentNotes mixedNotes 0).take 5) ((sentNotes mixedNotes 0).drop 6) (mixedNotes.get ⟨5, by decide +kernel⟩) ((sentNotes mixedNotes 0).get ⟨5, by decide +kernel⟩) (by decide +kernel) (by decide +kernel) (by decide +kernel)).2 (fun x => x.2.2.2 ⟨mixedNotes.take 4, (sentNotes mixedNotes 0).take 4, [], [], mixedNotes.get ⟨4, by decide +kernel⟩, by decide +kernel, by decide +kernel, by decide +kernel, by decide +kernel, by decide +kernel, fun _ => by decide +kernel, fun _ => by decide +kernel⟩)
  obtain ⟨tb, fb, eb, _, _, _, _, kb, cb, _, _, _, _, _, _, gb⟩ := h.2 (sends fiveNotes 1) ⟨100, 1, [1, 2, 3]⟩ (inside _ _ (by decide +kernel) (by decide +kernel)) (by decide +kernel) (by decide +kernel)
  obtain rfl := sent_of eb
  rw [kb, cb] at gb
  have b3 := (gb (fiveNotes.take 3) (fiveNotes.drop 4) ((sentNotes fiveNotes 1).take 3) ((sentNotes fiveNotes 1).drop 4) (fiveNotes.get ⟨3, by decide +kernel⟩) ((sentNotes fiveNotes 1).get ⟨3, by decide +kernel⟩) (by decide +kernel) (by decide +kernel) (by decide +kernel)).1 ⟨⟨by decide +kernel, fun _ => by decide +kernel, fun _ => by decide +kernel⟩, by decide +kernel, by decide +kernel, notShut (by decide +kernel)⟩
  have b4 := (gb (fiveNotes.take 4) (fiveNotes.drop 5) ((sentNotes fiveNotes 1).take 4) ((sentNotes fiveNotes 1).drop 5) (fiveNotes.get ⟨4, by decide +kernel⟩) ((sentNotes fiveNotes 1).get ⟨4, by decide +kernel⟩) (by decide +kernel) (by decide +kernel) (by decide +kernel)).2 (fun x => absurd x.2.1 (by decide +kernel))
  obtain ⟨tc, fc, ec, _, _, _, _, kc, cc, _, _, _, _, _, _, gc⟩ := h.2 (sends (inFlightNotes 15) 2) ⟨100, 2, [1, 2, 3]⟩ (inside _ _ (by decide +kernel) (by decide +kernel)) (by decide +kernel) (by decide +kernel)
  obtain rfl := sent_of ec
  rw [kc, cc] at gc
  have c15 := (gc ((inFlightNotes 15).take 15) ((inFlightNotes 15).drop 16) ((sentNotes (inFlightNotes 15) 2).take 15) ((sentNotes (inFlightNotes 15) 2).drop 16) ((inFlightNotes 15).get ⟨15, by decide +kernel⟩) ((sentNotes (inFlightNotes 15) 2).get ⟨15, by decide +kernel⟩) (by decide +kernel) (by decide +kernel) (by decide +kernel)).1 ⟨⟨by decide +kernel, fun _ => by decide +kernel, fun z => absurd z (by decide +kernel)⟩, by decide +kernel, by decide +kernel, notShut (by decide +kernel)⟩
  have c16 := (gc ((inFlightNotes 15).take 16) ((inFlightNotes 15).drop 17) ((sentNotes (inFlightNotes 15) 2).take 16) ((sentNotes (inFlightNotes 15) 2).drop 17) ((inFlightNotes 15).get ⟨16, by decide +kernel⟩) ((sentNotes (inFlightNotes 15) 2).get ⟨16, by decide +kernel⟩) (by decide +kernel) (by decide +kernel) (by decide +kernel)).2 (fun x => absurd (x.1.2.2 (by decide +kernel)) (by decide +kernel))
  obtain ⟨td, fd, ed, _, _, _, _, kd, cd, _, _, _, _, _, _, gd⟩ := h.2 (sends (inFlightNotes 14) 2) ⟨100, 2, [1, 2, 3]⟩ (inside _ _ (by decide +kernel) (by decide +kernel)) (by decide +kernel) (by decide +kernel)
  obtain rfl := sent_of ed
  rw [kd, cd] at gd
  have d15 := (gd ((inFlightNotes 14).take 15) ((inFlightNotes 14).drop 16) ((sentNotes (inFlightNotes 14) 2).take 15) ((sentNotes (inFlightNotes 14) 2).drop 16) ((inFlightNotes 14).get ⟨15, by decide +kernel⟩) ((sentNotes (inFlightNotes 14) 2).get ⟨15, by decide +kernel⟩) (by decide +kernel) (by decide +kernel) (by decide +kernel)).1 ⟨⟨by decide +kernel, fun _ => by decide +kernel, fun _ => by decide +kernel⟩, by decide +kernel, by decide +kernel, notShut (by decide +kernel)⟩
  exact ⟨⟨_, ea⟩, ⟨_, eb⟩, ⟨_, ec⟩, ⟨_, ed⟩⟩

def spoken (office : BitVec 16) (index : Fin 4) (takes : List (Station × NoteSerial)) (notes : List WireNote) : RoundFrame :=
  { sender := 2, state := .live, office := office, frame := 100, draining := true, index := index, period := 0,
    silence := 0x0008, custody := 0, takes := takes, claims := [{ claim 2 0 none with target := 102 }], notes := notes }
def soft (n : Nat) (v : View) : State := on live fun x => { x with cust.map := [member 1 .live, { member 2 v with silent := BitVec.ofNat 8 n }, member 3 .live] }
theorem atWindow (s : State) (r : RoundPos) (k : Station) (h : s.stn.ctl.phase = .closed ∧ s.stn.bus.round = some r ∧
    r.left.head? = some k ∧ s.stn.cust.declaration ≠ .declaring) : AtWindow s.stn r k := ⟨⟨h.1, h.2.1⟩, h.2.2⟩
theorem notJoining (s : State) (h : s.stn.cust.join = .before) : ∀ x, s.stn.cust.join ≠ .running x := fun x e => by rw [h] at e; cases e
theorem hears (s : State) (r : RoundPos) (p : Station) (heard : List Byte) (f : RoundFrame)
    (h : s.stn.ctl.phase = .closed ∧ s.stn.bus.round = some r ∧ r.left.head? = some p ∧
      s.stn.cust.declaration ≠ .declaring ∧ p ≠ s.stn.self ∧ s.stn.intake.waiting = [] ∧ heard ≠ [] ∧
      readFrame s.stn.img.roster heard = some f ∧ f.office = s.stn.img.office ∧ f.sender = p ∧
      f.index = r.index) : Hears s.stn r p heard f :=
  ⟨⟨⟨h.1, h.2.1⟩, h.2.2.1, h.2.2.2.1⟩, h.2.2.2.2⟩
theorem keepsTheMap (s : State) (p : Station) (f : RoundFrame)
    (h : s.stn.cust.join = .before ∧ f.state = .live ∧ s.stn.view p = .live ∧ f.custody = 0 ∧
      (s.stn.custodian p).isSome = true ∧ ∀ k ∈ s.stn.roster, k ≠ p → s.stn.custodian k ≠ some p) :
    KeepsTheMap s.stn p f := ⟨h.2.1, h.2.2.1, h.2.2.2.1, h.2.2.2.2.1, h.2.2.2.2.2, notJoining s h.1⟩
theorem changesNothing (s : State) (p : Station) (f : RoundFrame)
    (h : s.stn.cust.join = .before ∧ f.state = .live ∧ s.stn.view p = .live ∧ f.custody = 0 ∧
      (s.stn.custodian p).isSome = true ∧ ∀ k ∈ s.stn.roster, k ≠ p → s.stn.custodian k ≠ some p)
    (h2 : later f.period s.stn.bill.period = false) : ChangesNothing s.stn p f := ⟨keepsTheMap s p f h, h2⟩

theorem witness_WindowReadingsUpdateTheOfficeMap (h : Obligations.WindowReadingsUpdateTheOfficeMap) :
    Answers (exec (.windowReading 2 []) (inBuddy (soft 1 .live) 0)) ∧
    Answers (exec (.windowReading 2 []) (inBuddy (soft 255 .failed) 0)) ∧
    Answers (exec (.windowReading 2 [179]) (inBuddy (soft 1 .live) 3)) ∧
    Answers (exec (.windowReading 2 (spoken 1207 1 [] []).bytes) (inBuddy (soft 1 .live) 0)) ∧
    Answers (exec (.windowReading 2 (spoken 1208 0 [] []).bytes) (inBuddy (soft 1 .failed) 0)) ∧
    Answers (exec (.windowReading 2 (spoken 1208 0 [] []).bytes) (inBuddy (soft 1 .silent) 0)) ∧
    Answers (exec (.windowReading 2 (spoken 1207 0 [] []).bytes) (inBuddy (soft 1 .live) 0)) := by
  have a := (h (inBuddy (soft 1 .live) 0) ⟨100, 0, [2, 3]⟩ 2 { member 2 .live with silent := 1 } [] (atWindow _ _ _ (by decide +kernel)) (by decide +kernel) (by decide +kernel) (by decide +kernel) (by decide +kernel)).1 (by decide +kernel) (by exact .inl (by decide +kernel))
  have a' := (h (inBuddy (soft 255 .failed) 0) ⟨100, 0, [2, 3]⟩ 2 { member 2 .failed with silent := 255 } [] (atWindow _ _ _ (by decide +kernel)) (by decide +kernel) (by decide +kernel) (by decide +kernel) (by decide +kernel)).1 (by decide +kernel) (by exact .inr (by decide +kernel))
  have b := (h (inBuddy (soft 1 .live) 3) ⟨100, 3, [2, 3]⟩ 2 { member 2 .live with silent := 1 } [0xB3] (atWindow _ _ _ (by decide +kernel)) (by decide +kernel) (by decide +kernel) (by decide +kernel) (by decide +kernel)).2.1 (by decide +kernel) (by decide +kernel)
  have c := ((h (inBuddy (soft 1 .live) 0) ⟨100, 0, [2, 3]⟩ 2 { member 2 .live with silent := 1 } (spoken 1207 1 [] []).bytes (atWindow _ _ _ (by decide +kernel)) (by decide +kernel) (by decide +kernel) (by decide +kernel) (by decide +kernel)).2.2 (spoken 1207 1 [] []) (by decide +kernel) (by decide +kernel)).1 (by decide +kernel) (by exact .inr (by decide +kernel))
  have d := ((h (inBuddy (soft 1 .failed) 0) ⟨100, 0, [2, 3]⟩ 2 { member 2 .failed with silent := 1 } (spoken 1208 0 [] []).bytes (atWindow _ _ _ (by decide +kernel)) (by decide +kernel) (by decide +kernel) (by decide +kernel) (by decide +kernel)).2.2 (spoken 1208 0 [] []) (by decide +kernel) (by decide +kernel)).2.1 (by decide +kernel) (by decide +kernel)
  have e := ((h (inBuddy (soft 1 .silent) 0) ⟨100, 0, [2, 3]⟩ 2 { member 2 .silent with silent := 1 } (spoken 1208 0 [] []).bytes (atWindow _ _ _ (by decide +kernel)) (by decide +kernel) (by decide +kernel) (by decide +kernel) (by decide +kernel)).2.2 (spoken 1208 0 [] []) (by decide +kernel) (by decide +kernel)).2.2.1 (by decide +kernel) (by decide +kernel) (by decide +kernel) (by exact (by unfold NoneFailed; decide +kernel))
  have f := ((h (inBuddy (soft 1 .live) 0) ⟨100, 0, [2, 3]⟩ 2 { member 2 .live with silent := 1 } (spoken 1207 0 [] []).bytes (atWindow _ _ _ (by decide +kernel)) (by decide +kernel) (by decide +kernel) (by decide +kernel) (by decide +kernel)).2.2 (spoken 1207 0 [] []) (by decide +kernel) (by decide +kernel)).2.2.2 (by decide +kernel) (by decide +kernel) (by decide +kernel) (changesNothing _ _ _ (by decide +kernel) (by decide +kernel)) (by decide +kernel) (by decide +kernel)
  exact ⟨⟨_, a⟩, ⟨_, a'⟩, ⟨_, b⟩, ⟨_, c⟩, ⟨_, d⟩, ⟨_, e⟩, ⟨_, f⟩⟩

def sentNote (b : NoteBody) : Note := { note b with serial := some 6, awaiting := true, sends := 1 }
def wire (d : Station) (b : NoteBody) : WireNote := { dest := d, serial := 9, body := b }
/-- A later note of the same frame. -/
def again : WireNote := { dest := 1, serial := 10, body := .mirrorRemove 5 }
def remembering (l : List NoteSerial) (s : State) : State := on s fun x => { x with bus.memory := x.bus.memory.set 2 l }
def mirrors : State := mirrored .plain (some 3) .idle

theorem witness_TakesAndNotesOfAValidFrame (h : Obligations.TakesAndNotesOfAValidFrame) :
    Answers (exec (.windowReading 2 (spoken 1207 0 [] [wire 1 (.forward 7 (str "M/1000001")), again]).bytes) (inBuddy (remembering [10] (outboxOf 32 live)) 0)) ∧
    Answers (exec (.windowReading 2 (spoken 1207 0 [] [wire 1 (.forward 7 (str "M/1000001")), again]).bytes) (inBuddy (outboxOf 32 live) 0)) ∧
    Answers (exec (.windowReading 2 (spoken 1207 0 [(1, 6)] []).bytes) (inBuddy (noted live [note .retEnd, sentNote (.mirrorRemove 5), note (.mirrorRemove 6)]) 0)) ∧
    Answers (exec (.windowReading 2 (spoken 1207 0 [(1, 6)] []).bytes) (inBuddy (noted (pending live [entry 7 .sending]) [sentNote (.forward 7 (str "M/2000001"))]) 0)) ∧
    Answers (exec (.windowReading 2 (spoken 1207 3 [] [wire 3 (.mirrorRemove 3000001)]).bytes) (inBuddy live 3)) ∧
    Answers (exec (.windowReading 2 (spoken 1207 0 [] [wire 1 (.mirrorRemove 3000001)]).bytes) (inBuddy (remembering [8, 9] live) 0)) ∧
    Answers (exec (.windowReading 2 (spoken 1207 0 [] [wire 1 (.forward 7 (str "M/1000001"))]).bytes) (inBuddy (outboxOf 32 live) 0)) ∧
    Answers (exec (.windowReading 2 (spoken 1207 0 [] [wire 1 (.mirrorRemove 3000001)]).bytes) (inBuddy (remembering (List.replicate 16 8) mirrors) 0)) ∧
    Answers (exec (.windowReading 2 (spoken 1207 0 [] [wire 1 (.ret admin 4 (some 2) record.meter)]).bytes) (inBuddy live 0)) := by
  have a := ((h (inBuddy (noted live [note .retEnd, sentNote (.mirrorRemove 5), note (.mirrorRemove 6)]) 0) ⟨100, 0, [2, 3]⟩ 2 (spoken 1207 0 [(1, 6)] []).bytes (spoken 1207 0 [(1, 6)] []) (hears _ _ _ _ _ (by decide +kernel)) (changesNothing _ _ _ (by decide +kernel) (by decide +kernel))).1 [note .retEnd] [note (.mirrorRemove 6)] (sentNote (.mirrorRemove 5)) 6 (eachHasItsNote _ (by decide +kernel)) (by decide +kernel) (by decide +kernel) (by decide +kernel) (by decide +kernel) (by decide +kernel) (by decide +kernel)).1 (by exact .inr ⟨rfl, nofun⟩)
  have b := ((h (inBuddy (noted (pending live [entry 7 .sending]) [sentNote (.forward 7 (str "M/2000001"))]) 0) ⟨100, 0, [2, 3]⟩ 2 (spoken 1207 0 [(1, 6)] []).bytes (spoken 1207 0 [(1, 6)] []) (hears _ _ _ _ _ (by decide +kernel)) (changesNothing _ _ _ (by decide +kernel) (by decide +kernel))).1 [] [] (sentNote (.forward 7 (str "M/2000001"))) 6 (eachHasItsNote _ (by decide +kernel)) (by decide +kernel) (by decide +kernel) (by decide +kernel) (by decide +kernel) (by decide +kernel) (by decide +kernel)).2 7 (str "M/2000001") (by decide +kernel)
  have c := ((h (inBuddy live 3) ⟨100, 3, [2, 3]⟩ 2 (spoken 1207 3 [] [wire 3 (.mirrorRemove 3000001)]).bytes (spoken 1207 3 [] [wire 3 (.mirrorRemove 3000001)]) (hears _ _ _ _ _ (by decide +kernel)) (changesNothing _ _ _ (by decide +kernel) (by decide +kernel))).2.2 (wire 3 (.mirrorRemove 3000001)) (by decide +kernel) (by decide +kernel) (by decide +kernel)).1 (by decide +kernel)
  have d := ((h (inBuddy (remembering [8, 9] live) 0) ⟨100, 0, [2, 3]⟩ 2 (spoken 1207 0 [] [wire 1 (.mirrorRemove 3000001)]).bytes (spoken 1207 0 [] [wire 1 (.mirrorRemove 3000001)]) (hears _ _ _ _ _ (by decide +kernel)) (changesNothing _ _ _ (by decide +kernel) (by decide +kernel))).2.2 (wire 1 (.mirrorRemove 3000001)) (by decide +kernel) (by decide +kernel) (by decide +kernel)).2.1 (by decide +kernel) (by decide +kernel)
  have e := ((h (inBuddy (outboxOf 32 live) 0) ⟨100, 0, [2, 3]⟩ 2 (spoken 1207 0 [] [wire 1 (.forward 7 (str "M/1000001"))]).bytes (spoken 1207 0 [] [wire 1 (.forward 7 (str "M/1000001"))]) (hears _ _ _ _ _ (by decide +kernel)) (changesNothing _ _ _ (by decide +kernel) (by decide +kernel))).2.2 (wire 1 (.forward 7 (str "M/1000001"))) (by decide +kernel) (by decide +kernel) (by decide +kernel)).2.2.1 7 (str "M/1000001") (by decide +kernel) (by decide +kernel) (by decide +kernel) (by decide +kernel)
  have f := ((h (inBuddy (remembering (List.replicate 16 8) mirrors) 0) ⟨100, 0, [2, 3]⟩ 2 (spoken 1207 0 [] [wire 1 (.mirrorRemove 3000001)]).bytes (spoken 1207 0 [] [wire 1 (.mirrorRemove 3000001)]) (hears _ _ _ _ _ (by decide +kernel)) (changesNothing _ _ _ (by decide +kernel) (by decide +kernel))).2.2 (wire 1 (.mirrorRemove 3000001)) (by decide +kernel) (by decide +kernel) (by decide +kernel)).2.2.2.1 3000001 (by decide +kernel) (by decide +kernel) (by decide +kernel)
  have g := ((h (inBuddy live 0) ⟨100, 0, [2, 3]⟩ 2 (spoken 1207 0 [] [wire 1 (.ret admin 4 (some 2) record.meter)]).bytes (spoken 1207 0 [] [wire 1 (.ret admin 4 (some 2) record.meter)]) (hears _ _ _ _ _ (by decide +kernel)) (changesNothing _ _ _ (by decide +kernel) (by decide +kernel))).2.2 (wire 1 (.ret admin 4 (some 2) record.meter)) (by decide +kernel) (by decide +kernel) (by decide +kernel)).2.2.2.2 admin 4 (some 2) record.meter (by decide +kernel) (by decide +kernel) (by decide +kernel) (by decide +kernel) (by decide +kernel)
  have i := ((h (inBuddy (remembering [10] (outboxOf 32 live)) 0) ⟨100, 0, [2, 3]⟩ 2 (spoken 1207 0 [] [wire 1 (.forward 7 (str "M/1000001")), again]).bytes (spoken 1207 0 [] [wire 1 (.forward 7 (str "M/1000001")), again]) (hears _ _ _ _ _ (by decide +kernel)) (changesNothing _ _ _ (by decide +kernel) (by decide +kernel))).2.1 (wire 1 (.forward 7 (str "M/1000001"))) again (by decide +kernel) (by decide +kernel) (by decide +kernel) (by decide +kernel) (by decide +kernel) (by decide +kernel) (by exact ⟨7, str "M/1000001", rfl⟩) (by decide +kernel)).2 (by decide +kernel)
  have j := ((h (inBuddy (outboxOf 32 live) 0) ⟨100, 0, [2, 3]⟩ 2 (spoken 1207 0 [] [wire 1 (.forward 7 (str "M/1000001")), again]).bytes (spoken 1207 0 [] [wire 1 (.forward 7 (str "M/1000001")), again]) (hears _ _ _ _ _ (by decide +kernel)) (changesNothing _ _ _ (by decide +kernel) (by decide +kernel))).2.1 (wire 1 (.forward 7 (str "M/1000001"))) again (by decide +kernel) (by decide +kernel) (by decide +kernel) (by decide +kernel) (by decide +kernel) (by decide +kernel) (by exact ⟨7, str "M/1000001", rfl⟩) (by decide +kernel)).1 (by decide +kernel)
  exact ⟨⟨_, i⟩, ⟨_, j⟩, ⟨_, a⟩, ⟨_, b⟩, ⟨_, c⟩, ⟨_, d⟩, ⟨_, e⟩, ⟨_, f⟩, ⟨_, g⟩⟩

def ebbing (p : Station) (ret : ReturnWalk) : State := on live fun x => { x with
  cust.map := x.cust.map.map fun e => if e.station = p then { e with silent := 2 } else e, subs.ret := ret }
theorem noneFailed (s : State) (h : ∀ k ∈ s.stn.roster, s.stn.view (buddyOf s.stn.img.roster k) ≠ .failed) : NoneFailed s.stn := h

theorem witness_SilenceMakesThePeerSilent (h : Obligations.SilenceMakesThePeerSilent) :
    Answers (exec (.silentView 3) (on (ebbing 3 (.running .revisit none)) fun x => { ctl := x.ctl, intake := x.intake, req := x.req, subs := { active := x.subs.active, standby := x.subs.standby, standbyComplete := x.subs.standbyComplete, grant := .ret, drain := x.subs.drain, ret := x.subs.ret, mirror := x.subs.mirror : Subscribers }, store := x.store, air := x.air, ret := x.ret, meter := x.meter, bill := { period := x.bill.period, pendingClose := some 4, peers := x.bill.peers, forming := x.bill.forming, pause := x.bill.pause, counter := x.bill.counter, counted := x.bill.counted, queue := x.bill.queue, sending := x.bill.sending, blocksSent := x.bill.blocksSent, entriesLimited := x.bill.entriesLimited : Billing }, bus := x.bus, cust := x.cust : Stn })) ∧
    Answers (exec (.silentView 2) (ebbing 2 .waiting)) ∧
    Answers (exec (.silentView 3) (ebbing 3 .waiting)) ∧
    Answers (exec (.silentView 3) (inWard (on (ebbing 3 (.running .revisit none)) fun x => { ctl := x.ctl, intake := x.intake, req := x.req, subs := { active := [{ admin := adopted.admin, origin := adopted.origin, home := adopted.home, returning := true, nextTag := adopted.nextTag, queue := adopted.queue, lastZone := adopted.lastZone, meter := adopted.meter : Record }], standby := x.subs.standby, standbyComplete := x.subs.standbyComplete, grant := .ret, drain := x.subs.drain, ret := x.subs.ret, mirror := x.subs.mirror : Subscribers }, store := x.store, air := x.air, ret := x.ret, meter := x.meter, bill := x.bill, bus := x.bus, cust := x.cust : Stn }) 1)) ∧
    Answers (exec (.windowReading 3 []) (inWard (on (ebbing 3 (.running .revisit none)) fun x => { ctl := x.ctl, intake := x.intake, req := x.req, subs := { active := [{ admin := adopted.admin, origin := adopted.origin, home := adopted.home, returning := true, nextTag := adopted.nextTag, queue := adopted.queue, lastZone := adopted.lastZone, meter := adopted.meter : Record }], standby := x.subs.standby, standbyComplete := x.subs.standbyComplete, grant := .ret, drain := x.subs.drain, ret := x.subs.ret, mirror := x.subs.mirror : Subscribers }, store := x.store, air := x.air, ret := x.ret, meter := x.meter, bill := x.bill, bus := x.bus, cust := x.cust : Stn }) 1)) := by
  have a := (h (ebbing 2 .waiting) 2 { member 2 .live with silent := 2 } (by decide +kernel) (by decide +kernel) (by decide +kernel) (by decide +kernel) (by decide +kernel) (by decide +kernel) (noneFailed _ (by decide +kernel))).1 (by exact .inl (by decide +kernel))
  have a1 := a.1
  have b := (h (ebbing 3 .waiting) 3 { member 3 .live with silent := 2 } (by decide +kernel) (by decide +kernel) (by decide +kernel) (by decide +kernel) (by decide +kernel) (by decide +kernel) (noneFailed _ (by decide +kernel))).2.1 (by decide +kernel) (by decide +kernel)
  have b1 := b.1
  have c := (h (inWard (on (ebbing 3 (.running .revisit none)) fun x => { x with subs.grant := .ret, subs.active := [{ adopted with returning := true }] }) 1) 3 { member 3 .live with silent := 2 } (by decide +kernel) (by decide +kernel) (by decide +kernel) (by decide +kernel) (by decide +kernel) (by decide +kernel) (noneFailed _ (by decide +kernel))).2.2 .revisit none (by decide +kernel) (by decide +kernel)
  have c1 := c.1
  have c2 := c.2 ⟨100, 1, [3]⟩ (atWindow _ _ _ (by decide +kernel))
  have d := (h (on (ebbing 3 (.running .revisit none)) fun x => { x with subs.grant := .ret, bill.pendingClose := some 4 }) 3 { member 3 .live with silent := 2 } (by decide +kernel) (by decide +kernel) (by decide +kernel) (by decide +kernel) (by decide +kernel) (by decide +kernel) (noneFailed _ (by decide +kernel))).2.2 .revisit none (by decide +kernel) (by decide +kernel)
  have d1 := d.1
  exact ⟨⟨_, d1⟩, ⟨_, a1⟩, ⟨_, b1⟩, ⟨_, c1⟩, ⟨_, c2⟩⟩

def unanswered (b : NoteBody) (n : Nat) : Note := { sentNote b with sends := n }
def answer : NoteBody := .answer 5 .notYet
def walking (r : ReturnWalk) (m : MirrorWalk) (n : Note) : State := noted (on live fun x => { x with
  subs := { x.subs with ret := r, mirror := m, grant := .ret, active := [{ adopted with returning := true }] } }) [note answer, n, { note .retEnd with walk := .ret }]

theorem witness_NotesWithoutTheirTakeAreResentOrFail (h : Obligations.NotesWithoutTheirTakeAreResentOrFail) :
    Answers (exec (.windowReading 2 []) (inBuddy (noted live [unanswered answer 7]) 0)) ∧
    Answers (exec (.windowReading 2 []) (inBuddy (noted (viewing live .silent .live) [unanswered (.forward 7 (str "T")) 7]) 0)) ∧
    Answers (exec (.windowReading 2 []) (inBuddy (noted live [unanswered answer 8]) 0)) ∧
    Answers (exec (.noteFailure 2 6) (noted live [note .retEnd, unanswered answer 8])) ∧
    Answers (exec (.noteFailure 2 6) (noted (pending live [entry 7 .sending]) [unanswered (.forward 7 (str "T")) 8])) ∧
    Answers (exec (.noteFailure 2 6) (noted (pending live [entry 7 .sending]) [{ dest := (unanswered (.forward 7 (str "T")) 8).dest, body := (unanswered (.forward 7 (str "T")) 8).body, serial := (unanswered (.forward 7 (str "T")) 8).serial, awaiting := (unanswered (.forward 7 (str "T")) 8).awaiting, sends := (unanswered (.forward 7 (str "T")) 8).sends, route := .receipt 2, held := (unanswered (.forward 7 (str "T")) 8).held, stale := true, walk := (unanswered (.forward 7 (str "T")) 8).walk : Note }])) ∧
    Answers (exec (.noteFailure 2 6) (walking (.running .ending none) .idle { dest := (unanswered .retEnd 8).dest, body := (unanswered .retEnd 8).body, serial := (unanswered .retEnd 8).serial, awaiting := (unanswered .retEnd 8).awaiting, sends := (unanswered .retEnd 8).sends, route := (unanswered .retEnd 8).route, held := (unanswered .retEnd 8).held, stale := (unanswered .retEnd 8).stale, walk := NoteWalk.ret : Note })) ∧
    Answers (exec (.noteFailure 2 6) (walking .idle (.running none false true) (unanswered (.mirrorEnd true) 8))) ∧
    Answers (exec (.noteFailure 2 6) (walking .idle (.restartWait 3) (unanswered (.mirrorRemove 5) 8))) := by
  have a := ((h (inBuddy (noted live [unanswered answer 7]) 0) 2 6 (unanswered answer 7) (by decide +kernel) (by decide +kernel) (by decide +kernel) (by decide +kernel) (eachHasItsNote _ (by decide +kernel))).1 ⟨100, 0, [2, 3]⟩ (member 2 .live) (atWindow _ _ _ (by decide +kernel)) (by decide +kernel) (by decide +kernel) (by decide +kernel) (by exact .inl (by decide +kernel)) (by decide +kernel)).1 (by decide +kernel) (by decide +kernel)
  have b := ((h (inBuddy (noted (viewing live .silent .live) [unanswered (.forward 7 (str "T")) 7]) 0) 2 6 (unanswered (.forward 7 (str "T")) 7) (by decide +kernel) (by decide +kernel) (by decide +kernel) (by decide +kernel) (eachHasItsNote _ (by decide +kernel))).1 ⟨100, 0, [2, 3]⟩ (member 2 .silent) (atWindow _ _ _ (by decide +kernel)) (by decide +kernel) (by decide +kernel) (by decide +kernel) (by exact .inr (by decide +kernel)) (by decide +kernel)).2.1 (by decide +kernel) (by decide +kernel)
  have c := ((h (inBuddy (noted live [unanswered answer 8]) 0) 2 6 (unanswered answer 8) (by decide +kernel) (by decide +kernel) (by decide +kernel) (by decide +kernel) (eachHasItsNote _ (by decide +kernel))).1 ⟨100, 0, [2, 3]⟩ (member 2 .live) (atWindow _ _ _ (by decide +kernel)) (by decide +kernel) (by decide +kernel) (by decide +kernel) (by exact .inl (by decide +kernel)) (by decide +kernel)).2.2 (by decide +kernel) (by exact ⟨5, .notYet, rfl⟩)
  have d := ((h (noted live [note .retEnd, unanswered answer 8]) 2 6 (unanswered answer 8) (by decide +kernel) (by decide +kernel) (by decide +kernel) (by decide +kernel) (eachHasItsNote _ (by decide +kernel))).2 [note .retEnd] [] (by decide +kernel) (by decide +kernel) (by decide +kernel)).1 5 .notYet (by decide +kernel)
  have g := ((h (walking .idle (.running none false true) (unanswered (.mirrorEnd true) 8)) 2 6 (unanswered (.mirrorEnd true) 8) (by decide +kernel) (by decide +kernel) (by decide +kernel) (by decide +kernel) (eachHasItsNote _ (by decide +kernel))).2 [note answer] [{ note .retEnd with walk := .ret }] (by decide +kernel) (by decide +kernel) (by decide +kernel)).2.2.2.1 none false true (by decide +kernel) (by decide +kernel)
  have i := ((h (walking .idle (.restartWait 3) (unanswered (.mirrorRemove 5) 8)) 2 6 (unanswered (.mirrorRemove 5) 8) (by decide +kernel) (by decide +kernel) (by decide +kernel) (by decide +kernel) (eachHasItsNote _ (by decide +kernel))).2 [note answer] [{ note .retEnd with walk := .ret }] (by decide +kernel) (by decide +kernel) (by decide +kernel)).2.2.2.2 (by decide +kernel) (by exact nofun)
  have e := ((h (noted (pending live [entry 7 .sending]) [unanswered (.forward 7 (str "T")) 8]) 2 6 (unanswered (.forward 7 (str "T")) 8) (by decide +kernel) (by decide +kernel) (by decide +kernel) (by decide +kernel) (eachHasItsNote _ (by decide +kernel))).2 [] [] (by decide +kernel) (by decide +kernel) (by decide +kernel)).2.1 7 (str "T") (entry 7 .sending) (by decide +kernel) (by decide +kernel) (by decide +kernel) (replyFits _ _ (by decide +kernel)) (by decide +kernel) |>.1 (by decide +kernel)
  have e1 := ((h (noted (pending live [entry 7 .sending]) [{ unanswered (.forward 7 (str "T")) 8 with route := .receipt 2, stale := true }]) 2 6 { unanswered (.forward 7 (str "T")) 8 with route := .receipt 2, stale := true } (by decide +kernel) (by decide +kernel) (by decide +kernel) (by decide +kernel) (eachHasItsNote _ (by decide +kernel))).2 [] [] (by decide +kernel) (by decide +kernel) (by decide +kernel)).2.1 7 (str "T") (entry 7 .sending) (by decide +kernel) (by decide +kernel) (by decide +kernel) (replyFits _ _ (by decide +kernel)) (by decide +kernel) |>.2 (by decide +kernel)
  have f := ((h (walking (.running .ending none) .idle { unanswered .retEnd 8 with walk := .ret }) 2 6 { unanswered .retEnd 8 with walk := .ret } (by decide +kernel) (by decide +kernel) (by decide +kernel) (by decide +kernel) (eachHasItsNote _ (by decide +kernel))).2 [note answer] [{ note .retEnd with walk := .ret }] (by decide +kernel) (by decide +kernel) (by decide +kernel)).2.2.1 .ending none (by decide +kernel) (by decide +kernel) (by decide +kernel)
  exact ⟨⟨_, a⟩, ⟨_, b⟩, ⟨_, c⟩, ⟨_, d⟩, ⟨_, e⟩, ⟨_, e1⟩, ⟨_, f⟩, ⟨_, g⟩, ⟨_, i⟩⟩

theorem quiet (s : State) (h1 : s.stn.cust.state = .live ∧ s.stn.view s.stn.ward = .live ∧ s.stn.subs.ret = .idle ∧ s.stn.cust.retryDelay = none)
    (h2 : s.stn.subs.mirror = .idle) (h3 : s.stn.intake.waiting = []) : QuietRound s.stn :=
  ⟨h1.1, h1.2.1, h1.2.2.1, h1.2.2.2, fun n e => (by rw [h2] at e; cases e), h3⟩
def counting : List PendEntry := [{ entry 6 .awaiting with rounds := 22, wait := 10 }, { entry 7 .deferred with rounds := 3, wait := 2 }, { entry 8 (.holding (str "O")) with rounds := 23 }, entry 9 .localHere]
theorem counts : ∀ e ∈ counting, (∃ text, e.state = .holding text) ∨ (e.rounds < 23 ∧ (e.state = .awaiting → e.wait < 11) ∧ (e.state = .deferred → e.wait < 3)) := by
  intro e he; fin_cases he
  · exact .inr (by decide)
  · exact .inr (by decide)
  · exact .inl ⟨_, rfl⟩
  · exact .inr (by decide)
theorem roundEnds (s : State) (r : RoundPos) (h : s.stn.ctl.phase = .closed ∧ s.stn.bus.round = some r ∧ r.left = [] ∧
    s.stn.cust.declaration ≠ .declaring) : AtRoundEnd s.stn r := ⟨⟨h.1, h.2.1⟩, h.2.2⟩
def claimed : Message := { message 4 .claimed (some ⟨1, 1, 2, 0⟩) with target := some 102 }
def closing (l : List Claim) (peer : List Claim) (frame : FrameNo) : State :=
  atEnd (on (storing record [claimed]) fun x => { x with air := { x.air with claims := l, peerClaims := x.air.peerClaims.set 2 peer, frame := frame } }) 2
def five : List Claim := (List.range 6).map fun i => { claim 5 i none with urgent := true }

theorem witness_RoundEndAdvancesTheRound_rounds (h : Obligations.RoundEndAdvancesTheRound) :
    Answers (exec .roundEnd (atEnd (pending live counting) 1)) ∧
    Answers (exec .roundEnd (atEnd (pending live counting) 3)) ∧
    Answers (exec .roundEnd (on (atEnd (pending live counting) 3) fun x => { ctl := x.ctl, intake := x.intake, req := x.req, subs := x.subs, store := x.store, air := { frame := 101, begun := x.air.begun, claims := x.air.claims, peerClaims := x.air.peerClaims, maps := x.air.maps, buffer := x.air.buffer, abstain := x.air.abstain, feed := x.air.feed, claimsLost := x.air.claimsLost, forfeits := x.air.forfeits, framesAbstained := x.air.framesAbstained : Airtime }, ret := x.ret, meter := x.meter, bill := x.bill, bus := { mark := x.bus.mark, round := x.bus.round, noted := true, outbox := x.bus.outbox, counters := x.bus.counters, memory := x.bus.memory, takes := x.bus.takes, lastSender := x.bus.lastSender, frameOut := x.bus.frameOut, damaged := x.bus.damaged, foreign := x.bus.foreign, resent := x.bus.resent, failed := x.bus.failed, lateAnswers := x.bus.lateAnswers : Bus }, cust := x.cust : Stn })) := by
  have a := (h.1 (atEnd (pending live counting) 1) ⟨100, 1, []⟩ (roundEnds _ _ (by decide +kernel)) (quiet _ (by decide +kernel) (by decide +kernel) (by decide +kernel)) (by decide +kernel) (by exact counts)).1 2 (by decide +kernel) (by decide +kernel)
  have b := (h.1 (atEnd (pending live counting) 3) ⟨100, 3, []⟩ (roundEnds _ _ (by decide +kernel)) (quiet _ (by decide +kernel) (by decide +kernel) (by decide +kernel)) (by decide +kernel) (by exact counts)).2.1 (by decide +kernel) (notJoining _ (by decide +kernel)) (by decide +kernel)
  have c := (h.1 (on (atEnd (pending live counting) 3) fun x => { x with bus.noted := true, air.frame := 101 }) ⟨100, 3, []⟩ (roundEnds _ _ (by decide +kernel)) (quiet _ (by decide +kernel) (by decide +kernel) (by decide +kernel)) (by decide +kernel) (by exact counts)).2.2 (by decide +kernel) (notJoining _ (by decide +kernel)) (by decide +kernel)
  exact ⟨⟨_, a⟩, ⟨_, b⟩, ⟨_, c⟩⟩

theorem witness_RoundEndAdvancesTheRound_close (h : Obligations.RoundEndAdvancesTheRound) :
    Answers (exec .roundEnd (closing [] five 100)) ∧
    Answers (exec .roundEnd (closing [] five 102)) ∧
    Answers (exec .roundEnd (closing [claim 1 0 (some 4)] five 100)) ∧
    Answers (exec .roundEnd (closing [claim 3 0 (some 4)] five 100)) ∧
    Answers (exec .roundEnd (closing [claim 3 0 (some 4)] five 102)) := by
  have za := ((h.2 (closing [] five 100) ⟨100, 2, []⟩ (roundEnds _ _ (by decide +kernel)) (quiet _ (by decide +kernel) (by decide +kernel) (by decide +kernel)) (by decide +kernel) (by decide +kernel)).1 (by decide +kernel)).1 (by exact ⟨by decide +kernel, by decide +kernel, by decide +kernel⟩)
  have zb := ((h.2 (closing [] five 102) ⟨100, 2, []⟩ (roundEnds _ _ (by decide +kernel)) (quiet _ (by decide +kernel) (by decide +kernel) (by decide +kernel)) (by decide +kernel) (by decide +kernel)).1 (by decide +kernel)).2 (by exact fun u => absurd u.2.1 (by decide +kernel))
  have zc := ((h.2 (closing [claim 1 0 (some 4)] five 100) ⟨100, 2, []⟩ (roundEnds _ _ (by decide +kernel)) (quiet _ (by decide +kernel) (by decide +kernel) (by decide +kernel)) (by decide +kernel) (by decide +kernel)).2 (claim 1 0 (some 4)) claimed (owner record [claimed]) 8 ⟨1, 1, 2, 0⟩ (by decide +kernel) (by decide +kernel) (by decide +kernel) (by decide +kernel) (by decide +kernel) (by decide +kernel)).1 30 (by exact ⟨by decide +kernel, by decide +kernel, by decide +kernel⟩) (by decide +kernel) (by decide +kernel)
  have zd := ((h.2 (closing [claim 3 0 (some 4)] five 100) ⟨100, 2, []⟩ (roundEnds _ _ (by decide +kernel)) (quiet _ (by decide +kernel) (by decide +kernel) (by decide +kernel)) (by decide +kernel) (by decide +kernel)).2 (claim 3 0 (some 4)) claimed (owner record [claimed]) 8 ⟨1, 1, 2, 0⟩ (by decide +kernel) (by decide +kernel) (by decide +kernel) (by decide +kernel) (by decide +kernel) (by decide +kernel)).2.1 (by exact ⟨by decide +kernel, by decide +kernel, by decide +kernel⟩) (by decide +kernel)
  have ze := ((h.2 (closing [claim 3 0 (some 4)] five 102) ⟨100, 2, []⟩ (roundEnds _ _ (by decide +kernel)) (quiet _ (by decide +kernel) (by decide +kernel) (by decide +kernel)) (by decide +kernel) (by decide +kernel)).2 (claim 3 0 (some 4)) claimed (owner record [claimed]) 8 ⟨1, 1, 2, 0⟩ (by decide +kernel) (by decide +kernel) (by decide +kernel) (by decide +kernel) (by decide +kernel) (by decide +kernel)).2.2 (by exact fun u => absurd u.2.1 (by decide +kernel))
  exact ⟨⟨_, za⟩, ⟨_, zb⟩, ⟨_, zc⟩, ⟨_, zd⟩, ⟨_, ze⟩⟩

def reclaiming (taken : Bool) (buddy : View) : State := on (viewing live buddy .live) fun x => { x with cust := { x.cust with state := .reclaiming, returnTaken := taken, buddyWait := 7 } }
def delayed (ward : View) (grant : Grant) (l : List Record) : State := on (viewing live .live ward) fun x => { x with
  cust := { x.cust with retryDelay := some 1, custody := 0x0008 }, subs := { x.subs with grant := grant, active := l } }
def restarting (v : View) : State := on (viewing live v .live) fun x => { x with subs.mirror := .restartWait 1 }
/-- Station 1 is RECLAIMING without a custodian. -/
def orphaned : State := on (reclaiming false .joining) fun x =>
  { x with cust.map := [{ member 1 .live with custodian := none }, member 2 .joining, member 3 .live] }
/-- Peers 2 and 3 are FAILED, each the other's or this station's, and 2 has a custodian. -/
def ruined : State := on (reclaiming false .failed) fun x => { x with cust.map :=
  [member 1 .live, { member 2 .failed with custodian := some 3 }, { member 3 .failed with custodian := some 1 }] }
theorem noDouble (s : State) (h : ∀ k ∈ s.stn.roster, k ≠ s.stn.self → (s.stn.view k).down = true →
    s.stn.view (buddyOf s.stn.img.roster k) = .failed → s.stn.view k = .failed ∧ s.stn.custodian k = none) :
    NoDoubleFailure s.stn := h
theorem noRequests (s : State) (h : s.stn.bus.outbox = [] ∧ s.stn.req.pend = [] ∧ s.stn.cust.join = .before) :
    NoRequests s.stn := ⟨h.1, h.2.1, notJoining s h.2.2⟩

theorem witness_WaitsKeptInRoundsRunOut (h : Obligations.WaitsKeptInRoundsRunOut) :
    Answers (exec .buddyWaitEnd (reclaiming false .joining)) ∧
    Answers (exec .buddyWaitEnd (reclaiming true .silent)) ∧
    Answers (exec .buddyWaitEnd (reclaiming true .joining)) ∧
    Answers (exec .returnRetryDelayEnd (delayed .foreign .nobody [])) ∧
    Answers (exec .returnRetryDelayEnd (delayed .live .drain [])) ∧
    Answers (exec .returnRetryDelayEnd (delayed .live .nobody [record])) ∧
    Answers (exec .returnRetryDelayEnd (delayed .joining .nobody [record, adopted])) ∧
    Answers (exec .mirrorRestartWaitEnd (restarting .live)) ∧
    Answers (exec .mirrorRestartWaitEnd (restarting .failed)) ∧
    Answers (exec .buddyWaitEnd orphaned) ∧
    Answers (exec .buddyWaitEnd ruined) := by
  have a := ((h.1 (reclaiming false .joining) (by decide +kernel)).1 (by decide +kernel) (by decide +kernel) (by decide +kernel)).1 (by exact .inl rfl) (by decide +kernel) (by decide +kernel) |>.1 (noDouble _ (by decide +kernel))
  have a' := ((h.1 (reclaiming true .silent) (by decide +kernel)).1 (by decide +kernel) (by decide +kernel) (by decide +kernel)).1 (by exact .inr (by decide +kernel)) (by decide +kernel) (by decide +kernel) |>.1 (noDouble _ (by decide +kernel))
  have b := ((h.1 (reclaiming true .joining) (by decide +kernel)).1 (by decide +kernel) (by decide +kernel) (by decide +kernel)).2.2 (by decide +kernel) (by decide +kernel)
  have c := ((h.1 (delayed .foreign .nobody []) (by decide +kernel)).2.1 (by decide +kernel) (by decide +kernel)).1 (by decide +kernel)
  have d := (((h.1 (delayed .live .drain []) (by decide +kernel)).2.1 (by decide +kernel) (by decide +kernel)).2 (by decide +kernel) (by decide +kernel)).1 (by decide +kernel)
  have e := (((h.1 (delayed .live .nobody [record]) (by decide +kernel)).2.1 (by decide +kernel) (by decide +kernel)).2 (by decide +kernel) (by decide +kernel)).2.1 (by decide +kernel) (by decide +kernel)
  have f := (((h.1 (delayed .joining .nobody [record, adopted]) (by decide +kernel)).2.1 (by decide +kernel) (by decide +kernel)).2 (by decide +kernel) (by decide +kernel)).2.2 (by decide +kernel) (by exact ⟨adopted, by decide +kernel, by decide +kernel⟩)
  have g := ((h.1 (restarting .live) (by decide +kernel)).2.2 (by decide +kernel)).1 (by decide +kernel)
  have i := ((h.1 (restarting .failed) (by decide +kernel)).2.2 (by decide +kernel)).2 (by decide +kernel)
  have j := ((h.1 orphaned (by decide +kernel)).1 (by decide +kernel) (by decide +kernel) (by decide +kernel)).2.1 (by decide +kernel) (by decide +kernel) (noRequests _ (by decide +kernel)) (by exact ⟨{ member 1 .live with custodian := none }, by decide +kernel, by decide +kernel⟩) (by decide +kernel) (noDouble _ (by decide +kernel))
  have k := ((h.1 ruined (by decide +kernel)).1 (by decide +kernel) (by decide +kernel) (by decide +kernel)).1 (by exact .inl rfl) (by decide +kernel) (by decide +kernel) |>.2 2 (by decide +kernel) (by decide +kernel) (noRequests _ (by decide +kernel)) (by decide +kernel) (by decide +kernel) (by decide +kernel) (by decide +kernel)
  exact ⟨⟨_, a⟩, ⟨_, a'⟩, ⟨_, b⟩, ⟨_, c⟩, ⟨_, d⟩, ⟨_, e⟩, ⟨_, f⟩, ⟨_, g⟩, ⟨_, i⟩, ⟨_, j⟩, ⟨_, k⟩⟩

theorem into (s : State) (r : RoundPos) (k : Fin 4) (h : AtRoundEnd s.stn r) (h1 : s.stn.intake.waiting = [])
    (h2 : r.index.val < 2) (h3 : k.val = r.index.val + 1) :
    EndsInto s.stn r (some { r with index := k, left := s.stn.roster }) := ⟨h, h1, .inl ⟨k, h2, h3, rfl⟩⟩
theorem intoNone (s : State) (r : RoundPos) (h : AtRoundEnd s.stn r) (h1 : s.stn.intake.waiting = [])
    (h2 : r.index = 3) (h3 : s.stn.bus.noted = false) (h4 : s.stn.cust.join = .before) :
    EndsInto s.stn r none := ⟨h, h1, .inr ⟨h2, h3, notJoining s h4, rfl⟩⟩
theorem noCheck (s : State) (h1 : s.stn.cust.state = .live) (h2 : s.stn.view s.stn.ward ≠ .silent) :
    NoCheckDue s.stn := ⟨(fun e => nomatch (h1.symm.trans e)), fun _ e => absurd e h2⟩
theorem noRestart (s : State) (h : s.stn.subs.mirror = .idle) : ∀ k, s.stn.subs.mirror ≠ .restartWait k :=
  fun k e => (by rw [h] at e; cases e)
theorem noText (st : PendState) (h : st = .awaiting ∨ st = .deferred ∨ st = .sending ∨ st = .localHere) :
    ∀ text, st ≠ .holding text := by
  rintro text rfl; simp at h
theorem below : ∀ o ∈ [entry 6 .deferred] ++ [entry 8 .sending], o.staysBelow := by
  intro o ho; fin_cases ho
  · exact .inr (by decide)
  · exact .inr (by decide)
def waitedFor (n : Nat) (buddy : View) : State := on (reclaiming false buddy) fun x => { x with cust.buddyWait := n }
def delayedBy (n : Nat) : State := on (delayed .joining .nobody [record, adopted]) fun x => { x with cust.retryDelay := some n }
def restartingIn (n : Nat) : State := on (restarting .live) fun x => { x with subs.mirror := .restartWait n }
/-- Entry 7 between two that stay below their limits. -/
def between (e : PendEntry) : State := pending live ([entry 6 .deferred] ++ e :: [entry 8 .sending])
/-- The state that a command answers. -/
def following (i : Instr) (s : State) : State :=
  match exec i s with
  | .next t => t
  | _ => s
theorem followed (s w : State) (h : w = s) : exec (.deferralEnd 7) s = .next (following (.deferralEnd 7) w) := by
  subst h; rfl
/-- Entry 7 between the two after their count. -/
def counted (e : PendEntry) (next : Option RoundPos) : State :=
  on (pending live ([{ entry 6 .deferred with rounds := 1, wait := 1 }] ++ e :: [{ entry 8 .sending with rounds := 1, wait := 1 }])) fun x =>
    { x with bus.round := next }

theorem witness_WaitsKeptInRoundsRunOut_counted (h : Obligations.WaitsKeptInRoundsRunOut) :
    Answers (exec .roundEnd (atEnd (waitedFor 7 .live) 0)) ∧
    Answers (exec .roundEnd (atEnd (waitedFor 6 .joining) 1)) ∧
    Answers (exec .roundEnd (atEnd (delayedBy 16) 0)) ∧
    Answers (exec .roundEnd (atEnd (restartingIn 2) 3)) ∧
    Answers (exec .roundEnd (atEnd (between { entry 7 .deferred with wait := 3, rounds := 22 }) 1)) := by
  have za := ((h.2 (atEnd (waitedFor 7 .live) 0) ⟨100, 0, []⟩ _ (into _ _ 1 (roundEnds _ _ (by decide +kernel)) (by decide +kernel) (by decide +kernel) (by decide +kernel)) (by decide +kernel)).1 (by decide +kernel) (by decide +kernel) (by decide +kernel) (by decide +kernel)).1 (by decide +kernel)
  have zb := ((h.2 (atEnd (waitedFor 6 .joining) 1) ⟨100, 1, []⟩ _ (into _ _ 2 (roundEnds _ _ (by decide +kernel)) (by decide +kernel) (by decide +kernel) (by decide +kernel)) (by decide +kernel)).1 (by decide +kernel) (by decide +kernel) (by decide +kernel) (by decide +kernel)).2.1 (by decide +kernel) (by decide +kernel)
  have zc := ((h.2 (atEnd (waitedFor 7 .silent) 3) ⟨100, 3, []⟩ _ (intoNone _ _ (roundEnds _ _ (by decide +kernel)) (by decide +kernel) (by decide +kernel) (by decide +kernel) (by decide +kernel)) (by decide +kernel)).1 (by decide +kernel) (by decide +kernel) (by decide +kernel) (by decide +kernel)).2.2 (by decide +kernel) (by decide +kernel) (by decide +kernel)
  have zd := (((h.2 (atEnd (delayedBy 16) 0) ⟨100, 0, []⟩ _ (into _ _ 1 (roundEnds _ _ (by decide +kernel)) (by decide +kernel) (by decide +kernel) (by decide +kernel)) (by decide +kernel)).2 (noCheck _ (by decide +kernel) (by decide +kernel))).1 16 (by decide +kernel) (noRestart _ (by decide +kernel)) (by decide +kernel)).1 (by decide +kernel)
  have ze := (((h.2 (atEnd (delayedBy 1) 1) ⟨100, 1, []⟩ _ (into _ _ 2 (roundEnds _ _ (by decide +kernel)) (by decide +kernel) (by decide +kernel) (by decide +kernel)) (by decide +kernel)).2 (noCheck _ (by decide +kernel) (by decide +kernel))).1 1 (by decide +kernel) (noRestart _ (by decide +kernel)) (by decide +kernel)).2 (by decide +kernel)
  have zf := (((h.2 (atEnd (restartingIn 2) 3) ⟨100, 3, []⟩ _ (intoNone _ _ (roundEnds _ _ (by decide +kernel)) (by decide +kernel) (by decide +kernel) (by decide +kernel) (by decide +kernel)) (by decide +kernel)).2 (noCheck _ (by decide +kernel) (by decide +kernel))).2.1 2 (by decide +kernel) (by decide +kernel) (by decide +kernel)).1 (by decide +kernel)
  have zg := (((h.2 (atEnd (restartingIn 1) 1) ⟨100, 1, []⟩ _ (into _ _ 2 (roundEnds _ _ (by decide +kernel)) (by decide +kernel) (by decide +kernel) (by decide +kernel)) (by decide +kernel)).2 (noCheck _ (by decide +kernel) (by decide +kernel))).2.1 1 (by decide +kernel) (by decide +kernel) (by decide +kernel)).2 (by decide +kernel)
  have zi := (((h.2 (atEnd (between { entry 7 .localHere with rounds := 23 }) 1) ⟨100, 1, []⟩ _ (into _ _ 2 (roundEnds _ _ (by decide +kernel)) (by decide +kernel) (by decide +kernel) (by decide +kernel)) (by decide +kernel)).2 (noCheck _ (by decide +kernel) (by decide +kernel))).2.2 [entry 6 .deferred] [entry 8 .sending] { entry 7 .localHere with rounds := 23 } (by decide +kernel) (noRestart _ (by decide +kernel)) (by decide +kernel) (by decide +kernel) (by exact below)).1 (by decide +kernel) (noText _ (by decide +kernel))
  have zj := (((h.2 (atEnd (between { entry 7 .awaiting with wait := 11 }) 1) ⟨100, 1, []⟩ _ (into _ _ 2 (roundEnds _ _ (by decide +kernel)) (by decide +kernel) (by decide +kernel) (by decide +kernel)) (by decide +kernel)).2 (noCheck _ (by decide +kernel) (by decide +kernel))).2.2 [entry 6 .deferred] [entry 8 .sending] { entry 7 .awaiting with wait := 11 } (by decide +kernel) (noRestart _ (by decide +kernel)) (by decide +kernel) (by decide +kernel) (by exact below)).2.1 (by decide +kernel) (by decide +kernel) (by decide +kernel)
  have zk := (((h.2 (atEnd (between { entry 7 .deferred with wait := 3, rounds := 22 }) 1) ⟨100, 1, []⟩ _ (into _ _ 2 (roundEnds _ _ (by decide +kernel)) (by decide +kernel) (by decide +kernel) (by decide +kernel)) (by decide +kernel)).2 (noCheck _ (by decide +kernel) (by decide +kernel))).2.2 [entry 6 .deferred] [entry 8 .sending] { entry 7 .deferred with wait := 3, rounds := 22 } (by decide +kernel) (noRestart _ (by decide +kernel)) (by decide +kernel) (by decide +kernel) (by exact below)).2.2 (by decide +kernel) (by decide +kernel) (by decide +kernel) (following (.deferralEnd 7) (counted { entry 7 .deferred with wait := 3, rounds := 22 } (some ⟨100, 2, [1, 2, 3]⟩))) (by exact followed _ _ (by decide +kernel)) (by decide +kernel) (noRestart _ (by decide +kernel))
  exact ⟨⟨_, za⟩, ⟨_, zb⟩, ⟨_, zd⟩, ⟨_, zf⟩, ⟨_, zk⟩⟩

def leaving (sub : Nat) (q : List Serial) : Record := { adopted with admin := { adopted.admin with sub := sub }, returning := true, queue := q }
def walks (n : Nat) (r : ReturnWalk) (m : MirrorWalk) (l : List Record) : State :=
  outboxOf n (on live fun x => { x with subs := { x.subs with ret := r, mirror := m, active := l, standby := [copy .plain] } })
theorem noVisitWaits (s : State) (h : s.stn.subs.ret = .idle) : NoVisitWaits s.stn := fun pos => ⟨fun e => (by rw [h] at e; cases e), fun e => (by rw [h] at e; cases e)⟩

theorem witness_WalksHandOneNoteAVisit (h : Obligations.WalksHandOneNoteAVisit) :
    Answers (exec .returnWalkVisit (walks 32 (.running .adopted none) .idle [])) ∧
    Answers (exec .returnWalkVisit (walks 31 (.running .adopted none) .idle [leaving 3000001 [], leaving 3000002 []])) ∧
    Answers (exec .returnWalkVisit (walks 31 (.running .adopted (some 3000001)) .idle [leaving 3000001 [], leaving 3000002 [4]])) ∧
    Answers (exec .returnWalkVisit (walks 31 (.running .adopted (some 3000001)) .idle [leaving 3000001 []])) ∧
    Answers (exec .returnWalkVisit (walks 31 (.running .adopted (some 3000001)) .idle [record])) ∧
    Answers (exec .returnWalkStandbyVisit (walks 32 (.running .standby none) .idle [])) ∧
    Answers (exec .returnWalkStandbyVisit (walks 31 (.running .standby none) .idle [])) ∧
    Answers (exec .returnWalkStandbyVisit (walks 31 (.running .standby (some 3000001)) .idle [])) ∧
    Answers (exec .mirrorWalkStep (walks 32 .idle (.running none true false) [])) ∧
    Answers (exec .mirrorWalkStep (walks 31 .idle (.running none true false) [record])) ∧
    Answers (exec .mirrorWalkStep (walks 31 .idle (.running (some 1000001) false false) [record, adopted])) := by
  have a := ((h (walks 32 (.running .adopted none) .idle [])).1 none (by decide +kernel)).1 (by decide +kernel)
  have b := (((h (walks 31 (.running .adopted none) .idle [leaving 3000001 [], leaving 3000002 []])).1 none (by decide +kernel)).2 (by decide +kernel) (noEntryWaits _ (by decide +kernel))).1 (leaving 3000001 []) (by decide +kernel) (by decide +kernel) |>.1 (by decide +kernel)
  have c := (((h (walks 31 (.running .adopted (some 3000001)) .idle [leaving 3000001 [], leaving 3000002 [4]])).1 (some 3000001) (by decide +kernel)).2 (by decide +kernel) (noEntryWaits _ (by decide +kernel))).1 (leaving 3000002 [4]) (by decide +kernel) (by decide +kernel) |>.2 (by decide +kernel)
  have d := ((((h (walks 31 (.running .adopted (some 3000001)) .idle [leaving 3000001 []])).1 (some 3000001) (by decide +kernel)).2 (by decide +kernel) (noEntryWaits _ (by decide +kernel))).2 (by decide +kernel)).1 (by exact ⟨leaving 3000001 [], by decide +kernel, rfl⟩)
  have e := ((((h (walks 31 (.running .adopted (some 3000001)) .idle [record])).1 (some 3000001) (by decide +kernel)).2 (by decide +kernel) (noEntryWaits _ (by decide +kernel))).2 (by decide +kernel)).2 (by decide +kernel)
  have f := ((h (walks 32 (.running .standby none) .idle [])).2.1 none (by decide +kernel)).1 (by decide +kernel)
  have g := ((((h (walks 31 (.running .standby none) .idle [])).2.1 none (by decide +kernel)).2 (by decide +kernel) (noEntryWaits _ (by decide +kernel)) (by decide +kernel)).1 (copy .plain) (by decide +kernel))
  have i := ((((h (walks 31 (.running .standby (some 3000001)) .idle [])).2.1 (some 3000001) (by decide +kernel)).2 (by decide +kernel) (noEntryWaits _ (by decide +kernel)) (by decide +kernel)).2 (by decide +kernel))
  have j := ((h (walks 32 .idle (.running none true false) [])).2.2 none true (by decide +kernel)).1 (by decide +kernel)
  have k := ((((h (walks 31 .idle (.running none true false) [record])).2.2 none true (by decide +kernel)).2 (by decide +kernel) (noEntryWaits _ (by decide +kernel)) (noVisitWaits _ (by decide +kernel)) (by decide +kernel)).1 record (by decide +kernel))
  have l := ((((h (walks 31 .idle (.running (some 1000001) false false) [record, adopted])).2.2 (some 1000001) false (by decide +kernel)).2 (by decide +kernel) (noEntryWaits _ (by decide +kernel)) (noVisitWaits _ (by decide +kernel)) (by decide +kernel)).2 (by decide +kernel))
  exact ⟨⟨_, a⟩, ⟨_, b⟩, ⟨_, c⟩, ⟨_, d⟩, ⟨_, e⟩, ⟨_, f⟩, ⟨_, g⟩, ⟨_, i⟩, ⟨_, j⟩, ⟨_, k⟩, ⟨_, l⟩⟩

def declaring (active : List Record) (standby : List StandbyRec) : State := on (viewing live .live .silent) fun x => { x with
  cust.declaration := .declaring, subs.active := active, subs.standby := standby, req.cache := [(3000001, 3)] }
def copies : List StandbyRec := [copy .plain, { copy .returned with admin := { admin with sub := 3000002, addr := 89 } }]

theorem witness_AdoptionTakesTheWardsRecords (h : Obligations.AdoptionTakesTheWardsRecords) :
    Answers (exec .adoption (declaring [] copies)) ∧
    Answers (exec .adoption (declaring [{ admin := { sub := admin.sub, addr := 88, pagerClass := admin.pagerClass, tariff := admin.tariff, plan := admin.plan, zones := admin.zones, service := admin.service, quota := admin.quota, threshold := admin.threshold : Admin }, origin := record.origin, home := record.home, returning := record.returning, nextTag := record.nextTag, queue := record.queue, lastZone := record.lastZone, meter := record.meter : Record }] [copy .plain])) ∧
    Answers (exec .adoption (declaring [record] [copy .plain])) := by
  have a := (h (declaring [] copies) (by decide +kernel) (by decide +kernel) (by decide +kernel) (by decide +kernel) (by decide +kernel) (by decide +kernel) (by exact ⟨member 3 .silent, by decide +kernel, rfl⟩) (by decide +kernel) (by decide +kernel) (by decide +kernel) (by decide +kernel)).1 (by decide +kernel) (by decide +kernel) (by decide +kernel)
  have b := ((h (declaring [{ record with admin := { admin with addr := 88 } }] [copy .plain]) (by decide +kernel) (by decide +kernel) (by decide +kernel) (by decide +kernel) (by decide +kernel) (by decide +kernel) (by exact ⟨member 3 .silent, by decide +kernel, rfl⟩) (by decide +kernel) (by decide +kernel) (by decide +kernel) (by decide +kernel)).2 (copy .plain) (by decide +kernel)).1 (by decide +kernel)
  have c := ((h (declaring [record] [copy .plain]) (by decide +kernel) (by decide +kernel) (by decide +kernel) (by decide +kernel) (by decide +kernel) (by decide +kernel) (by exact ⟨member 3 .silent, by decide +kernel, rfl⟩) (by decide +kernel) (by decide +kernel) (by decide +kernel) (by decide +kernel)).2 (copy .plain) (by decide +kernel)).2 (by decide +kernel)
  exact ⟨⟨_, a⟩, ⟨_, b⟩, ⟨_, c⟩⟩

def heardOf (k : Station) (l j : Bool) : JoinHeard := { station := k, sawLive := l, sawJoining := j, frame := 500, period := 7 }
def joined (taken : Bool) (self : Station) (l : List JoinHeard) : State := on (viewing live .reclaiming .live) fun x => { x with
  ctl.station := self, ret.recent := [⟨.ready 77, 90⟩],
  cust := { x.cust with state := .joining, join := .complete 100, returnEndTaken := taken, heard := l, map := [member 1 .live, member 2 .reclaiming, member 3 .reclaiming] } }
/-- The JOINING rounds end; the mark of the frame being claimed is set. -/
def lastRound : State := on (atEnd (joining (viewing live .live .live)) 3) fun x => { x with cust.join := .running 100 }
def marked (s : State) : State := on (inRound s 0 [1, 2, 3]) fun x => { x with air.abstain := [101, 102] }

theorem witness_JoiningEndCopiesTheNumbering (h : Obligations.JoiningEndCopiesTheNumbering) :
    Answers (exec .joiningEnd (joined false 1 [heardOf 2 false true])) ∧
    Answers (exec .joiningEnd (joined true 1 [heardOf 2 false true])) ∧
    Answers (exec .joiningEnd (joined false 1 [heardOf 3 true false, heardOf 2 true true])) ∧
    Answers (exec .joiningEnd (joined true 2 [heardOf 1 false true, heardOf 3 false true])) ∧
    Answers (exec .roundEnd lastRound) ∧
    Answers (exec .joiningEnd (marked (joined false 1 [heardOf 2 true false]))) := by
  have a := ((h.2 (joined false 1 [heardOf 2 false true]) 100 (by decide +kernel) (by decide +kernel) (by decide +kernel) (by decide +kernel) (noDouble _ (by decide +kernel))).1 (by decide +kernel)).1 (by decide +kernel)
  have b := ((h.2 (joined true 1 [heardOf 2 false true]) 100 (by decide +kernel) (by decide +kernel) (by decide +kernel) (by decide +kernel) (noDouble _ (by decide +kernel))).1 (by decide +kernel)).2 (by decide +kernel) (by decide +kernel) (by decide +kernel) (by decide +kernel)
  have c := ((h.2 (joined false 1 [heardOf 3 true false, heardOf 2 true true]) 100 (by decide +kernel) (by decide +kernel) (by decide +kernel) (by decide +kernel) (noDouble _ (by decide +kernel))).2 (heardOf 2 true true) (by decide +kernel) (by decide +kernel) (by decide +kernel) (by exact .inl (by decide +kernel))).1 (by decide +kernel)
  have d := ((h.2 (joined true 2 [heardOf 1 false true, heardOf 3 false true]) 100 (by decide +kernel) (by decide +kernel) (by decide +kernel) (by decide +kernel) (noDouble _ (by decide +kernel))).2 (heardOf 1 false true) (by decide +kernel) (by decide +kernel) (by decide +kernel) (by exact .inr (by decide +kernel))).2 (by decide +kernel) (by decide +kernel) (by decide +kernel) (by decide +kernel)
  have e := h.1 lastRound ⟨100, 3, []⟩ 100 (roundEnds _ _ (by decide +kernel)) (by decide +kernel) (by decide +kernel) (by decide +kernel) (by decide +kernel) (by decide +kernel) (by decide +kernel) (by decide +kernel) (by decide +kernel) (by exact nofun)
  have f := ((h.2 (marked (joined false 1 [heardOf 2 true false])) 100 (by decide +kernel) (by decide +kernel) (by decide +kernel) (by decide +kernel) (noDouble _ (by decide +kernel))).2 (heardOf 2 true false) (by decide +kernel) (by decide +kernel) (by decide +kernel) (by exact .inl (by decide +kernel))).1 (by decide +kernel)
  exact ⟨⟨_, a⟩, ⟨_, b⟩, ⟨_, c⟩, ⟨_, d⟩, ⟨_, e⟩, ⟨_, f⟩⟩

def part (n : Nat) : List FormEntry := List.replicate n ⟨1000000, 7, false, false⟩
def draining (r : Record) (n : Nat) (pause : Pause) (pos : Option Nat) : State := on (holding live [r]) fun x => { x with
  subs := { x.subs with grant := .drain, drain := .running pos },
  bill := { x.bill with forming := part n, pause := pause, period := 3, queue := List.replicate 4 ⟨1, 0, 0, 0, []⟩ } }
def metered (current closed : Nat) (period : Period) : Record := { record with meter := ⟨current, closed, 0, 0, period, false, true, true⟩ }
/-- A return walk waits for the grant. -/
def waited (s : State) : State := on s fun x => { x with subs.ret := .waiting }
/-- A draining station whose queue has a place, and which counts the blocks of an older period. -/
def afresh (s : State) : State := on s fun x => { x with bill := { x.bill with queue := [⟨1, 0, 0, 0, []⟩], counted := some 1, counter := 7 } }
/-- A draining station whose queue has a place. -/
def roomy (s : State) : State := on s fun x => { x with bill := { x.bill with queue := [⟨1, 0, 0, 0, []⟩], counted := some 2, counter := 7 } }
theorem formsPlainly (s : State) (es : List FormEntry)
    (h : (∀ e ∈ es, e.total ≤ 65535) ∧ (∀ x ∈ s.stn.subs.active, x.meter.carry ≤ Config.carryLimit) ∧
      (s.stn.subs.active.map (·.admin.sub)).Nodup) :
    FormsPlainly s.stn es := h

theorem witness_DrainVisitsFormTheBlock_records (h : Obligations.DrainVisitsFormTheBlock) :
    Answers (exec .drainVisit (draining record 0 .full none)) ∧
    Answers (exec .drainVisit (draining (metered 20 0 3) 0 .none none)) ∧
    Answers (exec .drainVisit (draining (metered 20 5 3) 14 .none none)) ∧
    Answers (exec .drainVisit (draining (metered 20 5 3) 15 .none none)) ∧
    Answers (exec .drainVisit (draining (metered 20 (2 ^ 40 - 21) 2) 14 .none none)) ∧
    Answers (exec .drainVisit (roomy (draining (metered 20 5 3) 15 .none none))) ∧
    Answers (exec .drainVisit (afresh (draining (metered 20 5 3) 15 .none none))) := by
  have a := (h (draining record 0 .full none) none (by decide +kernel)).1 (by decide +kernel)
  have b := ((h (draining (metered 20 0 3) 0 .none none) none (by decide +kernel)).2.1 (metered 20 0 3) (by decide +kernel) (by decide +kernel) (alone _ (by decide +kernel))).1 (by decide +kernel) (by decide +kernel)
  have c := ((h (draining (metered 20 5 3) 14 .none none) none (by decide +kernel)).2.1 (metered 20 5 3) (by decide +kernel) (by decide +kernel) (alone _ (by decide +kernel))).2.1 (by decide +kernel) (by decide +kernel) (by decide +kernel)
  have d := ((h (draining (metered 20 5 3) 15 .none none) none (by decide +kernel)).2.1 (metered 20 5 3) (by decide +kernel) (by decide +kernel) (alone _ (by decide +kernel))).2.2.2.1 (by decide +kernel) (by decide +kernel) (by decide +kernel) (by decide +kernel)
  have e := ((h (draining (metered 20 (2 ^ 40 - 21) 2) 14 .none none) none (by decide +kernel)).2.1 (metered 20 (2 ^ 40 - 21) 2) (by decide +kernel) (by decide +kernel) (alone _ (by decide +kernel))).2.2.2.2 (by decide +kernel) (by decide +kernel) (by decide +kernel) (by decide +kernel) (by decide +kernel)
  have j := ((h (roomy (draining (metered 20 5 3) 15 .none none)) none (by decide +kernel)).2.1 (metered 20 5 3) (by decide +kernel) (by decide +kernel) (alone _ (by decide +kernel))).2.2.1 (by decide +kernel) (by decide +kernel) (by decide +kernel) (by decide +kernel) (formsPlainly _ _ (by decide +kernel))
  have j' := ((h (afresh (draining (metered 20 5 3) 15 .none none)) none (by decide +kernel)).2.1 (metered 20 5 3) (by decide +kernel) (by decide +kernel) (alone _ (by decide +kernel))).2.2.1 (by decide +kernel) (by decide +kernel) (by decide +kernel) (by decide +kernel) (formsPlainly _ _ (by decide +kernel))
  exact ⟨⟨_, a⟩, ⟨_, b⟩, ⟨_, c⟩, ⟨_, d⟩, ⟨_, e⟩, ⟨_, j⟩, ⟨_, j'⟩⟩

theorem witness_DrainVisitsFormTheBlock_ending (h : Obligations.DrainVisitsFormTheBlock) :
    Answers (exec .drainVisit (draining record 0 .none (some 1000001))) ∧
    Answers (exec .drainVisit (waited (draining adopted 0 .none (some 3000001)))) ∧
    Answers (exec .drainVisit (on (draining record 0 .none (some 1000001)) fun x => { ctl := x.ctl, intake := x.intake, req := x.req, subs := x.subs, store := x.store, air := x.air, ret := x.ret, meter := x.meter, bill := { period := x.bill.period, pendingClose := some 9, peers := x.bill.peers, forming := x.bill.forming, pause := x.bill.pause, counter := x.bill.counter, counted := x.bill.counted, queue := x.bill.queue, sending := x.bill.sending, blocksSent := x.bill.blocksSent, entriesLimited := x.bill.entriesLimited : Billing }, bus := x.bus, cust := x.cust : Stn })) ∧
    Answers (exec .drainVisit (draining record 1 .none (some 1000001))) ∧
    Answers (exec .drainVisit (roomy (draining record 1 .none (some 1000001)))) ∧
    Answers (exec .drainVisit (waited (afresh (draining adopted 1 .none (some 3000001))))) ∧
    Answers (exec .drainVisit (on (roomy (draining record 1 .none (some 1000001))) fun x => { ctl := x.ctl, intake := x.intake, req := x.req, subs := x.subs, store := x.store, air := x.air, ret := x.ret, meter := x.meter, bill := { period := x.bill.period, pendingClose := some 9, peers := x.bill.peers, forming := x.bill.forming, pause := x.bill.pause, counter := x.bill.counter, counted := x.bill.counted, queue := x.bill.queue, sending := x.bill.sending, blocksSent := x.bill.blocksSent, entriesLimited := x.bill.entriesLimited : Billing }, bus := x.bus, cust := x.cust : Stn })) := by
  have f := ((h (draining record 0 .none (some 1000001)) (some 1000001) (by decide +kernel)).2.2.1 (by decide +kernel) (by decide +kernel) (by decide +kernel)).2.1 (by decide +kernel) (by decide +kernel)
  have f' := ((h (waited (draining adopted 0 .none (some 3000001))) (some 3000001) (by decide +kernel)).2.2.1 (by decide +kernel) (by decide +kernel) (by decide +kernel)).1 (by decide +kernel)
  have g := ((h (on (draining record 0 .none (some 1000001)) fun x => { x with bill.pendingClose := some 9 }) (some 1000001) (by decide +kernel)).2.2.1 (by decide +kernel) (by decide +kernel) (by decide +kernel)).2.2 9 (by decide +kernel) (by decide +kernel)
  have i := (h (draining record 1 .none (some 1000001)) (some 1000001) (by decide +kernel)).2.2.2.2 (by decide +kernel) (by decide +kernel) (by decide +kernel) (by decide +kernel)
  have k := (h (roomy (draining record 1 .none (some 1000001))) (some 1000001) (by decide +kernel)).2.2.2.1 (by decide +kernel) (by decide +kernel) (by decide +kernel) (by decide +kernel) (formsPlainly _ _ (by decide +kernel))
  have l := (h (on (roomy (draining record 1 .none (some 1000001))) fun x => { x with bill.pendingClose := some 9 }) (some 1000001) (by decide +kernel)).2.2.2.1 (by decide +kernel) (by decide +kernel) (by decide +kernel) (by decide +kernel) (formsPlainly _ _ (by decide +kernel))
  have k' := (h (waited (afresh (draining adopted 1 .none (some 3000001)))) (some 3000001) (by decide +kernel)).2.2.2.1 (by decide +kernel) (by decide +kernel) (by decide +kernel) (by decide +kernel) (formsPlainly _ _ (by decide +kernel))
  exact ⟨⟨_, f⟩, ⟨_, f'⟩, ⟨_, g⟩, ⟨_, i⟩, ⟨_, k⟩, ⟨_, k'⟩, ⟨_, l⟩⟩

def sending (pause : Pause) : State := on (draining record 2 pause none) fun x => { x with
  bill := { x.bill with sending := some [0xC7], counted := some 2, counter := 65535 } }
def big (n : Nat) : List FormEntry := [⟨1000001, n, false, false⟩]
/-- The station sends a block; its walk waits to form this last block, and its record may be there. -/
def scaling (total carry : Nat) (l : List Record) : State := on (draining record 2 .last none) fun x => { x with
  subs := { x.subs with active := l ++ [{ record with admin := { admin with sub := 1900000 }, meter := { record.meter with carry := carry } }] },
  bill := { x.bill with sending := some [0xC7], counted := some 2, counter := 65535, forming := [⟨1000001, total, false, false⟩] } }
def carried (carry : Nat) : Record := { record with meter := { record.meter with carry := carry } }

theorem witness_BillingPortAndScale_port (h : Obligations.BillingPortAndScale) :
    Answers (exec (.billingBlockStart true) (billed 2 live)) ∧
    Answers (exec (.billingBlockStart false) (billed 2 live)) ∧
    Answers (exec (.billingBlockStart true) live) ∧
    Answers (exec (.billingBlockStart true) (sending .none)) ∧
    Answers (exec .billingBlockSent live) ∧
    Answers (exec .billingBlockSent (sending .none)) ∧
    Answers (exec .billingBlockSent (sending .full)) ∧
    Answers (exec .billingBlockSent (sending .last)) ∧
    Answers (exec .billingBlockSent (on (sending .full) fun x => { ctl := x.ctl, intake := x.intake, req := x.req, subs := { active := x.subs.active, standby := x.subs.standby, standbyComplete := x.subs.standbyComplete, grant := x.subs.grant, drain := .running (some 1000001), ret := x.subs.ret, mirror := x.subs.mirror : Subscribers }, store := x.store, air := x.air, ret := x.ret, meter := x.meter, bill := { period := x.bill.period, pendingClose := some 9, peers := x.bill.peers, forming := x.bill.forming, pause := x.bill.pause, counter := x.bill.counter, counted := x.bill.counted, queue := x.bill.queue, sending := x.bill.sending, blocksSent := x.bill.blocksSent, entriesLimited := x.bill.entriesLimited : Billing }, bus := x.bus, cust := x.cust : Stn })) ∧
    Answers (exec .billingBlockSent (waited (sending .last))) := by
  have a := ((h.1 (billed 2 live)).1 ⟨1, 0, 0, 0, []⟩ [⟨1, 0, 0, 0, []⟩] (by decide +kernel) (by decide +kernel))
  have a1 := a.1; have a2 := a.2
  have b := (h.1 live).2.1 (by exact .inr (by decide +kernel)) true
  have b' := (h.1 (sending .none)).2.1 (by exact .inl (by decide +kernel)) true
  have c := (h.1 live).2.2.1 (by decide +kernel)
  have d := ((h.1 (sending .none)).2.2.2 [0xC7] (by decide +kernel)).1 (by decide +kernel)
  have e := ((h.1 (sending .full)).2.2.2 [0xC7] (by decide +kernel)).2.1 none record (by decide +kernel) (by decide +kernel) (by decide +kernel) (formsPlainly _ _ (by decide +kernel))
  have i := ((h.1 (sending .last)).2.2.2 [0xC7] (by decide +kernel)).2.2.1 none (by decide +kernel) (by exact .inl (by decide +kernel)) (formsPlainly _ _ (by decide +kernel))
  have w := ((h.1 (waited (sending .last))).2.2.2 [0xC7] (by decide +kernel)).2.2.1 none (by decide +kernel) (by exact .inl (by decide +kernel)) (formsPlainly _ _ (by decide +kernel))
  have i' := ((h.1 (on (sending .full) fun x => { x with subs.drain := .running (some 1000001), bill.pendingClose := some 9 })).2.2.2 [0xC7] (by decide +kernel)).2.2.1 (some 1000001) (by decide +kernel) (by exact .inr (by decide +kernel)) (formsPlainly _ _ (by decide +kernel))
  exact ⟨⟨_, a1⟩, ⟨_, a2⟩, ⟨_, b⟩, ⟨_, b'⟩, ⟨_, c⟩, ⟨_, d⟩, ⟨_, e⟩, ⟨_, i⟩, ⟨_, i'⟩, ⟨_, w⟩⟩

theorem witness_BillingPortAndScale_scale (h : Obligations.BillingPortAndScale) :
    Answers (exec .billingBlockSent (scaling 65537 1 [])) ∧
    Answers (exec .billingBlockSent (scaling 65537 1 [carried 1])) ∧
    Answers (exec .billingBlockSent (scaling (2 ^ 48 - 1) 1 [carried 1])) ∧
    Answers (exec .billingBlockSent (scaling 65551 1 [carried Config.carryLimit])) ∧
    Answers (exec .billingBlockSent (waited (scaling 65537 1 [carried 1]))) ∧
    Answers (exec .billingBlockSent (on (scaling 65537 1 [carried 1]) fun x => { ctl := x.ctl, intake := x.intake, req := x.req, subs := x.subs, store := x.store, air := x.air, ret := x.ret, meter := x.meter, bill := { period := x.bill.period, pendingClose := some 9, peers := x.bill.peers, forming := x.bill.forming, pause := x.bill.pause, counter := x.bill.counter, counted := none, queue := x.bill.queue, sending := x.bill.sending, blocksSent := x.bill.blocksSent, entriesLimited := x.bill.entriesLimited : Billing }, bus := x.bus, cust := x.cust : Stn })) := by
  have f := (h.2 (big (65536 * 16 ^ 3))).2.1 2 (by decide +kernel)
  have g := (h.2 (big (65536 * 16 ^ 3))).2.2 ⟨1000001, 65536 * 16 ^ 3, false, false⟩ (by decide +kernel)
  have g' := (h.2 (big 65536)).2.2 ⟨1000001, 65536, false, false⟩ (by decide +kernel)
  have j := (((h.1 (scaling 65537 1 [])).2.2.2 [0xC7] (by decide +kernel)).2.2.2 ⟨1000001, 65537, false, false⟩ 1 (by decide +kernel) (by decide +kernel) (alone _ (by decide +kernel)) (by decide +kernel) (by decide +kernel) (by decide +kernel)).1 (by decide +kernel)
  have k := (((h.1 (scaling 65537 1 [carried 1])).2.2.2 [0xC7] (by decide +kernel)).2.2.2 ⟨1000001, 65537, false, false⟩ 1 (by decide +kernel) (by decide +kernel) (alone _ (by decide +kernel)) (by decide +kernel) (by decide +kernel) (by decide +kernel)).2 (carried 1) (by decide +kernel) |>.1 (by decide +kernel)
  have l := (((h.1 (scaling (2 ^ 48 - 1) 1 [carried 1])).2.2.2 [0xC7] (by decide +kernel)).2.2.2 ⟨1000001, 2 ^ 48 - 1, false, false⟩ 3 (by decide +kernel) (by decide +kernel) (alone _ (by decide +kernel)) (by decide +kernel) (by decide +kernel) (by decide +kernel)).2 (carried 1) (by decide +kernel) |>.1 (by decide +kernel)
  have m := (((h.1 (scaling 65551 1 [carried Config.carryLimit])).2.2.2 [0xC7] (by decide +kernel)).2.2.2 ⟨1000001, 65551, false, false⟩ 1 (by decide +kernel) (by decide +kernel) (alone _ (by decide +kernel)) (by decide +kernel) (by decide +kernel) (by decide +kernel)).2 (carried Config.carryLimit) (by decide +kernel) |>.2 (by decide +kernel)
  have n := (((h.1 (waited (scaling 65537 1 [carried 1]))).2.2.2 [0xC7] (by decide +kernel)).2.2.2 ⟨1000001, 65537, false, false⟩ 1 (by decide +kernel) (by decide +kernel) (alone _ (by decide +kernel)) (by decide +kernel) (by decide +kernel) (by decide +kernel)).2 (carried 1) (by decide +kernel) |>.1 (by decide +kernel)
  have n' := (((h.1 (on (scaling 65537 1 [carried 1]) fun x => { x with bill := { x.bill with counted := none, pendingClose := some 9 } })).2.2.2 [0xC7] (by decide +kernel)).2.2.2 ⟨1000001, 65537, false, false⟩ 1 (by decide +kernel) (by decide +kernel) (alone _ (by decide +kernel)) (by decide +kernel) (by decide +kernel) (by decide +kernel)).2 (carried 1) (by decide +kernel) |>.1 (by decide +kernel)
  exact ⟨⟨_, j⟩, ⟨_, k⟩, ⟨_, l⟩, ⟨_, m⟩, ⟨_, n⟩, ⟨_, n'⟩⟩

theorem witness_CommandsWithoutTheirEventChangeNothing (h : Obligations.CommandsWithoutTheirEventChangeNothing) :
    Answers (exec .roundFrameSend live) ∧
    Answers (exec .roundEnd live) ∧
    Answers (exec (.lineBreak 0) State.reset) ∧
    Answers (exec (.windowReading live.stn.self [179]) live) ∧
    Answers (exec .roundFrameSend (inBuddy live 0)) ∧
    Answers (exec (.windowReading 3 [179]) (inBuddy live 0)) ∧
    Answers (exec .roundEnd (inBuddy live 0)) ∧
    Answers (exec (.windowReading 2 [179]) (on (inBuddy live 0) fun x => { ctl := x.ctl, intake := x.intake, req := x.req, subs := x.subs, store := x.store, air := x.air, ret := x.ret, meter := x.meter, bill := x.bill, bus := x.bus, cust := { state := x.cust.state, map := x.cust.map, custody := x.cust.custody, declaration := Declaration.declaring, join := x.cust.join, heard := x.cust.heard, buddyWait := x.cust.buddyWait, returnTaken := x.cust.returnTaken, returnEndTaken := x.cust.returnEndTaken, retryDelay := x.cust.retryDelay : Custody } : Stn })) ∧
    Answers (exec .roundEnd (on (inBuddy live 0) fun x => { ctl := x.ctl, intake := x.intake, req := x.req, subs := x.subs, store := x.store, air := x.air, ret := x.ret, meter := x.meter, bill := x.bill, bus := x.bus, cust := { state := x.cust.state, map := x.cust.map, custody := x.cust.custody, declaration := Declaration.declaring, join := x.cust.join, heard := x.cust.heard, buddyWait := x.cust.buddyWait, returnTaken := x.cust.returnTaken, returnEndTaken := x.cust.returnEndTaken, retryDelay := x.cust.retryDelay : Custody } : Stn })) ∧
    Answers (exec (.configurationReadComplete []) live) ∧
    Answers (exec (.waitEnd 4) live) ∧
    Answers (exec (.messageExpiry 4) live) ∧
    Answers (exec (.pageCompletion 4) live) ∧
    Answers (exec (.waitEnd (heldFor 1).serial) (storing record [heldFor 1])) ∧
    Answers (exec (.holdEnd paused.serial) (storing record [paused])) ∧
    Answers (exec (.noteFailure 2 6) (noted live [unanswered answer 7])) ∧
    Answers (exec .adoption live) ∧
    Answers (exec .buddyWaitEnd live) ∧
    Answers (exec .returnRetryDelayEnd live) ∧
    Answers (exec .mirrorRestartWaitEnd live) ∧
    Answers (exec .joiningEnd live) ∧
    Answers (exec .returnWalkVisit live) ∧
    Answers (exec .returnWalkStandbyVisit live) ∧
    Answers (exec .mirrorWalkStep live) ∧
    Answers (exec .drainVisit live) := by
  obtain ⟨a, b, b0, c, c0, d, e, f, g, i, j, k, l, m, n, o, p, q, r, s, t⟩ := h live
  have a' := (h State.reset).1 (by decide +kernel)
  have b'' := (h State.reset).2.2.1 (by decide +kernel) 0
  have b' := b (by exact .inr (by decide +kernel))
  have c' := c [0xB3]
  have w := (h (inBuddy live 0)).2.2.2.2.1 ⟨100, 0, [2, 3]⟩ (by decide +kernel)
  have w1 := w.1 (by decide +kernel); have w2 := w.2.1 3 [0xB3] (by exact .inl (by decide +kernel)); have w3 := w.2.2 (by exact .inl (by decide +kernel))
  have v := (h (on (inBuddy live 0) fun x => { x with cust.declaration := .declaring })).2.2.2.2.1 ⟨100, 0, [2, 3]⟩ (by decide +kernel)
  have v2 := v.2.1 2 [0xB3] (by exact .inr (by decide +kernel)); have v3 := v.2.2 (by exact .inr (by decide +kernel))
  have d' := d (by exact nofun) []
  have e' := e 4 (by decide +kernel)
  have f' := f 4 (by decide +kernel)
  have g' := (h (storing record [heldFor 2])).2.2.2.2.2.2.2.2.1 (heldFor 2) ⟨0, 2, 2, 2⟩ (by decide +kernel) (by decide +kernel) (by decide +kernel)
  have i' := ((h (storing record [heldFor 1])).2.2.2.2.2.2.2.2.2.1 (heldFor 1) (by decide +kernel)).1 (by exact ⟨by decide +kernel, by decide +kernel⟩)
  have i'' := ((h (storing record [paused])).2.2.2.2.2.2.2.2.2.1 paused (by decide +kernel)).2 (by decide +kernel)
  have j' := j 7 (by decide +kernel)
  have k' := (h (noted live [unanswered answer 7])).2.2.2.2.2.2.2.2.2.2.2.1 2 6 (by exact fun n hn _ _ => by rcases List.mem_singleton.1 hn with rfl; exact .inr (by decide +kernel))
  have l' := l (by decide +kernel)
  have m' := m (by decide +kernel)
  have n' := n (by decide +kernel)
  have o' := o (by decide +kernel)
  have p' := p (by exact .inl (by decide +kernel))
  have q' := q (by exact nofun)
  have r' := r (by exact nofun)
  have s' := s (by exact nofun)
  have t' := t (by decide +kernel)
  have b1 := b'.1; have b3 := b''.1; have b2 := b'.2.1; have e1 := e'.1; have e3 := e'.2.2
  exact ⟨⟨_, b1⟩, ⟨_, b2⟩, ⟨_, b3⟩, ⟨_, c'⟩, ⟨_, w1⟩, ⟨_, w2⟩, ⟨_, w3⟩, ⟨_, v2⟩, ⟨_, v3⟩, ⟨_, d'⟩, ⟨_, e1⟩, ⟨_, e3⟩, ⟨_, f'⟩, ⟨_, i'⟩, ⟨_, i''⟩, ⟨_, k'⟩, ⟨_, l'⟩, ⟨_, m'⟩, ⟨_, n'⟩, ⟨_, o'⟩, ⟨_, p'⟩, ⟨_, q'⟩, ⟨_, r'⟩, ⟨_, s'⟩, ⟨_, t'⟩⟩

/-- Peer 2 is heard in round 0, with this frame. -/
def said (notes : List WireNote) : RoundFrame := spoken 1207 0 [] notes
theorem bringsNote (s : State) (p : Station) (f : RoundFrame) (w : WireNote)
    (h : f.takes = [] ∧ f.notes = [w] ∧ w.dest = s.stn.self ∧ w.serial ∉ s.stn.bus.memory.get p ∧
      ∀ n ∈ s.stn.bus.outbox, n.dest = p → n.awaiting = false) : BringsNote s.stn p f w := h
def answering (l : List PendEntry) (outbox : List Note) : State := inBuddy (noted (pending live l) outbox) 0
def sentForward : Note := { note (.forward 7 (str "M/2000001")) with serial := some 6, sends := 1 }
def answered (res : Result) : WireNote := wire 1 (.answer 7 res)
def replies8 (s : State) : State := line0 s fun x => { x with replies := List.replicate 8 ⟨5, 0, str "O"⟩ }
def byReceipt : PendEntry := { entry 7 .awaiting with request := some (.cancel 2 9), route := .receipt 2 }
def cachedEight (s : State) : State := on s fun x => { x with req.cache := (List.range 8).map fun i => (2000000 + i, 2) }

theorem witness_AnswersFinishOrDeferTheirRequest (h : Obligations.AnswersFinishOrDeferTheirRequest) :
    Answers (exec (.windowReading 2 (said [answered Result.notYet]).bytes) (answering [] [])) ∧
    Answers (exec (.windowReading 2 (said [answered Result.notYet]).bytes) (answering [{ line := (entry 7 .awaiting).line, ctx := (entry 7 .awaiting).ctx, gen := (entry 7 .awaiting).gen, role := (entry 7 .awaiting).role, text := (entry 7 .awaiting).text, request := (entry 7 .awaiting).request, tag := (entry 7 .awaiting).tag, route := (entry 7 .awaiting).route, target := some 3, state := (entry 7 .awaiting).state, deferrals := (entry 7 .awaiting).deferrals, rounds := (entry 7 .awaiting).rounds, wait := (entry 7 .awaiting).wait : PendEntry }] [])) ∧
    Answers (exec (.windowReading 2 (said [answered Result.notYet]).bytes) (answering [entry 7 .sending] [note (.forward 7 (str "M/2000001"))])) ∧
    Answers (exec (.windowReading 2 (said [answered (Result.reply (str "O"))]).bytes) (answering [entry 7 .sending] [sentForward])) ∧
    Answers (exec (.windowReading 2 (said [answered (Result.reply (str "O"))]).bytes) (answering [{ line := (entry 7 .awaiting).line, ctx := (entry 7 .awaiting).ctx, gen := 9, role := (entry 7 .awaiting).role, text := (entry 7 .awaiting).text, request := (entry 7 .awaiting).request, tag := (entry 7 .awaiting).tag, route := (entry 7 .awaiting).route, target := (entry 7 .awaiting).target, state := (entry 7 .awaiting).state, deferrals := (entry 7 .awaiting).deferrals, rounds := (entry 7 .awaiting).rounds, wait := (entry 7 .awaiting).wait : PendEntry }] [])) ∧
    Answers (exec (.windowReading 2 (said [answered (Result.reply (str "O"))]).bytes) (replies8 (answering [entry 7 .awaiting] []))) := by
  have a := (h (answering [] []) ⟨100, 0, [2, 3]⟩ 2 (said [answered .notYet]).bytes (said [answered .notYet]) (answered .notYet) 7 .notYet (hears _ _ _ _ _ (by decide +kernel)) (changesNothing _ _ _ (by decide +kernel) (by decide +kernel)) (bringsNote _ _ _ _ (by decide +kernel)) (by decide +kernel)).1 (by decide +kernel)
  have b := ((h (answering [{ entry 7 .awaiting with target := some 3 }] []) ⟨100, 0, [2, 3]⟩ 2 (said [answered .notYet]).bytes (said [answered .notYet]) (answered .notYet) 7 .notYet (hears _ _ _ _ _ (by decide +kernel)) (changesNothing _ _ _ (by decide +kernel) (by decide +kernel)) (bringsNote _ _ _ _ (by decide +kernel)) (by decide +kernel)).2 { entry 7 .awaiting with target := some 3 } (by decide +kernel)).1 (by exact .inl (by decide +kernel))
  have c := ((h (answering [entry 7 .sending] [note (.forward 7 (str "M/2000001"))]) ⟨100, 0, [2, 3]⟩ 2 (said [answered .notYet]).bytes (said [answered .notYet]) (answered .notYet) 7 .notYet (hears _ _ _ _ _ (by decide +kernel)) (changesNothing _ _ _ (by decide +kernel) (by decide +kernel)) (bringsNote _ _ _ _ (by decide +kernel)) (by decide +kernel)).2 (entry 7 .sending) (by decide +kernel)).1 (by exact .inr (by decide +kernel))
  have d := (((h (answering [entry 7 .sending] [sentForward]) ⟨100, 0, [2, 3]⟩ 2 (said [answered (.reply (str "O"))]).bytes (said [answered (.reply (str "O"))]) (answered (.reply (str "O"))) 7 (.reply (str "O")) (hears _ _ _ _ _ (by decide +kernel)) (changesNothing _ _ _ (by decide +kernel) (by decide +kernel)) (bringsNote _ _ _ _ (by decide +kernel)) (by decide +kernel)).2 (entry 7 .sending) (by decide +kernel)).2 (by decide +kernel) (by exact .inr (by decide +kernel)) (eachHasItsNote _ (by decide +kernel)) (by decide +kernel)).1 (str "O") (by decide +kernel) |>.1 (replyFits _ _ (by decide +kernel))
  have e := (((h (answering [{ entry 7 .awaiting with gen := 9 }] []) ⟨100, 0, [2, 3]⟩ 2 (said [answered (.reply (str "O"))]).bytes (said [answered (.reply (str "O"))]) (answered (.reply (str "O"))) 7 (.reply (str "O")) (hears _ _ _ _ _ (by decide +kernel)) (changesNothing _ _ _ (by decide +kernel) (by decide +kernel)) (bringsNote _ _ _ _ (by decide +kernel)) (by decide +kernel)).2 { entry 7 .awaiting with gen := 9 } (by decide +kernel)).2 (by decide +kernel) (by exact .inl rfl) (eachHasItsNote _ (by decide +kernel)) (by decide +kernel)).1 (str "O") (by decide +kernel) |>.2.1 (by decide +kernel)
  have f := (((h (replies8 (answering [entry 7 .awaiting] [])) ⟨100, 0, [2, 3]⟩ 2 (said [answered (.reply (str "O"))]).bytes (said [answered (.reply (str "O"))]) (answered (.reply (str "O"))) 7 (.reply (str "O")) (hears _ _ _ _ _ (by decide +kernel)) (changesNothing _ _ _ (by decide +kernel) (by decide +kernel)) (bringsNote _ _ _ _ (by decide +kernel)) (by decide +kernel)).2 (entry 7 .awaiting) (by decide +kernel)).2 (by decide +kernel) (by exact .inl rfl) (eachHasItsNote _ (by decide +kernel)) (by decide +kernel)).1 (str "O") (by decide +kernel) |>.2.2 (by decide +kernel) (by decide +kernel)
  exact ⟨⟨_, a⟩, ⟨_, b⟩, ⟨_, c⟩, ⟨_, d⟩, ⟨_, e⟩, ⟨_, f⟩⟩

def movedTo (m : Station) : WireNote := answered (.moved m)

theorem witness_AnswersFinishOrDeferTheirRequest_deferral (h : Obligations.AnswersFinishOrDeferTheirRequest) :
    Answers (exec (.windowReading 2 (said [answered Result.notYet]).bytes) (answering [{ line := (entry 7 .awaiting).line, ctx := (entry 7 .awaiting).ctx, gen := (entry 7 .awaiting).gen, role := (entry 7 .awaiting).role, text := (entry 7 .awaiting).text, request := (entry 7 .awaiting).request, tag := (entry 7 .awaiting).tag, route := (entry 7 .awaiting).route, target := (entry 7 .awaiting).target, state := (entry 7 .awaiting).state, deferrals := 3, rounds := (entry 7 .awaiting).rounds, wait := (entry 7 .awaiting).wait : PendEntry }] [])) ∧
    Answers (exec (.windowReading 2 (said [answered Result.notYet]).bytes) (answering [{ line := (entry 7 .awaiting).line, ctx := (entry 7 .awaiting).ctx, gen := (entry 7 .awaiting).gen, role := (entry 7 .awaiting).role, text := (entry 7 .awaiting).text, request := (entry 7 .awaiting).request, tag := (entry 7 .awaiting).tag, route := (entry 7 .awaiting).route, target := (entry 7 .awaiting).target, state := (entry 7 .awaiting).state, deferrals := 4, rounds := (entry 7 .awaiting).rounds, wait := (entry 7 .awaiting).wait : PendEntry }] [])) ∧
    Answers (exec (.windowReading 2 (said [movedTo 3]).bytes) (cachedEight (answering [entry 7 .awaiting] []))) ∧
    Answers (exec (.windowReading 2 (said [movedTo 3]).bytes) (answering [{ line := (entry 7 .awaiting).line, ctx := (entry 7 .awaiting).ctx, gen := (entry 7 .awaiting).gen, role := (entry 7 .awaiting).role, text := (entry 7 .awaiting).text, request := (entry 7 .awaiting).request, tag := (entry 7 .awaiting).tag, route := (entry 7 .awaiting).route, target := (entry 7 .awaiting).target, state := (entry 7 .awaiting).state, deferrals := 4, rounds := (entry 7 .awaiting).rounds, wait := (entry 7 .awaiting).wait : PendEntry }] [])) ∧
    Answers (exec (.windowReading 2 (said [movedTo 3]).bytes) (answering [byReceipt] [])) := by
  have g := (((h (answering [{ entry 7 .awaiting with deferrals := 3 }] []) ⟨100, 0, [2, 3]⟩ 2 (said [answered .notYet]).bytes (said [answered .notYet]) (answered .notYet) 7 .notYet (hears _ _ _ _ _ (by decide +kernel)) (changesNothing _ _ _ (by decide +kernel) (by decide +kernel)) (bringsNote _ _ _ _ (by decide +kernel)) (by decide +kernel)).2 { entry 7 .awaiting with deferrals := 3 } (by decide +kernel)).2 (by decide +kernel) (by exact .inl rfl) (eachHasItsNote _ (by decide +kernel)) (by decide +kernel)).2.1 (by decide +kernel) |>.1 (by decide +kernel)
  have i := (((h (answering [{ entry 7 .awaiting with deferrals := 4 }] []) ⟨100, 0, [2, 3]⟩ 2 (said [answered .notYet]).bytes (said [answered .notYet]) (answered .notYet) 7 .notYet (hears _ _ _ _ _ (by decide +kernel)) (changesNothing _ _ _ (by decide +kernel) (by decide +kernel)) (bringsNote _ _ _ _ (by decide +kernel)) (by decide +kernel)).2 { entry 7 .awaiting with deferrals := 4 } (by decide +kernel)).2 (by decide +kernel) (by exact .inl rfl) (eachHasItsNote _ (by decide +kernel)) (by decide +kernel)).2.1 (by decide +kernel) |>.2 (by decide +kernel) (replyFits _ _ (by decide +kernel))
  have j := (((h (cachedEight (answering [entry 7 .awaiting] [])) ⟨100, 0, [2, 3]⟩ 2 (said [movedTo 3]).bytes (said [movedTo 3]) (movedTo 3) 7 (.moved 3) (hears _ _ _ _ _ (by decide +kernel)) (changesNothing _ _ _ (by decide +kernel) (by decide +kernel)) (bringsNote _ _ _ _ (by decide +kernel)) (by decide +kernel)).2 (entry 7 .awaiting) (by decide +kernel)).2 (by decide +kernel) (by exact .inl rfl) (eachHasItsNote _ (by decide +kernel)) (by decide +kernel)).2.2 3 (by decide +kernel) |>.1 2000001 (.meterRead 2000001) (by decide +kernel) (by decide +kernel) |>.1 (by decide +kernel)
  have k := (((h (answering [{ entry 7 .awaiting with deferrals := 4 }] []) ⟨100, 0, [2, 3]⟩ 2 (said [movedTo 3]).bytes (said [movedTo 3]) (movedTo 3) 7 (.moved 3) (hears _ _ _ _ _ (by decide +kernel)) (changesNothing _ _ _ (by decide +kernel) (by decide +kernel)) (bringsNote _ _ _ _ (by decide +kernel)) (by decide +kernel)).2 { entry 7 .awaiting with deferrals := 4 } (by decide +kernel)).2 (by decide +kernel) (by exact .inl rfl) (eachHasItsNote _ (by decide +kernel)) (by decide +kernel)).2.2 3 (by decide +kernel) |>.1 2000001 (.meterRead 2000001) (by decide +kernel) (by decide +kernel) |>.2 (by decide +kernel) (replyFits _ _ (by decide +kernel))
  have l := (((h (answering [byReceipt] []) ⟨100, 0, [2, 3]⟩ 2 (said [movedTo 3]).bytes (said [movedTo 3]) (movedTo 3) 7 (.moved 3) (hears _ _ _ _ _ (by decide +kernel)) (changesNothing _ _ _ (by decide +kernel) (by decide +kernel)) (bringsNote _ _ _ _ (by decide +kernel)) (by decide +kernel)).2 byReceipt (by decide +kernel)).2 (by decide +kernel) (by exact .inl rfl) (eachHasItsNote _ (by decide +kernel)) (by decide +kernel)).2.2 3 (by decide +kernel) |>.2 (by decide +kernel) (by decide +kernel)
  exact ⟨⟨_, g⟩, ⟨_, i⟩, ⟨_, j⟩, ⟨_, k⟩, ⟨_, l⟩⟩

def told (b : NoteBody) : WireNote := wire 1 b
def mirrorOf (refresh : Bool) : WireNote := told (.mirror refresh { admin with sub := 2000001, addr := 99 } 5)
def standing (l : List StandbyRec) (s : State) : State := on s fun x => { x with subs.standby := l, subs.standbyComplete := true }
def fullStandby : List StandbyRec := (List.range 1024).map fun i => { copy .plain with admin := { admin with sub := 3000000 + i } }
def twin : Record := { record with admin := { admin with sub := 2000001 } }
def home (a : Admin) : WireNote := told (.ret a 4 (some 2) record.meter)

theorem witness_NotesAreTakenAndActedOn (h : Obligations.NotesAreTakenAndActedOn) :
    Answers (exec (.windowReading 2 (said [mirrorOf true]).bytes) (inBuddy (standing [copy .plain] live) 0)) ∧
    Answers (exec (.windowReading 2 (said [mirrorOf true]).bytes) (inBuddy (standing [copy .plain] (holding live [twin])) 0)) ∧
    Answers (exec (.windowReading 2 (said [mirrorOf false]).bytes) (inBuddy (standing [{ admin := { sub := 2000001, addr := admin.addr, pagerClass := admin.pagerClass, tariff := admin.tariff, plan := admin.plan, zones := admin.zones, service := admin.service, quota := admin.quota, threshold := admin.threshold : Admin }, nextTag := (copy .plain).nextTag, mark := (copy .plain).mark : StandbyRec }] live) 0)) ∧
    Answers (exec (.windowReading 2 (said [mirrorOf false]).bytes) (inBuddy (standing fullStandby live) 0)) ∧
    Answers (exec (.windowReading 2 (said [mirrorOf false]).bytes) (inBuddy (holding live [twin]) 0)) ∧
    Answers (exec (.windowReading 2 (said [mirrorOf false]).bytes) (inBuddy (standing [copy .plain] live) 0)) ∧
    Answers (exec (.windowReading 2 (said [told (.mirrorEnd true)]).bytes) (inBuddy (standing [copy .plain] live) 0)) := by
  have a := ((h (inBuddy (standing [copy .plain] live) 0) ⟨100, 0, [2, 3]⟩ 2 (said [mirrorOf true]).bytes (said [mirrorOf true]) (mirrorOf true) (hears _ _ _ _ _ (by decide +kernel)) (changesNothing _ _ _ (by decide +kernel) (by decide +kernel)) (bringsNote _ _ _ _ (by decide +kernel))).1 true _ 5 rfl).1 (by decide +kernel)
  have a' := ((h (inBuddy (standing [copy .plain] (holding live [twin])) 0) ⟨100, 0, [2, 3]⟩ 2 (said [mirrorOf true]).bytes (said [mirrorOf true]) (mirrorOf true) (hears _ _ _ _ _ (by decide +kernel)) (changesNothing _ _ _ (by decide +kernel) (by decide +kernel)) (bringsNote _ _ _ _ (by decide +kernel))).1 true _ 5 rfl).1 (by decide +kernel)
  have b := ((h (inBuddy (standing [{ copy .plain with admin := { admin with sub := 2000001 } }] live) 0) ⟨100, 0, [2, 3]⟩ 2 (said [mirrorOf false]).bytes (said [mirrorOf false]) (mirrorOf false) (hears _ _ _ _ _ (by decide +kernel)) (changesNothing _ _ _ (by decide +kernel) (by decide +kernel)) (bringsNote _ _ _ _ (by decide +kernel))).1 false _ 5 rfl).2.1 (by decide +kernel) { copy .plain with admin := { admin with sub := 2000001 } } (by decide +kernel)
  have c := ((h (inBuddy (standing fullStandby live) 0) ⟨100, 0, [2, 3]⟩ 2 (said [mirrorOf false]).bytes (said [mirrorOf false]) (mirrorOf false) (hears _ _ _ _ _ (by decide +kernel)) (changesNothing _ _ _ (by decide +kernel) (by decide +kernel)) (bringsNote _ _ _ _ (by decide +kernel))).1 false _ 5 rfl).2.2 (by decide +kernel) (by decide +kernel) |>.1 (by decide +kernel)
  have d := ((h (inBuddy (holding live [twin]) 0) ⟨100, 0, [2, 3]⟩ 2 (said [mirrorOf false]).bytes (said [mirrorOf false]) (mirrorOf false) (hears _ _ _ _ _ (by decide +kernel)) (changesNothing _ _ _ (by decide +kernel) (by decide +kernel)) (bringsNote _ _ _ _ (by decide +kernel))).1 false _ 5 rfl).2.2 (by decide +kernel) (by decide +kernel) |>.2.1 (by decide +kernel) (by decide +kernel)
  have e := ((h (inBuddy (standing [copy .plain] live) 0) ⟨100, 0, [2, 3]⟩ 2 (said [mirrorOf false]).bytes (said [mirrorOf false]) (mirrorOf false) (hears _ _ _ _ _ (by decide +kernel)) (changesNothing _ _ _ (by decide +kernel) (by decide +kernel)) (bringsNote _ _ _ _ (by decide +kernel))).1 false _ 5 rfl).2.2 (by decide +kernel) (by decide +kernel) |>.2.2 (by decide +kernel) (by decide +kernel)
  have f := (h (inBuddy (standing [copy .plain] live) 0) ⟨100, 0, [2, 3]⟩ 2 (said [told (.mirrorEnd true)]).bytes (said [told (.mirrorEnd true)]) (told (.mirrorEnd true)) (hears _ _ _ _ _ (by decide +kernel)) (changesNothing _ _ _ (by decide +kernel) (by decide +kernel)) (bringsNote _ _ _ _ (by decide +kernel))).2.1 true (by decide +kernel)
  exact ⟨⟨_, a⟩, ⟨_, a'⟩, ⟨_, b⟩, ⟨_, c⟩, ⟨_, d⟩, ⟨_, e⟩, ⟨_, f⟩⟩

theorem witness_NotesAreTakenAndActedOn_returns (h : Obligations.NotesAreTakenAndActedOn) :
    Answers (exec (.windowReading 2 (said [home admin]).bytes) (inBuddy tableFull 0)) ∧
    Answers (exec (.windowReading 2 (said [home admin]).bytes) (inBuddy (holding live [{ admin := { sub := 1000002, addr := admin.addr, pagerClass := admin.pagerClass, tariff := admin.tariff, plan := admin.plan, zones := admin.zones, service := admin.service, quota := admin.quota, threshold := admin.threshold : Admin }, origin := twin.origin, home := twin.home, returning := twin.returning, nextTag := twin.nextTag, queue := twin.queue, lastZone := twin.lastZone, meter := twin.meter : Record }]) 0)) ∧
    Answers (exec (.windowReading 2 (said [home admin]).bytes) (inBuddy (standing [{ admin := admin, nextTag := (copy .plain).nextTag, mark := (copy .plain).mark : StandbyRec }] live) 0)) ∧
    Answers (exec (.windowReading 2 (said [told .retEnd]).bytes) (inBuddy live 0)) ∧
    Answers (exec (.windowReading 2 (said [told .retEnd]).bytes) (inBuddy (joining live) 0)) ∧
    Answers (exec (.windowReading 2 (said [told .retEnd]).bytes) (inBuddy (reclaiming true .live) 0)) := by
  have g := ((h (inBuddy tableFull 0) ⟨100, 0, [2, 3]⟩ 2 (said [home admin]).bytes (said [home admin]) (home admin) (hears _ _ _ _ _ (by decide +kernel)) (changesNothing _ _ _ (by decide +kernel) (by decide +kernel)) (bringsNote _ _ _ _ (by decide +kernel))).2.2.1 admin 4 (some 2) record.meter (by decide +kernel)).1 (by decide +kernel)
  have i := ((h (inBuddy (holding live [{ twin with admin := { admin with sub := 1000002 } }]) 0) ⟨100, 0, [2, 3]⟩ 2 (said [home admin]).bytes (said [home admin]) (home admin) (hears _ _ _ _ _ (by decide +kernel)) (changesNothing _ _ _ (by decide +kernel) (by decide +kernel)) (bringsNote _ _ _ _ (by decide +kernel))).2.2.1 admin 4 (some 2) record.meter (by decide +kernel)).2 (by decide +kernel) (by exact .inl (by decide +kernel))
  have j := ((h (inBuddy (standing [{ copy .plain with admin := admin }] live) 0) ⟨100, 0, [2, 3]⟩ 2 (said [home admin]).bytes (said [home admin]) (home admin) (hears _ _ _ _ _ (by decide +kernel)) (changesNothing _ _ _ (by decide +kernel) (by decide +kernel)) (bringsNote _ _ _ _ (by decide +kernel))).2.2.1 admin 4 (some 2) record.meter (by decide +kernel)).2 (by decide +kernel) (by exact .inr (by decide +kernel))
  have k := ((h (inBuddy live 0) ⟨100, 0, [2, 3]⟩ 2 (said [told .retEnd]).bytes (said [told .retEnd]) (told .retEnd) (hears _ _ _ _ _ (by decide +kernel)) (changesNothing _ _ _ (by decide +kernel) (by decide +kernel)) (bringsNote _ _ _ _ (by decide +kernel))).2.2.2.1 (by decide +kernel)).1 (by decide +kernel)
  have l := ((h (inBuddy (joining live) 0) ⟨100, 0, [2, 3]⟩ 2 (said [told .retEnd]).bytes (said [told .retEnd]) (told .retEnd) (hears _ _ _ _ _ (by decide +kernel)) (changesNothing _ _ _ (by decide +kernel) (by decide +kernel)) (bringsNote _ _ _ _ (by decide +kernel))).2.2.2.1 (by decide +kernel)).2.1 (by decide +kernel)
  have m := ((h (inBuddy (reclaiming true .live) 0) ⟨100, 0, [2, 3]⟩ 2 (said [told .retEnd]).bytes (said [told .retEnd]) (told .retEnd) (hears _ _ _ _ _ (by decide +kernel)) (changesNothing _ _ _ (by decide +kernel) (by decide +kernel)) (bringsNote _ _ _ _ (by decide +kernel))).2.2.2.1 (by decide +kernel)).2.2 (by decide +kernel) (by decide +kernel) (by decide +kernel) (by decide +kernel) (noDouble _ (by decide +kernel))
  exact ⟨⟨_, g⟩, ⟨_, i⟩, ⟨_, j⟩, ⟨_, k⟩, ⟨_, l⟩, ⟨_, m⟩⟩

def withdrawal : WireNote := told (.forward 5 (requestText (.withdraw 1000001)))
/-- The mirror walk runs with notes of its own in the outbox, and an entry waits for a place. -/
def mirrorWaits (s : State) : State := on s fun x => { x with
  subs.mirror := .running none false false, req.pend := [entry 7 .sending],
  bus.outbox := x.bus.outbox.drop 1 ++ [note (.mirrorRemove 5)] }
def asked (text : String) : WireNote := told (.forward 5 (str text))

theorem witness_NotesAreTakenAndActedOn_forwards (h : Obligations.NotesAreTakenAndActedOn) :
    Answers (exec (.windowReading 2 (said [asked "Z/1"]).bytes) (inBuddy (outboxOf 31 live) 0)) ∧
    Answers (exec (.windowReading 2 (said [asked "P"]).bytes) (inBuddy live 0)) ∧
    Answers (exec (.windowReading 2 (said [asked "T/C"]).bytes) (inBuddy live 0)) ∧
    Answers (exec (.windowReading 2 (said [asked "M/1000001"]).bytes) (inBuddy only 0)) ∧
    Answers (exec (.windowReading 2 (said [asked "Q/1-00004"]).bytes) (inBuddy (past .expired) 0)) ∧
    Answers (exec (.windowReading 2 (said [asked "S/1000001/U/A"]).bytes) (inBuddy only 0)) ∧
    Answers (exec (.windowReading 2 (said [withdrawal]).bytes) (inBuddy (mirrorWaits (outboxOf 31 only)) 0)) := by
  have n := ((h (inBuddy (outboxOf 31 live) 0) ⟨100, 0, [2, 3]⟩ 2 (said [asked "Z/1"]).bytes (said [asked "Z/1"]) (asked "Z/1") (hears _ _ _ _ _ (by decide +kernel)) (changesNothing _ _ _ (by decide +kernel) (by decide +kernel)) (bringsNote _ _ _ _ (by decide +kernel))).2.2.2.2 5 (str "Z/1") (by decide +kernel) (by decide +kernel)).1 .badSyntax (by decide +kernel)
  have o := ((h (inBuddy live 0) ⟨100, 0, [2, 3]⟩ 2 (said [asked "P"]).bytes (said [asked "P"]) (asked "P") (hears _ _ _ _ _ (by decide +kernel)) (changesNothing _ _ _ (by decide +kernel) (by decide +kernel)) (bringsNote _ _ _ _ (by decide +kernel))).2.2.2.2 5 (str "P") (by decide +kernel) (by decide +kernel)).2.1 (by exact .inl (by decide +kernel))
  have p := ((h (inBuddy live 0) ⟨100, 0, [2, 3]⟩ 2 (said [asked "T/C"]).bytes (said [asked "T/C"]) (asked "T/C") (hears _ _ _ _ _ (by decide +kernel)) (changesNothing _ _ _ (by decide +kernel) (by decide +kernel)) (bringsNote _ _ _ _ (by decide +kernel))).2.2.2.2 5 (str "T/C") (by decide +kernel) (by decide +kernel)).2.1 (by exact .inr ⟨true, by decide +kernel⟩)
  have q := ((h (inBuddy only 0) ⟨100, 0, [2, 3]⟩ 2 (said [asked "M/1000001"]).bytes (said [asked "M/1000001"]) (asked "M/1000001") (hears _ _ _ _ _ (by decide +kernel)) (changesNothing _ _ _ (by decide +kernel) (by decide +kernel)) (bringsNote _ _ _ _ (by decide +kernel))).2.2.2.2 5 (str "M/1000001") (by decide +kernel) (by decide +kernel)).2.2.2 (.meterRead 1000001) (by decide +kernel) (by exact .inl ⟨_, rfl⟩)
  have r := ((h (inBuddy (past .expired) 0) ⟨100, 0, [2, 3]⟩ 2 (said [asked "Q/1-00004"]).bytes (said [asked "Q/1-00004"]) (asked "Q/1-00004") (hears _ _ _ _ _ (by decide +kernel)) (changesNothing _ _ _ (by decide +kernel) (by decide +kernel)) (bringsNote _ _ _ _ (by decide +kernel))).2.2.2.2 5 (str "Q/1-00004") (by decide +kernel) (by decide +kernel)).2.2.2 (.query 1 4) (by decide +kernel) (by exact .inr ⟨_, _, rfl⟩)
  have s := ((h (inBuddy only 0) ⟨100, 0, [2, 3]⟩ 2 (said [asked "S/1000001/U/A"]).bytes (said [asked "S/1000001/U/A"]) (asked "S/1000001/U/A") (hears _ _ _ _ _ (by decide +kernel)) (changesNothing _ _ _ (by decide +kernel) (by decide +kernel)) (bringsNote _ _ _ _ (by decide +kernel))).2.2.2.2 5 (str "S/1000001/U/A") (by decide +kernel) (by decide +kernel)).2.2.1 (.submit (.peer 2 5) 1000001 .urgent (str "A")) (.submit 1000001 .urgent (str "A")) (by decide +kernel) (by decide +kernel) (by decide +kernel) (by decide +kernel)
  have t := ((h (inBuddy (mirrorWaits (outboxOf 31 only)) 0) ⟨100, 0, [2, 3]⟩ 2 (said [withdrawal]).bytes (said [withdrawal]) withdrawal (hears _ _ _ _ _ (by decide +kernel)) (changesNothing _ _ _ (by decide +kernel) (by decide +kernel)) (bringsNote _ _ _ _ (by decide +kernel))).2.2.2.2 5 (requestText (.withdraw 1000001)) (by decide +kernel) (by decide +kernel)).2.2.1 (.withdraw (.peer 2 5) 1000001) (.withdraw 1000001) (by decide +kernel) (by decide +kernel) (by decide +kernel) (by decide +kernel)
  exact ⟨⟨_, n⟩, ⟨_, o⟩, ⟨_, p⟩, ⟨_, q⟩, ⟨_, r⟩, ⟨_, s⟩, ⟨_, t⟩⟩

/-- Peer 3, the ward, is heard in round 0, with this frame. -/
def wardSays (st : Member) (period : Period) (silence custody : StationSet) (takes : List (Station × NoteSerial)) : RoundFrame :=
  { spoken 1207 0 takes [] with sender := 3, state := st, period := period, silence := silence, custody := custody, claims := [] }
/-- A note of a walk to peer k, sent and not yet taken. -/
def walkNote (k : Station) (b : NoteBody) : Note := { Note.fresh k b .here .ret with serial := some 6, awaiting := true, sends := 1 }
def returning (r : ReturnWalk) (l : List Record) (n : Note) : State := inWard (noted (on live fun x => { x with
  cust := { x.cust with custody := 0x0008, map := [member 1 .live, member 2 .live, { member 3 .live with custodian := some 1 }] },
  subs := { x.subs with ret := r, grant := .ret, active := l, standby := [copy .returned] } }) [n]) 0
def retNote : Note := walkNote 3 (.ret (leaving 3000001 []).admin 9 none record.meter)
def taken : RoundFrame := wardSays .live 0 0 0 [(1, 6)]

theorem witness_TakenNotesOfTheWalks (h : Obligations.TakenNotesOfTheWalks) :
    Answers (exec (.windowReading 3 taken.bytes) (returning (.running .revisit (some 5)) [leaving 3000001 []] retNote)) ∧
    Answers (exec (.windowReading 3 taken.bytes) (returning (.running .revisit (some 5)) [leaving 3000001 [], leaving 3000002 [4]] retNote)) ∧
    Answers (exec (.windowReading 3 taken.bytes) (returning (.running .adopted (some 3000001)) [leaving 3000001 [], leaving 3000002 [4]] retNote)) ∧
    Answers (exec (.windowReading 3 taken.bytes) (returning (.running .adopted (some 3000002)) [leaving 3000001 [], leaving 3000002 [4]] retNote)) ∧
    Answers (exec (.windowReading 3 taken.bytes) (returning (.running .standby (some 3000001)) [] retNote)) := by
  have a := ((h (returning (.running .revisit (some 5)) [leaving 3000001 []] retNote) ⟨100, 0, [3]⟩ 3 taken.bytes taken retNote 6 (hears _ _ _ _ _ (by decide +kernel)) (changesNothing _ _ _ (by decide +kernel) (by decide +kernel)) (eachHasItsNote _ (by decide +kernel)) (by decide +kernel) (by decide +kernel) (by decide +kernel) (by decide +kernel) (by decide +kernel)).1 _ 9 none record.meter rfl).1 (leaving 3000001 []) (by decide +kernel) |>.1 (by decide +kernel) (some 5) (by exact .inr rfl)
  have b := ((h (returning (.running .revisit (some 5)) [leaving 3000001 [], leaving 3000002 [4]] retNote) ⟨100, 0, [3]⟩ 3 taken.bytes taken retNote 6 (hears _ _ _ _ _ (by decide +kernel)) (changesNothing _ _ _ (by decide +kernel) (by decide +kernel)) (eachHasItsNote _ (by decide +kernel)) (by decide +kernel) (by decide +kernel) (by decide +kernel) (by decide +kernel) (by decide +kernel)).1 _ 9 none record.meter rfl).1 (leaving 3000001 []) (by decide +kernel) |>.2.1 (by exact ⟨leaving 3000002 [4], by decide +kernel, rfl⟩) (some 5) rfl
  have c := ((h (returning (.running .adopted (some 3000001)) [leaving 3000001 [], leaving 3000002 [4]] retNote) ⟨100, 0, [3]⟩ 3 taken.bytes taken retNote 6 (hears _ _ _ _ _ (by decide +kernel)) (changesNothing _ _ _ (by decide +kernel) (by decide +kernel)) (eachHasItsNote _ (by decide +kernel)) (by decide +kernel) (by decide +kernel) (by decide +kernel) (by decide +kernel) (by decide +kernel)).1 _ 9 none record.meter rfl).1 (leaving 3000001 []) (by decide +kernel) |>.2.2.1 (by exact ⟨leaving 3000002 [4], by decide +kernel, rfl, fun q e => by cases e; decide⟩) (some 3000001) rfl
  have d := ((h (returning (.running .adopted (some 3000002)) [leaving 3000001 [], leaving 3000002 [4]] retNote) ⟨100, 0, [3]⟩ 3 taken.bytes taken retNote 6 (hears _ _ _ _ _ (by decide +kernel)) (changesNothing _ _ _ (by decide +kernel) (by decide +kernel)) (eachHasItsNote _ (by decide +kernel)) (by decide +kernel) (by decide +kernel) (by decide +kernel) (by decide +kernel) (by decide +kernel)).1 _ 9 none record.meter rfl).1 (leaving 3000001 []) (by decide +kernel) |>.2.2.2 3000002 (by decide +kernel) (by exact ⟨leaving 3000002 [4], by decide +kernel, rfl⟩) (by decide +kernel)
  have e := ((h (returning (.running .standby (some 3000001)) [] retNote) ⟨100, 0, [3]⟩ 3 taken.bytes taken retNote 6 (hears _ _ _ _ _ (by decide +kernel)) (changesNothing _ _ _ (by decide +kernel) (by decide +kernel)) (eachHasItsNote _ (by decide +kernel)) (by decide +kernel) (by decide +kernel) (by decide +kernel) (by decide +kernel) (by decide +kernel)).1 _ 9 none record.meter rfl).2 (by decide +kernel)
  exact ⟨⟨_, a⟩, ⟨_, b⟩, ⟨_, c⟩, ⟨_, d⟩, ⟨_, e⟩⟩

def closingWith (p : Option Period) (s : State) : State := on s fun x => { x with bill.pendingClose := p }
def mirrorRunning (ended : Bool) : State := on (inBuddy (noted live [sentNote (.mirrorEnd true)]) 0) fun x => { x with subs.mirror := .running none false ended }

theorem witness_TakenNotesOfTheWalks_ends (h : Obligations.TakenNotesOfTheWalks) :
    Answers (exec (.windowReading 3 taken.bytes) (returning (.running .ending none) [] (walkNote 3 .retEnd))) ∧
    Answers (exec (.windowReading 3 taken.bytes) (closingWith (some 4) (returning (.running .ending none) [] (walkNote 3 .retEnd)))) ∧
    Answers (exec (.windowReading 2 (spoken 1207 0 [(1, 6)] []).bytes) (mirrorRunning true)) ∧
    Answers (exec (.windowReading 2 (spoken 1207 0 [(1, 6)] []).bytes) (mirrorRunning false)) := by
  have a := (h (returning (.running .ending none) [] (walkNote 3 .retEnd)) ⟨100, 0, [3]⟩ 3 taken.bytes taken (walkNote 3 .retEnd) 6 (hears _ _ _ _ _ (by decide +kernel)) (changesNothing _ _ _ (by decide +kernel) (by decide +kernel)) (eachHasItsNote _ (by decide +kernel)) (by decide +kernel) (by decide +kernel) (by decide +kernel) (by decide +kernel) (by decide +kernel)).2.1 .ending none (by decide +kernel) (by decide +kernel) (by decide +kernel) (by decide +kernel) (by exact nofun)
  have b := (h (closingWith (some 4) (returning (.running .ending none) [] (walkNote 3 .retEnd))) ⟨100, 0, [3]⟩ 3 taken.bytes taken (walkNote 3 .retEnd) 6 (hears _ _ _ _ _ (by decide +kernel)) (changesNothing _ _ _ (by decide +kernel) (by decide +kernel)) (eachHasItsNote _ (by decide +kernel)) (by decide +kernel) (by decide +kernel) (by decide +kernel) (by decide +kernel) (by decide +kernel)).2.1 .ending none (by decide +kernel) (by decide +kernel) (by decide +kernel) (by decide +kernel) (by exact fun q e => by cases e; decide +kernel)
  have c := ((h (mirrorRunning true) ⟨100, 0, [2, 3]⟩ 2 (spoken 1207 0 [(1, 6)] []).bytes (spoken 1207 0 [(1, 6)] []) (sentNote (.mirrorEnd true)) 6 (hears _ _ _ _ _ (by decide +kernel)) (changesNothing _ _ _ (by decide +kernel) (by decide +kernel)) (eachHasItsNote _ (by decide +kernel)) (by decide +kernel) (by decide +kernel) (by decide +kernel) (by decide +kernel) (by decide +kernel)).2.2 true (by decide +kernel)).1 none false (by decide +kernel)
  have d := ((h (mirrorRunning false) ⟨100, 0, [2, 3]⟩ 2 (spoken 1207 0 [(1, 6)] []).bytes (spoken 1207 0 [(1, 6)] []) (sentNote (.mirrorEnd true)) 6 (hears _ _ _ _ _ (by decide +kernel)) (changesNothing _ _ _ (by decide +kernel) (by decide +kernel)) (eachHasItsNote _ (by decide +kernel)) (by decide +kernel) (by decide +kernel) (by decide +kernel) (by decide +kernel) (by decide +kernel)).2.2 true (by decide +kernel)).2 (by exact nofun)
  exact ⟨⟨_, a⟩, ⟨_, b⟩, ⟨_, c⟩, ⟨_, d⟩⟩

/-- Stations 1 to 4; station 1 has buddy 2 and ward 4. -/
def office (entries : List MapEntry) : State := inBuddy (on live fun x => { x with
  ctl.image := some { image with roster := 0x001E }, cust.map := entries, req.cache := [(2000001, 2)] }) 0
def under (k : Station) (v : View) (c : Option Station) : MapEntry := { member k v with custodian := c }
/-- Peer 2 lists this custody. -/
def lists (st : Member) (custody : StationSet) : RoundFrame := { spoken 1207 0 [] [] with state := st, custody := custody, silence := 0, claims := [] }
theorem bringsLists (s : State) (f : RoundFrame)
    (h : f.takes = [] ∧ f.notes = [] ∧ later f.period s.stn.bill.period = false) : BringsLists s.stn f := h
theorem holdsNoneBut (s : State) (p k : Station)
    (h : ∀ j ∈ s.stn.roster, j ≠ p → j ≠ k → s.stn.custodian j ≠ some p) : HoldsNoneBut s.stn p k := h
theorem othersUp (s : State) (l : List Station)
    (h : ∀ k ∈ s.stn.roster, k ≠ s.stn.self → k ∉ l → (s.stn.view k).down = false) : OthersUp s.stn l := h
def four (v3 v4 : View) : State := office [member 1 .live, member 2 .live, under 3 v3 (some 3), under 4 v4 (some 4)]
def adoptedBy2 : State := office [member 1 .live, member 2 .live, under 3 .live (some 4), under 4 .silent (some 4)]

theorem witness_CustodyListsAreRead (h : Obligations.CustodyListsAreRead) :
    Answers (exec (.windowReading 2 (lists .live 2).bytes) (office [under 1 .live (some 2), member 2 .live, member 3 .live, member 4 .live])) ∧
    Answers (exec (.windowReading 2 (lists .live 2).bytes) (four .live .live)) ∧
    Answers (exec (.windowReading 2 (lists .live 16).bytes) (on (four .live .live) fun x => { ctl := x.ctl, intake := x.intake, req := x.req, subs := x.subs, store := x.store, air := x.air, ret := x.ret, meter := x.meter, bill := x.bill, bus := x.bus, cust := { state := x.cust.state, map := x.cust.map, custody := 16, declaration := x.cust.declaration, join := x.cust.join, heard := x.cust.heard, buddyWait := x.cust.buddyWait, returnTaken := x.cust.returnTaken, returnEndTaken := x.cust.returnEndTaken, retryDelay := x.cust.retryDelay : Custody } : Stn })) ∧
    Answers (exec (.windowReading 2 (lists .live 8).bytes) (office [member 1 .live, member 2 .live, under 3 .silent (some 2), member 4 .live])) ∧
    Answers (exec (.windowReading 2 (lists .live 8).bytes) (four .joining .live)) ∧
    Answers (exec (.windowReading 2 (lists .live 8).bytes) (four .failed .live)) ∧
    Answers (exec (.windowReading 2 (lists .live 16).bytes) adoptedBy2) ∧
    Answers (exec (.windowReading 2 (lists .live 16).bytes) (four .silent .foreign)) ∧
    Answers (exec (.windowReading 2 (lists .live 16).bytes) (office [under 1 .live (some 3), member 2 .live, under 3 .silent (some 3), under 4 .silent (some 4)])) := by
  have a := ((h (office [under 1 .live (some 2), member 2 .live, member 3 .live, member 4 .live]) ⟨100, 0, [2, 3]⟩ 2 (lists .live 0x0002).bytes (lists .live 0x0002) (hears _ _ _ _ _ (by decide +kernel)) (bringsLists _ _ (by decide +kernel)) (noRequests _ (by decide +kernel))).1 1 (by decide +kernel) (by decide +kernel) (by decide +kernel) (by decide +kernel) (holdsNoneBut _ _ _ (by decide +kernel))).1 (by decide +kernel) (by decide +kernel) |>.1 (by decide +kernel)
  have b := ((h (four .live .live) ⟨100, 0, [2, 3]⟩ 2 (lists .live 0x0002).bytes (lists .live 0x0002) (hears _ _ _ _ _ (by decide +kernel)) (bringsLists _ _ (by decide +kernel)) (noRequests _ (by decide +kernel))).1 1 (by decide +kernel) (by decide +kernel) (by decide +kernel) (by decide +kernel) (holdsNoneBut _ _ _ (by decide +kernel))).1 (by decide +kernel) (by decide +kernel) |>.2 (by decide +kernel)
  have c := ((h (on (four .live .live) fun x => { x with cust.custody := 0x0010 }) ⟨100, 0, [2, 3]⟩ 2 (lists .live 0x0010).bytes (lists .live 0x0010) (hears _ _ _ _ _ (by decide +kernel)) (bringsLists _ _ (by decide +kernel)) (noRequests _ (by decide +kernel))).1 4 (by decide +kernel) (by decide +kernel) (by decide +kernel) (by decide +kernel) (holdsNoneBut _ _ _ (by decide +kernel))).2.1 (by decide +kernel) (by exact .inl (by decide +kernel))
  have d := ((h (office [member 1 .live, member 2 .live, under 3 .silent (some 2), member 4 .live]) ⟨100, 0, [2, 3]⟩ 2 (lists .live 0x0008).bytes (lists .live 0x0008) (hears _ _ _ _ _ (by decide +kernel)) (bringsLists _ _ (by decide +kernel)) (noRequests _ (by decide +kernel))).1 3 (by decide +kernel) (by decide +kernel) (by decide +kernel) (by decide +kernel) (holdsNoneBut _ _ _ (by decide +kernel))).2.1 (by decide +kernel) (by exact .inr (by decide +kernel))
  have e := ((h (four .joining .live) ⟨100, 0, [2, 3]⟩ 2 (lists .live 0x0008).bytes (lists .live 0x0008) (hears _ _ _ _ _ (by decide +kernel)) (bringsLists _ _ (by decide +kernel)) (noRequests _ (by decide +kernel))).1 3 (by decide +kernel) (by decide +kernel) (by decide +kernel) (by decide +kernel) (holdsNoneBut _ _ _ (by decide +kernel))).2.2 (by decide +kernel) (by decide +kernel) (by decide +kernel) |>.1 (by decide +kernel)
  have e' := ((h (four .failed .live) ⟨100, 0, [2, 3]⟩ 2 (lists .live 0x0008).bytes (lists .live 0x0008) (hears _ _ _ _ _ (by decide +kernel)) (bringsLists _ _ (by decide +kernel)) (noRequests _ (by decide +kernel))).1 3 (by decide +kernel) (by decide +kernel) (by decide +kernel) (by decide +kernel) (holdsNoneBut _ _ _ (by decide +kernel))).2.2 (by decide +kernel) (by decide +kernel) (by decide +kernel) |>.1 (by decide +kernel)
  have f := ((h adoptedBy2 ⟨100, 0, [2, 3]⟩ 2 (lists .live 0x0010).bytes (lists .live 0x0010) (hears _ _ _ _ _ (by decide +kernel)) (bringsLists _ _ (by decide +kernel)) (noRequests _ (by decide +kernel))).1 4 (by decide +kernel) (by decide +kernel) (by decide +kernel) (by decide +kernel) (holdsNoneBut _ _ _ (by decide +kernel))).2.2 (by decide +kernel) (by decide +kernel) (by decide +kernel) |>.2 (by exact .inl (by decide +kernel)) (by decide +kernel) (by decide +kernel) (by exact nofun) |>.1 (othersUp _ _ (by decide +kernel))
  have g := ((h (four .silent .foreign) ⟨100, 0, [2, 3]⟩ 2 (lists .live 0x0010).bytes (lists .live 0x0010) (hears _ _ _ _ _ (by decide +kernel)) (bringsLists _ _ (by decide +kernel)) (noRequests _ (by decide +kernel))).1 4 (by decide +kernel) (by decide +kernel) (by decide +kernel) (by decide +kernel) (holdsNoneBut _ _ _ (by decide +kernel))).2.2 (by decide +kernel) (by decide +kernel) (by decide +kernel) |>.2 (by exact .inr (by decide +kernel)) (by decide +kernel) (by decide +kernel) (by exact nofun) |>.2 3 (by decide +kernel) (by decide +kernel) (by decide +kernel) (by decide +kernel) (by decide +kernel) (othersUp _ _ (by decide +kernel))
  have g' := ((h (office [under 1 .live (some 3), member 2 .live, under 3 .silent (some 3), under 4 .silent (some 4)]) ⟨100, 0, [2, 3]⟩ 2 (lists .live 0x0010).bytes (lists .live 0x0010) (hears _ _ _ _ _ (by decide +kernel)) (bringsLists _ _ (by decide +kernel)) (noRequests _ (by decide +kernel))).1 4 (by decide +kernel) (by decide +kernel) (by decide +kernel) (by decide +kernel) (holdsNoneBut _ _ _ (by decide +kernel))).2.2 (by decide +kernel) (by decide +kernel) (by decide +kernel) |>.2 (by exact .inl (by decide +kernel)) (by decide +kernel) (by decide +kernel) (by exact nofun) |>.2 3 (by decide +kernel) (by decide +kernel) (by decide +kernel) (by decide +kernel) (by decide +kernel) (othersUp _ _ (by decide +kernel))
  exact ⟨⟨_, a⟩, ⟨_, b⟩, ⟨_, c⟩, ⟨_, d⟩, ⟨_, e⟩, ⟨_, e'⟩, (f.imp fun _ p => p.1), (g.imp fun _ p => p.1), (g'.imp fun _ p => p.1)⟩

/-- Peer 2 joined before, and is custodian of station 3. -/
def joiningOnce : State := on (office [member 1 .live, member 2 .joining, under 3 .failed (some 2), member 4 .live]) fun x =>
  { x with bus.lastSender := x.bus.lastSender.set 2 (some .joining) }

theorem witness_CustodyListsAreRead_dropped (h : Obligations.CustodyListsAreRead) :
    Answers (exec (.windowReading 2 (lists .live 0).bytes) (office [member 1 .live, member 2 .live, under 3 .silent (some 2), member 4 .live])) ∧
    Answers (exec (.windowReading 2 (lists .live 0).bytes) (office [member 1 .live, member 2 .live, under 3 .failed (some 2), member 4 .live])) ∧
    Answers (exec (.windowReading 2 (lists .live 0).bytes) (office [under 1 .live (some 2), member 2 .live, member 3 .live, member 4 .live])) ∧
    Answers (exec (.windowReading 2 (lists .live 0).bytes) (office [member 1 .live, under 2 .live none, member 3 .live, member 4 .live])) ∧
    Answers (exec (.windowReading 2 (lists .live 0).bytes) (office [member 1 .live, under 2 .failed none, member 3 .live, member 4 .live])) ∧
    Answers (exec (.windowReading 2 (lists .reclaiming 0).bytes) (office [member 1 .live, under 2 .failed (some 3), member 3 .live, member 4 .live])) ∧
    Answers (exec (.windowReading 2 (lists .joining 0).bytes) joiningOnce) := by
  have a := (h (office [member 1 .live, member 2 .live, under 3 .silent (some 2), member 4 .live]) ⟨100, 0, [2, 3]⟩ 2 (lists .live 0).bytes (lists .live 0) (hears _ _ _ _ _ (by decide +kernel)) (bringsLists _ _ (by decide +kernel)) (noRequests _ (by decide +kernel))).2.1 (by decide +kernel) (by decide +kernel) (by decide +kernel) 3 (by decide +kernel) (by decide +kernel) (by decide +kernel) (holdsNoneBut _ _ _ (by decide +kernel)) |>.1 (by decide +kernel)
  have b := (h (office [member 1 .live, member 2 .live, under 3 .failed (some 2), member 4 .live]) ⟨100, 0, [2, 3]⟩ 2 (lists .live 0).bytes (lists .live 0) (hears _ _ _ _ _ (by decide +kernel)) (bringsLists _ _ (by decide +kernel)) (noRequests _ (by decide +kernel))).2.1 (by decide +kernel) (by decide +kernel) (by decide +kernel) 3 (by decide +kernel) (by decide +kernel) (by decide +kernel) (holdsNoneBut _ _ _ (by decide +kernel)) |>.2 (by decide +kernel) (othersUp _ _ (by decide +kernel))
  have b' := (h (office [under 1 .live (some 2), member 2 .live, member 3 .live, member 4 .live]) ⟨100, 0, [2, 3]⟩ 2 (lists .live 0).bytes (lists .live 0) (hears _ _ _ _ _ (by decide +kernel)) (bringsLists _ _ (by decide +kernel)) (noRequests _ (by decide +kernel))).2.1 (by decide +kernel) (by decide +kernel) (by decide +kernel) 1 (by decide +kernel) (by decide +kernel) (by decide +kernel) (holdsNoneBut _ _ _ (by decide +kernel)) |>.1 (by decide +kernel)
  have c := (h (office [member 1 .live, under 2 .live none, member 3 .live, member 4 .live]) ⟨100, 0, [2, 3]⟩ 2 (lists .live 0).bytes (lists .live 0) (hears _ _ _ _ _ (by decide +kernel)) (bringsLists _ _ (by decide +kernel)) (noRequests _ (by decide +kernel))).2.2.1 (by decide +kernel) (by decide +kernel) (by decide +kernel) (holdsNoneBut _ _ _ (by decide +kernel)) |>.1 (by decide +kernel)
  have d := (h (office [member 1 .live, under 2 .failed none, member 3 .live, member 4 .live]) ⟨100, 0, [2, 3]⟩ 2 (lists .live 0).bytes (lists .live 0) (hears _ _ _ _ _ (by decide +kernel)) (bringsLists _ _ (by decide +kernel)) (noRequests _ (by decide +kernel))).2.2.1 (by decide +kernel) (by decide +kernel) (by decide +kernel) (holdsNoneBut _ _ _ (by decide +kernel)) |>.2 (by decide +kernel) (othersUp _ _ (by decide +kernel)) (by exact ⟨under 2 .failed none, by decide +kernel⟩)
  have e := (h (office [member 1 .live, under 2 .failed (some 3), member 3 .live, member 4 .live]) ⟨100, 0, [2, 3]⟩ 2 (lists .reclaiming 0).bytes (lists .reclaiming 0) (hears _ _ _ _ _ (by decide +kernel)) (bringsLists _ _ (by decide +kernel)) (noRequests _ (by decide +kernel))).2.2.2.1 (by decide +kernel) (by decide +kernel) (by decide +kernel) (by decide +kernel) (holdsNoneBut _ _ _ (by decide +kernel))
  have f := (h joiningOnce ⟨100, 0, [2, 3]⟩ 2 (lists .joining 0).bytes (lists .joining 0) (hears _ _ _ _ _ (by decide +kernel)) (bringsLists _ _ (by decide +kernel)) (noRequests _ (by decide +kernel))).2.2.2.2 (by decide +kernel) (by decide +kernel) (by decide +kernel) (by decide +kernel)
  exact ⟨⟨_, a⟩, ⟨_, b⟩, ⟨_, b'⟩, ⟨_, c⟩, ⟨_, d⟩, ⟨_, e⟩, ⟨_, f⟩⟩

/-- Peer 2 agrees, or does not, that ward 3 is silent. -/
def agreed (agrees : Bool) (ward : View) (custody : StationSet) (d : Declaration) : State := on live fun x => { x with
  ctl.image := some { image with quorum := 2 },
  cust := { x.cust with
    custody := custody, declaration := d,
    map := [member 1 .live, { member 2 .live with silence := if agrees then 0x0008 else 0 },
      { member 3 ward with custodian := some 1 }] } }
def ended (s : State) : State := atEnd s 1
def standbyOf (l : List StandbyRec) (active : List Record) : State := on (agreed true .silent 0x0008 .none) fun x =>
  { x with
    subs := { x.subs with standby := l, active := active }, cust.retryDelay := some 7 }

theorem witness_DeclarationFollowsTheQuorum (h : Obligations.DeclarationFollowsTheQuorum) :
    Answers (exec .roundEnd (ended (agreed true .silent 0 Declaration.none))) ∧
    Answers (exec .roundEnd (ended (agreed false .silent 0 Declaration.none))) ∧
    Answers (exec .roundEnd (ended (agreed true .foreign 8 Declaration.none))) ∧
    Answers (exec .roundEnd (ended (agreed true .silent 0 Declaration.pending))) ∧
    Answers (exec .roundEnd (ended (standbyOf [] []))) ∧
    Answers (exec .roundEnd (ended (standbyOf [copy .returned] [{ admin := { sub := admin.sub, addr := 88, pagerClass := admin.pagerClass, tariff := admin.tariff, plan := admin.plan, zones := admin.zones, service := admin.service, quota := admin.quota, threshold := admin.threshold : Admin }, origin := record.origin, home := record.home, returning := record.returning, nextTag := record.nextTag, queue := record.queue, lastZone := record.lastZone, meter := record.meter : Record }]))) ∧
    Answers (exec .roundEnd (ended (standbyOf [copy .unadopted] []))) ∧
    Answers (exec .roundEnd (ended (standbyOf [copy .returned] [record]))) ∧
    Answers (exec .roundFrameSend (inOwn (agreed true .silent 0 Declaration.pending) 3)) ∧
    Answers (exec .roundFrameSend (inOwn (agreed true .foreign 0 Declaration.pending) 3)) := by
  have a := (h.1 (ended (agreed true .silent 0 .none)) ⟨100, 1, []⟩ 2 (roundEnds _ _ (by decide +kernel)) (by decide +kernel) (by decide +kernel) (by decide +kernel) (by decide +kernel) (by decide +kernel) (by decide +kernel) (by exact nofun)).1 (by decide +kernel) |>.1 (by decide +kernel) (by decide +kernel) (by decide +kernel) (by decide +kernel)
  have b := (h.1 (ended (agreed false .silent 0 .none)) ⟨100, 1, []⟩ 2 (roundEnds _ _ (by decide +kernel)) (by decide +kernel) (by decide +kernel) (by decide +kernel) (by decide +kernel) (by decide +kernel) (by decide +kernel) (by exact nofun)).1 (by decide +kernel) |>.2.1 (by exact .inr (by decide +kernel))
  have b' := (h.1 (ended (agreed true .foreign 0x0008 .none)) ⟨100, 1, []⟩ 2 (roundEnds _ _ (by decide +kernel)) (by decide +kernel) (by decide +kernel) (by decide +kernel) (by decide +kernel) (by decide +kernel) (by decide +kernel) (by exact nofun)).1 (by decide +kernel) |>.2.1 (by exact .inl (by decide +kernel))
  have c := (h.1 (ended (agreed true .silent 0 .pending)) ⟨100, 1, []⟩ 2 (roundEnds _ _ (by decide +kernel)) (by decide +kernel) (by decide +kernel) (by decide +kernel) (by decide +kernel) (by decide +kernel) (by decide +kernel) (by exact nofun)).1 (by decide +kernel) |>.2.2 (by decide +kernel) (by decide +kernel)
  have d := (h.1 (ended (standbyOf [] [])) ⟨100, 1, []⟩ 2 (roundEnds _ _ (by decide +kernel)) (by decide +kernel) (by decide +kernel) (by decide +kernel) (by decide +kernel) (by decide +kernel) (by decide +kernel) (by exact nofun)).2 (by decide +kernel) (by decide +kernel) (by decide +kernel) (by decide +kernel) (by decide +kernel) (othersUp _ _ (by decide +kernel)) (by decide +kernel) |>.1 (by decide +kernel)
  have e := (h.1 (ended (standbyOf [copy .returned] [{ record with admin := { admin with addr := 88 } }])) ⟨100, 1, []⟩ 2 (roundEnds _ _ (by decide +kernel)) (by decide +kernel) (by decide +kernel) (by decide +kernel) (by decide +kernel) (by decide +kernel) (by decide +kernel) (by exact nofun)).2 (by decide +kernel) (by decide +kernel) (by decide +kernel) (by decide +kernel) (by decide +kernel) (othersUp _ _ (by decide +kernel)) (by decide +kernel) |>.2 (copy .returned) (by decide +kernel) |>.1 (by exact .inr (by decide +kernel))
  have e' := (h.1 (ended (standbyOf [copy .unadopted] [])) ⟨100, 1, []⟩ 2 (roundEnds _ _ (by decide +kernel)) (by decide +kernel) (by decide +kernel) (by decide +kernel) (by decide +kernel) (by decide +kernel) (by decide +kernel) (by exact nofun)).2 (by decide +kernel) (by decide +kernel) (by decide +kernel) (by decide +kernel) (by decide +kernel) (othersUp _ _ (by decide +kernel)) (by decide +kernel) |>.2 (copy .unadopted) (by decide +kernel) |>.1 (by exact .inl (by decide +kernel))
  have f := (h.1 (ended (standbyOf [copy .returned] [record])) ⟨100, 1, []⟩ 2 (roundEnds _ _ (by decide +kernel)) (by decide +kernel) (by decide +kernel) (by decide +kernel) (by decide +kernel) (by decide +kernel) (by decide +kernel) (by exact nofun)).2 (by decide +kernel) (by decide +kernel) (by decide +kernel) (by decide +kernel) (by decide +kernel) (othersUp _ _ (by decide +kernel)) (by decide +kernel) |>.2 (copy .returned) (by decide +kernel) |>.2 (by decide +kernel) (by decide +kernel)
  have g := (h.2 (inOwn (agreed true .silent 0 .pending) 3) ⟨100, 3, [1, 2, 3]⟩ (inside _ _ (by decide +kernel) (by decide +kernel)) (by decide +kernel) (by decide +kernel) (by decide +kernel) (by decide +kernel)).1 (by decide +kernel)
  have i := (h.2 (inOwn (agreed true .foreign 0 .pending) 3) ⟨100, 3, [1, 2, 3]⟩ (inside _ _ (by decide +kernel) (by decide +kernel)) (by decide +kernel) (by decide +kernel) (by decide +kernel) (by decide +kernel)).2 (by decide +kernel)
  exact ⟨⟨_, a⟩, ⟨_, b⟩, ⟨_, b'⟩, ⟨_, c⟩, ⟨_, d⟩, ⟨_, e⟩, ⟨_, e'⟩, ⟨_, f⟩, ⟨_, g⟩, ⟨_, i⟩⟩

/-- Station 1 holds ward 3 and has a record, a message, a walk and a page. -/
def laden (s : State) : State := on s fun x => { x with
  subs := { x.subs with
    active := [record], standby := [copy .plain], standbyComplete := true, grant := .drain,
    drain := .running none, ret := .waiting, mirror := .restartWait 3 },
  store := { x.store with
    messages := [message 4 .ready none], normal := [4], outcomes := [(3, .expired)] },
  meter.charged := 26,
  air := { x.air with
    claims := [claim 1 0 none], buffer := [page 0 100], maps := [⟨101, []⟩], abstain := [100] },
  bill := { x.bill with pendingClose := some 4, forming := part 2 },
  cust := { x.cust with
    custody := 0x0008, retryDelay := some 3,
    map := [member 1 .live, member 2 .live, { member 3 .failed with custodian := some 1 }] } }
/-- Peers 3 to 5 are FAILED, the buddies of 3 and 4 among them, and 4 has a custodian. -/
def ruinous : State := on (laden live) fun x => { x with
  ctl.image := some { image with roster := 0x003E },
  cust := { x.cust with
    custody := 0x0028,
    map := [member 1 .live, member 2 .live, { member 3 .failed with custodian := some 1 },
      { member 4 .failed with custodian := some 5 }, { member 5 .failed with custodian := some 1 }] } }
def deposing : RoundFrame := { lists .live 0x0002 with silence := 0x0002 }
def awaitingReply (n : Nat) (s : State) : State := line0 (pending s [entry 7 .awaiting]) fun x =>
  { x.withCtx 3 { state := .awaiting, buffer := [], gen := 0 } with replies := List.replicate n ⟨5, 0, str "O"⟩ }

theorem witness_StandDownClearsTheStation (h : Obligations.StandDownClearsTheStation) :
    Answers (exec (.windowReading 2 deposing.bytes) (inBuddy (laden live) 0)) ∧
    Answers (exec (.windowReading 2 deposing.bytes) (inBuddy (awaitingReply 8 (laden live)) 0)) ∧
    Answers (exec (.windowReading 2 deposing.bytes) (inBuddy (awaitingReply 7 (laden live)) 0)) ∧
    Answers (exec (.windowReading 2 deposing.bytes) (inBuddy (joining live) 0)) ∧
    Answers (exec (.windowReading 2 deposing.bytes) (inBuddy ruinous 0)) := by
  have a := (h (inBuddy (laden live) 0) ⟨100, 0, [2, 3]⟩ 2 deposing.bytes deposing (hears _ _ _ _ _ (by decide +kernel)) (bringsLists _ _ (by decide +kernel)) (by decide +kernel) (by decide +kernel) (by decide +kernel) (by decide +kernel) (by decide +kernel) (holdsNoneBut _ _ _ (by decide +kernel))).1 (by decide +kernel) (by decide +kernel) (by exact nofun)
  have b := (h (inBuddy (awaitingReply 8 (laden live)) 0) ⟨100, 0, [2, 3]⟩ 2 deposing.bytes deposing (hears _ _ _ _ _ (by decide +kernel)) (bringsLists _ _ (by decide +kernel)) (by decide +kernel) (by decide +kernel) (by decide +kernel) (by decide +kernel) (by decide +kernel) (holdsNoneBut _ _ _ (by decide +kernel))).1 (by decide +kernel) (by decide +kernel) (by exact fun e he => by rcases List.mem_singleton.1 he with rfl; exact .inr (.inr (by decide +kernel)))
  have c := (h (inBuddy (awaitingReply 7 (laden live)) 0) ⟨100, 0, [2, 3]⟩ 2 deposing.bytes deposing (hears _ _ _ _ _ (by decide +kernel)) (bringsLists _ _ (by decide +kernel)) (by decide +kernel) (by decide +kernel) (by decide +kernel) (by decide +kernel) (by decide +kernel) (holdsNoneBut _ _ _ (by decide +kernel))).2.1 (by decide +kernel) (by decide +kernel) (entry 7 .awaiting) (by decide +kernel) (by exact nofun) (replyFits _ _ (by decide +kernel))
  have d := (h (inBuddy (joining live) 0) ⟨100, 0, [2, 3]⟩ 2 deposing.bytes deposing (hears _ _ _ _ _ (by decide +kernel)) (bringsLists _ _ (by decide +kernel)) (by decide +kernel) (by decide +kernel) (by decide +kernel) (by decide +kernel) (by decide +kernel) (holdsNoneBut _ _ _ (by decide +kernel))).2.2 (by decide +kernel) (noRequests _ (by decide +kernel)) (by decide +kernel)
  have e := (h (inBuddy ruinous 0) ⟨100, 0, [2, 3]⟩ 2 deposing.bytes deposing (hears _ _ _ _ _ (by decide +kernel)) (bringsLists _ _ (by decide +kernel)) (by decide +kernel) (by decide +kernel) (by decide +kernel) (by decide +kernel) (by decide +kernel) (holdsNoneBut _ _ _ (by decide +kernel))).1 (by decide +kernel) (by decide +kernel) (by exact nofun)
  exact ⟨(a.imp fun _ p => p.1), (b.imp fun _ p => p.1), (c.imp fun _ p => p.1), ⟨_, d⟩, (e.imp fun _ p => p.1)⟩

/-- The ward's view, its custodian, the custody list, the grant and the walk. -/
def awaited (v : View) (c : Option Station) (custody : StationSet) (g : Grant) (r : ReturnWalk) : State := inWard (on live fun x =>
  { x with
    cust := { x.cust with
      custody := custody, retryDelay := some 5,
      map := [member 1 .live, member 2 .live, { member 3 v with custodian := c }] },
    req.cache := [(3000001, 3)], bus.memory := x.bus.memory.set 3 [9],
    subs := { x.subs with grant := g, ret := r, active := [adopted], standby := [copy .returned] } }) 0
def joins : RoundFrame := wardSays .joining 0 0 0 []
def back : RoundFrame := wardSays .live 0 0 0 []

theorem witness_ReturnWalkIsRequestedByTheWard (h : Obligations.ReturnWalkIsRequestedByTheWard) :
    Answers (exec (.windowReading 3 joins.bytes) (awaited .failed (some 1) 8 .nobody .idle)) ∧
    Answers (exec (.windowReading 3 joins.bytes) (awaited .joining (some 3) 0 .drain .idle)) ∧
    Answers (exec (.windowReading 3 joins.bytes) (awaited .live (some 1) 8 .ret (.running .revisit none))) ∧
    Answers (exec (.windowReading 3 joins.bytes) (closingWith (some 4) (awaited .live (some 1) 8 .ret (.running .revisit none)))) ∧
    Answers (exec (.windowReading 3 back.bytes) (awaited .silent (some 1) 8 .nobody .idle)) ∧
    Answers (exec (.windowReading 3 back.bytes) (awaited .foreign (some 1) 8 .drain .idle)) := by
  have a := (h.1 (awaited .failed (some 1) 0x0008 .nobody .idle) ⟨100, 0, [3]⟩ 3 joins.bytes joins (hears _ _ _ _ _ (by decide +kernel)) (bringsLists _ _ (by decide +kernel)) (by decide +kernel) (by decide +kernel) (noRequests _ (by decide +kernel)) (othersUp _ _ (by decide +kernel)) (holdsNoneBut _ _ _ (by decide +kernel))).1 (by decide +kernel) (by decide +kernel) (by exact ⟨{ member 3 .failed with custodian := some 1 }, by decide +kernel⟩) |>.1 (by exact nofun) (by decide +kernel)
  have b := (h.1 (awaited .joining (some 3) 0 .drain .idle) ⟨100, 0, [3]⟩ 3 joins.bytes joins (hears _ _ _ _ _ (by decide +kernel)) (bringsLists _ _ (by decide +kernel)) (by decide +kernel) (by decide +kernel) (noRequests _ (by decide +kernel)) (othersUp _ _ (by decide +kernel)) (holdsNoneBut _ _ _ (by decide +kernel))).1 (by decide +kernel) (by decide +kernel) (by exact ⟨member 3 .joining, by decide +kernel⟩) |>.2.1 (by exact nofun) (by decide +kernel)
  have c := (h.1 (awaited .live (some 1) 0x0008 .ret (.running .revisit none)) ⟨100, 0, [3]⟩ 3 joins.bytes joins (hears _ _ _ _ _ (by decide +kernel)) (bringsLists _ _ (by decide +kernel)) (by decide +kernel) (by decide +kernel) (noRequests _ (by decide +kernel)) (othersUp _ _ (by decide +kernel)) (holdsNoneBut _ _ _ (by decide +kernel))).1 (by decide +kernel) (by decide +kernel) (by exact ⟨{ member 3 .live with custodian := some 1 }, by decide +kernel⟩) |>.2.2 .revisit none (by decide +kernel) |>.1 (by decide +kernel)
  have d := (h.1 (closingWith (some 4) (awaited .live (some 1) 0x0008 .ret (.running .revisit none))) ⟨100, 0, [3]⟩ 3 joins.bytes joins (hears _ _ _ _ _ (by decide +kernel)) (bringsLists _ _ (by decide +kernel)) (by decide +kernel) (by decide +kernel) (noRequests _ (by decide +kernel)) (othersUp _ _ (by decide +kernel)) (holdsNoneBut _ _ _ (by decide +kernel))).1 (by decide +kernel) (by decide +kernel) (by exact ⟨{ member 3 .live with custodian := some 1 }, by decide +kernel⟩) |>.2.2 .revisit none (by decide +kernel) |>.2 4 (by decide +kernel)
  have e := (h.1 (awaited .silent (some 1) 0x0008 .nobody .idle) ⟨100, 0, [3]⟩ 3 back.bytes back (hears _ _ _ _ _ (by decide +kernel)) (bringsLists _ _ (by decide +kernel)) (by decide +kernel) (by decide +kernel) (noRequests _ (by decide +kernel)) (othersUp _ _ (by decide +kernel)) (holdsNoneBut _ _ _ (by decide +kernel))).2 (by decide +kernel) (by exact .inl (by decide +kernel)) (by decide +kernel) (by decide +kernel) (by decide +kernel) |>.1 (by decide +kernel)
  have f := (h.1 (awaited .foreign (some 1) 0x0008 .drain .idle) ⟨100, 0, [3]⟩ 3 back.bytes back (hears _ _ _ _ _ (by decide +kernel)) (bringsLists _ _ (by decide +kernel)) (by decide +kernel) (by decide +kernel) (noRequests _ (by decide +kernel)) (othersUp _ _ (by decide +kernel)) (holdsNoneBut _ _ _ (by decide +kernel))).2 (by decide +kernel) (by exact .inr (by decide +kernel)) (by decide +kernel) (by decide +kernel) (by decide +kernel) |>.2 (by decide +kernel)
  exact ⟨⟨_, a⟩, ⟨_, b⟩, ⟨_, c⟩, ⟨_, d⟩, ⟨_, e⟩, ⟨_, f⟩⟩

def revisiting (n : Nat) (l : List Record) : State := atEnd (walks n (.running .revisit none) .idle l) 0

theorem witness_ReturnWalkIsRequestedByTheWard_revisit (h : Obligations.ReturnWalkIsRequestedByTheWard) :
    Answers (exec .roundEnd (revisiting 3 [record])) ∧
    Answers (exec .roundEnd (revisiting 3 [leaving 3000001 [4]])) ∧
    Answers (exec .roundEnd (revisiting 32 [leaving 3000001 []])) ∧
    Answers (exec .roundEnd (revisiting 31 [leaving 3000001 []])) ∧
    Answers (exec .roundEnd (noted (revisiting 0 [leaving 3000001 []]) [retNote])) := by
  have a := (h.2 (revisiting 3 [record]) ⟨100, 0, []⟩ 1 none record (roundEnds _ _ (by decide +kernel)) (by decide +kernel) (by decide +kernel) (by decide +kernel) (by decide +kernel) (by decide +kernel) (by decide +kernel) (by decide +kernel) (by exact nofun) (by decide +kernel) (alone _ (by decide +kernel))).1 (by decide +kernel)
  have b := (h.2 (revisiting 3 [leaving 3000001 [4]]) ⟨100, 0, []⟩ 1 none (leaving 3000001 [4]) (roundEnds _ _ (by decide +kernel)) (by decide +kernel) (by decide +kernel) (by decide +kernel) (by decide +kernel) (by decide +kernel) (by decide +kernel) (by decide +kernel) (by exact nofun) (by decide +kernel) (alone _ (by decide +kernel))).2 (by decide +kernel) (by decide +kernel) (by decide +kernel) |>.1 (by exact .inl (by decide +kernel))
  have c := (h.2 (revisiting 32 [leaving 3000001 []]) ⟨100, 0, []⟩ 1 none (leaving 3000001 []) (roundEnds _ _ (by decide +kernel)) (by decide +kernel) (by decide +kernel) (by decide +kernel) (by decide +kernel) (by decide +kernel) (by decide +kernel) (by decide +kernel) (by exact nofun) (by decide +kernel) (alone _ (by decide +kernel))).2 (by decide +kernel) (by decide +kernel) (by decide +kernel) |>.1 (by exact .inr (.inr (by decide +kernel)))
  have d := (h.2 (revisiting 31 [leaving 3000001 []]) ⟨100, 0, []⟩ 1 none (leaving 3000001 []) (roundEnds _ _ (by decide +kernel)) (by decide +kernel) (by decide +kernel) (by decide +kernel) (by decide +kernel) (by decide +kernel) (by decide +kernel) (by decide +kernel) (by exact nofun) (by decide +kernel) (alone _ (by decide +kernel))).2 (by decide +kernel) (by decide +kernel) (by decide +kernel) |>.2 (by decide +kernel) (by decide +kernel) (by decide +kernel)
  have e := (h.2 (noted (revisiting 0 [leaving 3000001 []]) [retNote]) ⟨100, 0, []⟩ 1 none (leaving 3000001 []) (roundEnds _ _ (by decide +kernel)) (by decide +kernel) (by decide +kernel) (by decide +kernel) (by decide +kernel) (by decide +kernel) (by decide +kernel) (by decide +kernel) (by exact nofun) (by decide +kernel) (alone _ (by decide +kernel))).2 (by decide +kernel) (by decide +kernel) (by decide +kernel) |>.1 (by exact .inr (.inl (by decide +kernel)))
  exact ⟨⟨_, a⟩, ⟨_, b⟩, ⟨_, c⟩, ⟨_, d⟩, ⟨_, e⟩⟩

def buddySays (period : Period) : RoundFrame := { lists .live 0 with period := period }
def waking (m : MirrorWalk) (outbox : List Note) : State := on (inBuddy (noted (viewing live .reclaiming .live) outbox) 0) fun x => { x with subs.mirror := m }
def granted (g : Grant) (p : Option Period) : State := closingWith p (inBuddy (busy g .idle) 0)

theorem witness_LivePeersStartTheWalks (h : Obligations.LivePeersStartTheWalks) :
    Answers (exec (.windowReading 2 (buddySays 0).bytes) (waking .idle [])) ∧
    Answers (exec (.windowReading 2 (buddySays 0).bytes) (waking (.running none false true) [sentNote (.mirrorEnd false), note (.mirrorRemove 5)])) ∧
    Answers (exec (.windowReading 2 (buddySays 32767).bytes) (inBuddy (joining live) 0)) ∧
    Answers (exec (.windowReading 2 (buddySays 3).bytes) (granted .nobody none)) ∧
    Answers (exec (.windowReading 2 (buddySays 3).bytes) (granted .drain none)) ∧
    Answers (exec (.windowReading 2 (buddySays 3).bytes) (granted .ret (some 5))) ∧
    Answers (exec (.windowReading 2 (buddySays 3).bytes) (granted .ret (some 2))) := by
  have a := (h (waking .idle []) ⟨100, 0, [2, 3]⟩ 2 (buddySays 0).bytes (buddySays 0) (hears _ _ _ _ _ (by decide +kernel)) (by decide +kernel) (by decide +kernel)).1 (by decide +kernel) (by decide +kernel) (by decide +kernel) (by decide +kernel) (by decide +kernel) (by decide +kernel) (by decide +kernel) (by exact nofun) (by decide +kernel) (by decide +kernel) (by exact nofun) (othersUp _ _ (by decide +kernel)) (holdsNoneBut _ _ _ (by decide +kernel)) (by exact .inl (by decide +kernel))
  have b := (h (waking (.running none false true) [sentNote (.mirrorEnd false), note (.mirrorRemove 5)]) ⟨100, 0, [2, 3]⟩ 2 (buddySays 0).bytes (buddySays 0) (hears _ _ _ _ _ (by decide +kernel)) (by decide +kernel) (by decide +kernel)).1 (by decide +kernel) (by decide +kernel) (by decide +kernel) (by decide +kernel) (by decide +kernel) (by decide +kernel) (by decide +kernel) (by exact nofun) (by decide +kernel) (by decide +kernel) (by exact nofun) (othersUp _ _ (by decide +kernel)) (holdsNoneBut _ _ _ (by decide +kernel)) (by exact .inr ⟨by decide +kernel, none, false, true, rfl⟩)
  have c := (h (inBuddy (joining live) 0) ⟨100, 0, [2, 3]⟩ 2 (buddySays 32767).bytes (buddySays 32767) (hears _ _ _ _ _ (by decide +kernel)) (by decide +kernel) (by decide +kernel)).2 (keepsTheMap _ _ _ (by decide +kernel)) (by decide +kernel) (by decide +kernel) |>.1 (by decide +kernel)
  have d := (h (granted .nobody none) ⟨100, 0, [2, 3]⟩ 2 (buddySays 3).bytes (buddySays 3) (hears _ _ _ _ _ (by decide +kernel)) (by decide +kernel) (by decide +kernel)).2 (keepsTheMap _ _ _ (by decide +kernel)) (by decide +kernel) (by decide +kernel) |>.2 (by decide +kernel) |>.1 (by decide +kernel)
  have e := (h (granted .drain none) ⟨100, 0, [2, 3]⟩ 2 (buddySays 3).bytes (buddySays 3) (hears _ _ _ _ _ (by decide +kernel)) (by decide +kernel) (by decide +kernel)).2 (keepsTheMap _ _ _ (by decide +kernel)) (by decide +kernel) (by decide +kernel) |>.2 (by decide +kernel) |>.2 (by decide +kernel) |>.1 (by decide +kernel)
  have f := (h (granted .ret (some 5)) ⟨100, 0, [2, 3]⟩ 2 (buddySays 3).bytes (buddySays 3) (hears _ _ _ _ _ (by decide +kernel)) (by decide +kernel) (by decide +kernel)).2 (keepsTheMap _ _ _ (by decide +kernel)) (by decide +kernel) (by decide +kernel) |>.2 (by decide +kernel) |>.2 (by decide +kernel) |>.2 5 (by decide +kernel)
  have g := (h (granted .ret (some 2)) ⟨100, 0, [2, 3]⟩ 2 (buddySays 3).bytes (buddySays 3) (hears _ _ _ _ _ (by decide +kernel)) (by decide +kernel) (by decide +kernel)).2 (keepsTheMap _ _ _ (by decide +kernel)) (by decide +kernel) (by decide +kernel) |>.2 (by decide +kernel) |>.2 (by decide +kernel) |>.2 2 (by decide +kernel)
  exact ⟨⟨_, a⟩, ⟨_, b⟩, ⟨_, c⟩, ⟨_, d⟩, ⟨_, e⟩, ⟨_, f⟩, ⟨_, g⟩⟩

theorem witness_EveryStepKeepsTheLinesWithinTheirCapacities
    (h : Obligations.EveryStepKeepsTheLinesWithinTheirCapacities) :
    ∀ t, step { received 5 .collecting with pending := [.characterReceived 0 0x42 false true true] } = .next t →
      LinesOk t.stn :=
  fun t e => h _ t (by unfold LinesOk Line.ok; decide +kernel) e

theorem witness_EveryStepKeepsTheCapacities (h : Obligations.EveryStepKeepsTheCapacities) :
    ∀ t, step { billed 3 guest with pending := [.withdraw (.peer 2 7) 1000001] } = .next t → Capacities t.stn :=
  fun t e => h _ t (by unfold Capacities; decide +kernel) e

/-- The record's units are charged. -/
def balanced : State := on only fun x => { x with meter.charged := 26 }

theorem witness_EveryStepKeepsTheLawOfUnits (h : Obligations.EveryStepKeepsTheLawOfUnits) :
    ∀ t, step { balanced with pending := [.periodClose 0 3] } = .next t → UnitsInv t :=
  fun t e => h _ t (by unfold UnitsInv ActiveUnique GrantOk UnitsBalance; decide +kernel) e

/-! ### Results of the worked examples -/

/-- A claim of the example of section 7.4. -/
def exampleClaim (k : Station) (number : Nat) (urgent : Bool) (slots : Nat) : Station × Claim :=
  (k, { target := 1203, urgent := urgent, slots := slots, number := number, message := none })

/-- The eleven claims of the example, in the order of its table. -/
def exampleClaims : List (Station × Claim) :=
  [exampleClaim 5 0 true 1, exampleClaim 9 0 true 3, exampleClaim 2 0 true 2, exampleClaim 4 0 false 4,
   exampleClaim 4 1 false 5, exampleClaim 5 1 false 3, exampleClaim 6 0 false 5, exampleClaim 6 1 false 5,
   exampleClaim 6 2 false 2, exampleClaim 2 1 false 5, exampleClaim 2 2 false 1]

/-- The first slots that the example's table gives; the tenth claim is lost. -/
theorem test_exampleSlotMap : (assignSlots 0 exampleClaims).map (·.1) = [0, 1, 4, 6, 10, 15, 18, 23, 28, 30] := by
  decide

/-- The rotation of the example starts behind station 3 (R130). -/
theorem test_exampleRotation : rotated 0x0274 1203 = [4, 5, 6, 9, 2] := by decide +kernel

/-- The largest total of each scale, and the first that is limited (R182). -/
theorem test_scales :
    [65535, 65536, 1048575, 1048576, 16777215, 16777216, 268435455].map (fun n => scaleOf (big n)) =
      [0, 1, 1, 2, 2, 3, 3] ∧
    isLimited (scaleOf (big 268435455)) 268435455 = false ∧
    isLimited (scaleOf (big 268435456)) 268435456 = true := by decide +kernel

/-- The buddies and wards of a roster (R16). -/
theorem test_buddies : [2, 4, 5, 6, 9].map (buddyOf 0x0274) = [4, 5, 6, 9, 2] ∧
    [2, 4, 5, 6, 9].map (wardOf 0x0274) = [9, 2, 4, 5, 6] := by decide +kernel

/-- A round frame reads back from its bytes. -/
theorem test_roundFrameReadsBack :
    readFrame 0x000E (spoken 1207 0 [(1, 6)] [wire 1 (.ret admin 4 (some 2) record.meter)]).bytes =
      some (spoken 1207 0 [(1, 6)] [wire 1 (.ret admin 4 (some 2) record.meter)]) := by decide +kernel

/-- A receipt is written as the spec's example writes it. -/
theorem test_receiptText : receiptText 3 417 = str "3-00417" := by decide +kernel

/-- Entry 7's FORWARD to the ward has the last outbox place, and entry 8 waits for one. -/
def brimful : State :=
  noted
    (pending (holding live [record])
      [{ entry 7 .sending with request := some (.suspend 1000001), route := .home 3, target := some 3 }, entry 8 .sending])
    (List.replicate 31 (note (.mirrorRemove 5)) ++ [Note.fresh 3 (.forward 7 (str "S/1000001")) (.home 3) .none])

/-- The ward's first JOINING frame hands entry 7 back for execution: its MIRROR takes the place that the FORWARD
leaves, and entry 8, whose turn comes when the frame has been handled, gets none (R24). -/
theorem test_handedBackMirrorTakesThePlace :
    (match exec (.windowReading 3 { spoken 1207 0 [] [] with sender := 3, state := .joining, claims := [] }.bytes)
        (inWard brimful 0) with
      | .next t => some (t.stn.bus.outbox, t.stn.subs.mirror)
      | _ => none) =
    some (List.replicate 31 (note (.mirrorRemove 5)) ++
      [note (.mirror false { admin with service := .suspended } 9)], .idle) := by decide +kernel


end Sys2Proof.Tests
end

section
/-!
SUPPORT. The take queue of R31: every operation but the frame of this station's own window, the restart and the
reading of a peer's notes leaves it as it is; a peer's notes only add to its end.
-/

namespace Sys2Proof.Machine

/-! ### The outbox and the notes of administrative changes -/

/-- Steps that each keep the queue keep it together. -/
theorem foldl_takes {α : Type} (f : Stn → α → Stn) (h : ∀ s a, (f s a).bus.takes = s.bus.takes) (l : List α)
    (s : Stn) : (l.foldl f s).bus.takes = s.bus.takes := by
  induction l generalizing s with
  | nil => rfl
  | cons a l ih => rw [List.foldl_cons, ih, h]

@[simp] theorem Stn.mirrorToRestart_takes (s : Stn) : s.mirrorToRestart.bus.takes = s.bus.takes := by
  unfold Stn.mirrorToRestart; split <;> rfl

@[simp] theorem Stn.handChange_takes (s : Stn) (body : NoteBody) :
    (s.handChange body).bus.takes = s.bus.takes := by
  unfold Stn.handChange; repeat' split
  all_goals simp

@[simp] theorem Stn.handMirror_takes (s : Stn) (sub : Nat) : (s.handMirror sub).bus.takes = s.bus.takes := by
  unfold Stn.handMirror; repeat' split
  all_goals simp

@[simp] theorem Stn.offerOne_takes (s : Stn) (e : PendEntry) : (s.offerOne e).bus.takes = s.bus.takes := by
  unfold Stn.offerOne; repeat' split
  all_goals simp

@[simp] theorem Stn.offerWaiting_takes (s : Stn) : s.offerWaiting.bus.takes = s.bus.takes :=
  foldl_takes _ Stn.offerOne_takes _ s

@[simp] theorem Stn.givePlaces_takes (s before : Stn) : (s.givePlaces before).bus.takes = s.bus.takes := by
  unfold Stn.givePlaces; split <;> simp

@[simp] theorem Stn.givePlacesAt_takes (w : Places) (s before : Stn) :
    (s.givePlacesAt w before).bus.takes = s.bus.takes := by
  cases w <;> simp

/-! ### Outcomes of messages, the meter and the drain walk -/

@[simp] theorem Stn.setService_takes (s : Stn) (sub : Nat) (v : Service) :
    (s.setService sub v).bus.takes = s.bus.takes := by
  simp [Stn.setService]

@[simp] theorem Stn.rollTest_takes (s : Stn) (sub : Nat) : (s.rollTest sub).bus.takes = s.bus.takes := by
  unfold Stn.rollTest; repeat' split
  all_goals simp

@[simp] theorem Stn.roll_takes (s : Stn) (sub : Nat) : (s.roll sub).bus.takes = s.bus.takes := by
  unfold Stn.roll; repeat' split
  all_goals simp

@[simp] theorem Stn.settle_takes (s : Stn) (sub : Nat) (origin : MsgOrigin) (reserved : Nat) (o : Outcome)
    (transmissions : Nat) : (s.settle sub origin reserved o transmissions).bus.takes = s.bus.takes := by
  unfold Stn.settle; dsimp only; repeat' split
  all_goals simp

@[simp] theorem Stn.finalOutcome_takes (s : Stn) (serial : Serial) (o : Outcome) :
    (s.finalOutcome serial o).bus.takes = s.bus.takes := by
  unfold Stn.finalOutcome; split <;> simp

@[simp] theorem Stn.endWait_takes (s : Stn) (serial : Serial) (register : Bool) :
    (s.endWait serial register).bus.takes = s.bus.takes := by
  unfold Stn.endWait; repeat' split
  all_goals simp

@[simp] theorem Stn.endCount_takes (s : Stn) (serial : Serial) : (s.endCount serial).bus.takes = s.bus.takes := by
  unfold Stn.endCount; repeat' split
  all_goals simp

@[simp] theorem Stn.expire_takes (s : Stn) (f : FrameNo) (serial : Serial) :
    (s.expire f serial).bus.takes = s.bus.takes := by
  unfold Stn.expire; repeat' split
  all_goals simp

@[simp] theorem Stn.offerOwed_takes (subs : List Nat) (s : Stn) :
    (Stn.offerOwed subs s).bus.takes = s.bus.takes := by
  induction subs generalizing s with
  | nil => rfl
  | cons sub rest ih =>
    unfold Stn.offerOwed
    split
    next h => simp [ih, Stn.createNotice_frame h]
    next => rfl

@[simp] theorem Stn.airFrameStart_takes (s : Stn) (f : FrameNo) (order : List Serial) :
    (s.airFrameStart f order).bus.takes = s.bus.takes := by
  unfold Stn.airFrameStart
  rw [foldl_takes _ fun s m => s.expire_takes f m, foldl_takes _ Stn.endCount_takes]
  simp

@[simp] theorem Stn.cancel_takes (s : Stn) (serial : Serial) : (s.cancel serial).1.bus.takes = s.bus.takes := by
  unfold Stn.cancel; repeat' split
  all_goals simp

@[simp] theorem Stn.advance_takes (s : Stn) (serial : Serial) : (s.advance serial).bus.takes = s.bus.takes := by
  unfold Stn.advance; dsimp only; repeat' split
  all_goals simp

@[simp] theorem Stn.complete_takes (s : Stn) (serial : Serial) : (s.complete serial).bus.takes = s.bus.takes := by
  unfold Stn.complete; repeat' split
  all_goals simp

@[simp] theorem Stn.completePage_takes (s : Stn) (serial : Serial) :
    (s.completePage serial).bus.takes = s.bus.takes := by
  simp [Stn.completePage]

@[simp] theorem Stn.endRun_takes (s : Stn) (p : Page) : (s.endRun p).bus.takes = s.bus.takes := rfl

@[simp] theorem Stn.markAirtime_takes (s : Stn) : s.markAirtime.bus.takes = s.bus.takes := by
  unfold Stn.markAirtime; exact foldl_takes _ Stn.completePage_takes _ _

@[simp] theorem Stn.drainRecord_takes (s : Stn) (sub : Nat) : (s.drainRecord sub).bus.takes = s.bus.takes := by
  unfold Stn.drainRecord; dsimp only; repeat' split
  all_goals simp

@[simp] theorem Stn.drainVisit_takes (s : Stn) : s.drainVisit.bus.takes = s.bus.takes := by
  unfold Stn.drainVisit; repeat' split
  all_goals simp

/-! ### Reports -/

@[simp] theorem Stn.acknowledge_takes (s : Stn) (m : Message) : (s.acknowledge m).bus.takes = s.bus.takes := by
  unfold Stn.acknowledge; repeat' split
  all_goals simp

@[simp] theorem Stn.register_takes (s : Stn) (r : Record) (z : Zone) :
    (s.register r z).bus.takes = s.bus.takes := by
  unfold Stn.register; dsimp only; repeat' split
  all_goals simp

theorem Stn.matchTag_takes (s : Stn) (r : Record) (tag : Tag) (act : Message → Stn)
    (h : ∀ m, (act m).bus.takes = s.bus.takes) : (s.matchTag r tag act).bus.takes = s.bus.takes := by
  unfold Stn.matchTag; repeat' split
  all_goals simp [h]

@[simp] theorem Stn.actOnRecord_takes (s : Stn) (r : Record) (q : Report) :
    (s.actOnRecord r q).bus.takes = s.bus.takes := by
  cases q with
  | received a tag => exact s.matchTag_takes r tag _ s.acknowledge_takes
  | full a tag => exact s.matchTag_takes r tag _ fun m => by simp
  | ready a => simp [Stn.actOnRecord]
  | register a z => exact s.register_takes r z

@[simp] theorem Stn.takeReport_takes (s : Stn) (q : Report) : (s.takeReport q).bus.takes = s.bus.takes := by
  unfold Stn.takeReport Stn.goodReport Stn.lookupReport; repeat' split
  all_goals simp

/-! ### Executions -/

@[simp] theorem Stn.moveService_takes (s : Stn) (r : Record) (v : Service) :
    (s.moveService r v).bus.takes = s.bus.takes := by
  unfold Stn.moveService; split <;> simp

@[simp] theorem Stn.submitFound_takes (s : Stn) (r : Record) (p : Priority) (body : List Byte) :
    (s.submitFound r p body).1.bus.takes = s.bus.takes := by
  unfold Stn.submitFound; dsimp only; repeat' split
  all_goals simp

@[simp] theorem Stn.amendFound_takes (s : Stn) (r : Record) (groups : List Group) :
    (s.amendFound r groups).1.bus.takes = s.bus.takes := by
  unfold Stn.amendFound; dsimp only; split <;> simp

/-- A withdraw that is made hands its MIRROR REMOVE and forms its block. -/
theorem Stn.withdraw_takes {s s' : Stn} {r : Record} (h : s.withdraw r = .ok s') :
    s'.bus.takes = s.bus.takes := by
  unfold Stn.withdraw at h; repeat' split at h
  all_goals cases h
  all_goals simp

@[simp] theorem Stn.withdrawFound_takes (s : Stn) (r : Record) :
    (s.withdrawFound r).1.bus.takes = s.bus.takes := by
  unfold Stn.withdrawFound
  split
  next h => exact Stn.withdraw_takes h
  next => rfl

@[simp] theorem Stn.enrolAbsent_takes (s : Stn) (h : Station) (a : Admin) :
    (s.enrolAbsent h a).1.bus.takes = s.bus.takes := by
  unfold Stn.enrolAbsent; dsimp only; repeat' split
  all_goals simp

/-- An execution by subscriber number keeps the queue where what is done on FOUND and on ABSENT keeps it. -/
theorem Stn.serve_takes (s : Stn) (sub : Nat) (onFound : Record → Stn × Result)
    (onAbsent : Station → Stn × Result) (hf : ∀ r, (onFound r).1.bus.takes = s.bus.takes)
    (ha : ∀ h, (onAbsent h).1.bus.takes = s.bus.takes) :
    (s.serve sub onFound onAbsent).1.bus.takes = s.bus.takes := by
  unfold Stn.serve; repeat' split
  all_goals simp only [hf, ha]

theorem Stn.serveReceipt_takes (s : Stn) (f : Stn × Result) (hf : f.1.bus.takes = s.bus.takes) :
    (s.serveReceipt f).1.bus.takes = s.bus.takes := by
  unfold Stn.serveReceipt; split <;> simp only [hf]

@[simp] theorem Stn.execute_takes (s : Stn) (q : Request) : (s.execute q).1.bus.takes = s.bus.takes := by
  cases q with
  | submit sub p body => exact s.serve_takes sub _ _ (fun r => s.submitFound_takes r p body) fun _ => rfl
  | cancel k serial => exact s.serveReceipt_takes _ (s.cancel_takes serial)
  | query k serial => exact s.serveReceipt_takes _ rfl
  | enrol sub addr cls t p z q n => exact s.serve_takes sub _ _ (fun _ => rfl) fun h => s.enrolAbsent_takes h _
  | amend sub groups => exact s.serve_takes sub _ _ (fun r => s.amendFound_takes r groups) fun _ => rfl
  | suspend sub => exact s.serve_takes sub _ _ (fun r => s.moveService_takes r _) fun _ => rfl
  | resume sub => exact s.serve_takes sub _ _ (fun r => s.moveService_takes r _) fun _ => rfl
  | withdraw sub => exact s.serve_takes sub _ _ s.withdrawFound_takes fun _ => rfl
  | meterRead sub => exact s.serve_takes sub _ _ (fun _ => rfl) fun _ => rfl
  | periodClose =>
    simp only [Stn.execute]
    split
    next h => simp [Stn.periodClose_frame h]
    next => rfl
  | status clear => cases clear <;> rfl

/-! ### The pending request table -/

@[simp] theorem Stn.dropForward_takes (s : Stn) (tag : Tag) : (s.dropForward tag).bus.takes = s.bus.takes := rfl

@[simp] theorem Stn.applyResult_takes (s : Stn) (tag : Tag) (res : Result) :
    (s.applyResult tag res).bus.takes = s.bus.takes := by
  unfold Stn.applyResult; repeat' split
  all_goals simp

@[simp] theorem Stn.runLocal_takes (w : Places) (s : Stn) (tag : Tag) :
    (s.runLocal w tag).bus.takes = s.bus.takes := by
  unfold Stn.runLocal; dsimp only; repeat' split
  all_goals simp

@[simp] theorem Stn.routeEntry_takes (s : Stn) (tag : Tag) : (s.routeEntry tag).bus.takes = s.bus.takes := by
  unfold Stn.routeEntry; repeat' split
  all_goals simp

@[simp] theorem Stn.handOff_takes (s : Stn) (l : LineNo) (c : CtxNo) (text : List Byte)
    (parsed : Except Word Request) : (s.handOff l c text parsed).bus.takes = s.bus.takes := by
  unfold Stn.handOff; split <;> simp

@[simp] theorem Stn.takeHandOver_takes (s : Stn) (l : LineNo) : (s.takeHandOver l).bus.takes = s.bus.takes := by
  unfold Stn.takeHandOver; split <;> simp

@[simp] theorem Stn.serveWaiting_takes (fuel : Nat) (s : Stn) :
    (Stn.serveWaiting fuel s).bus.takes = s.bus.takes := by
  induction fuel generalizing s with
  | zero => rfl
  | succ n ih =>
    unfold Stn.serveWaiting; repeat' split
    all_goals simp [ih]

@[simp] theorem Stn.settled_takes (s : Stn) : s.settled.bus.takes = s.bus.takes := Stn.serveWaiting_takes _ s

@[simp] theorem Stn.settledFrom_takes (s before : Stn) : (s.settledFrom before).bus.takes = s.bus.takes := by
  simp [Stn.settledFrom]

@[simp] theorem Stn.handAnswer_takes (s : Stn) (k : Station) (tag : Tag) (res : Result) :
    (s.handAnswer k tag res).bus.takes = s.bus.takes := by
  unfold Stn.handAnswer; split <;> simp

@[simp] theorem Stn.answerFor_takes (s : Stn) (k : Station) (tag : Tag) (parsed : Except Word Request) :
    (s.answerFor k tag parsed).bus.takes = s.bus.takes := by
  unfold Stn.answerFor; split <;> simp

@[simp] theorem Stn.bringByContext_takes (s : Stn) (l : LineNo) (c : CtxNo) (q : Request) :
    (s.bringByContext l c q).bus.takes = s.bus.takes := by
  unfold Stn.bringByContext; split <;> simp

@[simp] theorem Stn.bring_takes (s : Stn) (who : Requester) (q : Request) :
    (s.bring who q).bus.takes = s.bus.takes := by
  cases who with
  | context l c => exact s.bringByContext_takes l c q
  | peer k tag => unfold Stn.bring; dsimp only; split <;> simp

@[simp] theorem Stn.assemble_takes (s : Stn) (l : LineNo) (p : FifoEntry → Bool) (act : FifoEntry → Line → Line) :
    (s.assemble l p act).bus.takes = s.bus.takes := by
  unfold Stn.assemble; repeat' split
  all_goals simp

@[simp] theorem Stn.meetTerminator_takes (s : Stn) (l : LineNo) :
    (s.meetTerminator l).bus.takes = s.bus.takes := by
  unfold Stn.meetTerminator; repeat' split
  all_goals simp

@[simp] theorem Stn.transmit_takes (s : Stn) (l : LineNo) : (s.transmit l).bus.takes = s.bus.takes := by
  unfold Stn.transmit; dsimp only; repeat' split
  all_goals simp

@[simp] theorem Stn.replyDone_takes (s : Stn) (l : LineNo) : (s.replyDone l).bus.takes = s.bus.takes := by
  unfold Stn.replyDone; split <;> simp

/-! ### Custodians, views and walks -/

@[simp] theorem Stn.startMirror_takes (s : Stn) : s.startMirror.bus.takes = s.bus.takes := by
  unfold Stn.startMirror; split <;> rfl

@[simp] theorem Stn.redirect_takes (w : Places) (s : Stn) (h : Station) (tag : Tag) :
    (s.redirect w h tag).bus.takes = s.bus.takes := by
  unfold Stn.redirect; repeat' split
  all_goals simp

@[simp] theorem Stn.custodianChanged_takes (w : Places) (s : Stn) (h : Station) :
    (s.custodianChanged w h).bus.takes = s.bus.takes := by
  unfold Stn.custodianChanged; exact foldl_takes _ (fun s t => s.redirect_takes w h t) _ _

@[simp] theorem Stn.changeCustodian_takes (w : Places) (s : Stn) (h : Station) (c : Option Station) :
    (s.changeCustodian w h c).bus.takes = s.bus.takes := by
  unfold Stn.changeCustodian; split <;> simp

@[simp] theorem Stn.setCustodian_takes (w : Places) (s : Stn) (h : Station) (c : Option Station) :
    (s.setCustodian w h c).bus.takes = s.bus.takes := by
  unfold Stn.setCustodian; dsimp only; split <;> simp

@[simp] theorem Stn.clearReturnWalk_takes (s : Stn) : s.clearReturnWalk.bus.takes = s.bus.takes := rfl

@[simp] theorem Stn.abortReturn_takes (s : Stn) : s.abortReturn.bus.takes = s.bus.takes := by
  unfold Stn.abortReturn; split <;> simp

@[simp] theorem Stn.requestReturn_takes (w : Places) (s : Stn) : (s.requestReturn w).bus.takes = s.bus.takes := by
  unfold Stn.requestReturn; dsimp only; repeat' split
  all_goals simp

@[simp] theorem Stn.becomeLive_takes (w : Places) (s : Stn) : (s.becomeLive w).bus.takes = s.bus.takes := by
  unfold Stn.becomeLive; dsimp only; repeat' split
  all_goals simp

@[simp] theorem Stn.dropNotes_takes (s : Stn) (k : Station) : (s.dropNotes k).bus.takes = s.bus.takes := by
  unfold Stn.dropNotes; dsimp only; repeat' split
  all_goals simp

@[simp] theorem Stn.loseReceipts_takes (s : Stn) (k : Station) : (s.loseReceipts k).bus.takes = s.bus.takes := by
  unfold Stn.loseReceipts; exact foldl_takes _ (fun s t => by simp) _ _

@[simp] theorem Stn.holdNotes_takes (s : Stn) (k : Station) (v : View) :
    (s.holdNotes k v).bus.takes = s.bus.takes := rfl

@[simp] theorem Stn.viewNotes_takes (s : Stn) (k : Station) (v : View) :
    (s.viewNotes k v).bus.takes = s.bus.takes := by
  unfold Stn.viewNotes; dsimp only; repeat' split
  all_goals simp

@[simp] theorem Stn.viewReturn_takes (w : Places) (s : Stn) (k : Station) (old v : View) (episode : Bool) :
    (s.viewReturn w k old v episode).bus.takes = s.bus.takes := by
  unfold Stn.viewReturn; repeat' split
  all_goals simp

@[simp] theorem Stn.viewBuddy_takes (w : Places) (s : Stn) (k : Station) (v : View) :
    (s.viewBuddy w k v).bus.takes = s.bus.takes := by
  unfold Stn.viewBuddy; repeat' split
  all_goals simp

@[simp] theorem Stn.changeView_takes (w : Places) (s : Stn) (k : Station) (v : View) (episode : Bool) :
    (s.changeView w k v episode).bus.takes = s.bus.takes := by
  unfold Stn.changeView; split <;> simp

@[simp] theorem Stn.failCustodian_takes (w : Places) (s : Stn) (j : Station) :
    (s.failCustodian w j).bus.takes = s.bus.takes := by
  unfold Stn.failCustodian
  exact foldl_takes _ (fun s h => by split <;> simp) _ s

@[simp] theorem Stn.failView_takes (w : Places) (s : Stn) (k : Station) :
    (s.failView w k).bus.takes = s.bus.takes := by
  unfold Stn.failView; split <;> simp

@[simp] theorem Stn.bothDown_takes (w : Places) (fuel : Nat) (s : Stn) :
    (Stn.bothDown w fuel s).bus.takes = s.bus.takes := by
  induction fuel generalizing s with
  | zero => rfl
  | succ n ih => unfold Stn.bothDown; split <;> simp [ih]

@[simp] theorem Stn.doubleFailure_takes (w : Places) (s : Stn) : (s.doubleFailure w).bus.takes = s.bus.takes :=
  Stn.bothDown_takes w 16 s

@[simp] theorem Stn.enterLive_takes (w : Places) (s : Stn) : (s.enterLive w).bus.takes = s.bus.takes := by
  simp [Stn.enterLive]

@[simp] theorem Stn.setView_takes (w : Places) (s : Stn) (k : Station) (v : View) (episode : Bool) :
    (s.setView w k v episode).bus.takes = s.bus.takes := by
  unfold Stn.setView; dsimp only; repeat' split
  all_goals simp

@[simp] theorem Stn.adoptOne_takes (s : Stn) (b : StandbyRec) : (s.adoptOne b).bus.takes = s.bus.takes := by
  unfold Stn.adoptOne; split <;> simp

@[simp] theorem Stn.adopt_takes (s : Stn) : s.adopt.bus.takes = s.bus.takes := by
  unfold Stn.adopt
  rw [foldl_takes _ Stn.adoptOne_takes]
  simp

@[simp] theorem Stn.redeclare_takes (s : Stn) : s.redeclare.bus.takes = s.bus.takes := by
  unfold Stn.redeclare
  rw [foldl_takes _ Stn.adoptOne_takes]
  simp

@[simp] theorem Stn.redeclarationCheck_takes (s : Stn) : s.redeclarationCheck.bus.takes = s.bus.takes := by
  unfold Stn.redeclarationCheck; split <;> simp

@[simp] theorem Stn.countBuddyWait_takes (s : Stn) : s.countBuddyWait.bus.takes = s.bus.takes := by
  unfold Stn.countBuddyWait; dsimp only; repeat' split
  all_goals simp

@[simp] theorem Stn.countRetry_takes (s : Stn) : s.countRetry.bus.takes = s.bus.takes := by
  unfold Stn.countRetry Stn.retryOver; dsimp only; repeat' split
  all_goals simp

@[simp] theorem Stn.countRestart_takes (s : Stn) : s.countRestart.bus.takes = s.bus.takes := by
  unfold Stn.countRestart Stn.restartOver; repeat' split
  all_goals simp

@[simp] theorem Stn.handReturn_takes (s : Stn) (body : NoteBody) :
    (s.handReturn body).bus.takes = s.bus.takes := by
  unfold Stn.handReturn; split <;> simp

@[simp] theorem Stn.handMirrorWalk_takes (s : Stn) (body : NoteBody) :
    (s.handMirrorWalk body).bus.takes = s.bus.takes := by
  unfold Stn.handMirrorWalk; split <;> simp

@[simp] theorem Stn.returnVisit_takes (s : Stn) : s.returnVisit.bus.takes = s.bus.takes := by
  unfold Stn.returnVisit; dsimp only; repeat' split
  all_goals simp

@[simp] theorem Stn.returnStandbyVisit_takes (s : Stn) : s.returnStandbyVisit.bus.takes = s.bus.takes := by
  unfold Stn.returnStandbyVisit; repeat' split
  all_goals simp

@[simp] theorem Stn.revisitOne_takes (s : Stn) (sub : Nat) : (s.revisitOne sub).bus.takes = s.bus.takes := by
  unfold Stn.revisitOne; repeat' split
  all_goals simp

@[simp] theorem Stn.revisit_takes (s : Stn) : s.revisit.bus.takes = s.bus.takes := by
  simp [Stn.revisit, foldl_takes _ Stn.revisitOne_takes]

@[simp] theorem Stn.mirrorStep_takes (s : Stn) : s.mirrorStep.bus.takes = s.bus.takes := by
  unfold Stn.mirrorStep; repeat' split
  all_goals simp

@[simp] theorem Stn.reoffer_takes (s : Stn) : s.reoffer.bus.takes = s.bus.takes := by
  unfold Stn.reoffer; split <;> simp

@[simp] theorem Stn.returnEndTakenByWard_takes (s : Stn) : s.returnEndTakenByWard.bus.takes = s.bus.takes := by
  unfold Stn.returnEndTakenByWard; split <;> simp

/-- A stand-down empties the outbox and keeps the queued takes (R52). -/
@[simp] theorem Stn.standDown_takes (s : Stn) : s.standDown.bus.takes = s.bus.takes := by
  simp [Stn.standDown, Stn.loseCustody, foldl_takes]

/-! ### Marks, rounds and the notes resolved at a window's end -/

@[simp] theorem Stn.markBus_takes (s : Stn) : s.markBus.bus.takes = s.bus.takes := by
  unfold Stn.markBus; dsimp only; split <;> rfl

@[simp] theorem Stn.nextRound_takes (s : Stn) (r : RoundPos) : (s.nextRound r).bus.takes = s.bus.takes := by
  unfold Stn.nextRound; dsimp only; repeat' split
  all_goals rfl

@[simp] theorem Stn.passWindow_takes (s : Stn) (r : RoundPos) : (s.passWindow r).bus.takes = s.bus.takes := rfl

@[simp] theorem Stn.readNothing_takes (s : Stn) (p : Station) : (s.readNothing p).bus.takes = s.bus.takes := by
  unfold Stn.readNothing; dsimp only; split <;> simp

@[simp] theorem Stn.readForeign_takes (s : Stn) (p : Station) : (s.readForeign p).bus.takes = s.bus.takes := by
  unfold Stn.readForeign; dsimp only; split <;> simp

@[simp] theorem Stn.removeNote_takes (s : Stn) (p : Station) (serial : NoteSerial) :
    (s.removeNote p serial).bus.takes = s.bus.takes := rfl

@[simp] theorem Stn.noteTaken_takes (s : Stn) (body : NoteBody) : (s.noteTaken body).bus.takes = s.bus.takes := by
  cases body with
  | mirrorEnd refresh => unfold Stn.noteTaken; dsimp only; split <;> rfl
  | forward | answer | ret | retEnd | mirror | mirrorRemove => simp [Stn.noteTaken]

@[simp] theorem Stn.readTake_takes (p : Station) (s : Stn) (x : Station × NoteSerial) :
    (s.readTake p x).bus.takes = s.bus.takes := by
  unfold Stn.readTake; repeat' split
  all_goals simp

@[simp] theorem Stn.failNote_takes (s : Stn) (p : Station) (serial : NoteSerial) (body : NoteBody) :
    (s.failNote p serial body).bus.takes = s.bus.takes := by
  cases body <;> simp [Stn.failNote]

@[simp] theorem Stn.dueForward_takes (s : Stn) (p : Station) (tag : Tag) (n : Note) :
    (s.dueForward p tag n).bus.takes = s.bus.takes := by
  unfold Stn.dueForward; repeat' split
  all_goals simp

@[simp] theorem Stn.dueNote_takes (s : Stn) (p : Station) (serial : NoteSerial) (n : Note) :
    (s.dueNote p serial n).bus.takes = s.bus.takes := by
  unfold Stn.dueNote; dsimp only; split <;> simp

@[simp] theorem Stn.resolveOne_takes (p : Station) (s : Stn) (serial : NoteSerial) :
    (s.resolveOne p serial).bus.takes = s.bus.takes := by
  unfold Stn.resolveOne; repeat' split
  all_goals simp

@[simp] theorem Stn.resolve_takes (s : Stn) (p : Station) : (s.resolve p).bus.takes = s.bus.takes :=
  foldl_takes _ (Stn.resolveOne_takes p) _ s

@[simp] theorem Stn.overallLimit_takes (s : Stn) (tag : Tag) : (s.overallLimit tag).bus.takes = s.bus.takes := by
  simp [Stn.overallLimit]

@[simp] theorem Stn.judgeEntry_takes (s : Stn) (tag : Tag) : (s.judgeEntry tag).bus.takes = s.bus.takes := by
  unfold Stn.judgeEntry; repeat' split
  all_goals simp

@[simp] theorem Stn.countRequests_takes (s : Stn) : s.countRequests.bus.takes = s.bus.takes := by
  unfold Stn.countRequests; exact foldl_takes _ Stn.judgeEntry_takes _ _

@[simp] theorem Stn.roundEnd_takes (s : Stn) (r : RoundPos) : (s.roundEnd r).bus.takes = s.bus.takes := by
  unfold Stn.roundEnd; dsimp only; split <;> simp

/-! ### A VALID frame -/

@[simp] theorem Stn.takeAnswer_takes (s : Stn) (p : Station) (tag : Tag) (res : Result) :
    (s.takeAnswer p tag res).bus.takes = s.bus.takes := by
  unfold Stn.takeAnswer; repeat' split
  all_goals simp

@[simp] theorem Stn.takeReturnEnd_takes (w : Places) (s : Stn) :
    (s.takeReturnEnd w).bus.takes = s.bus.takes := by
  unfold Stn.takeReturnEnd; split <;> simp

/-- What a taken note does leaves the queue; its own take was queued before (R28). -/
@[simp] theorem Stn.actOn_takes (s : Stn) (p : Station) (body : NoteBody) :
    (s.actOn p body).bus.takes = s.bus.takes := by
  cases body <;> simp [Stn.actOn]

/-- A take is queued behind every older one. -/
@[simp] theorem Stn.queueTake_takes (s : Stn) (p : Station) (serial : NoteSerial) :
    (s.queueTake p serial).bus.takes = s.bus.takes ++ [(p, serial)] := rfl

@[simp] theorem Stn.rememberTake_takes (s : Stn) (p : Station) (serial : NoteSerial) :
    (s.rememberTake p serial).bus.takes = s.bus.takes := rfl

/-- One note of a peer's frame queues its take or leaves the queue as it is (R28 to R30). -/
theorem Stn.readNoteOf_takes (p : Station) (x : Stn × Bool) (w : WireNote) :
    (Stn.readNoteOf p x w).1.bus.takes = x.1.bus.takes ∨
      (Stn.readNoteOf p x w).1.bus.takes = x.1.bus.takes ++ [(p, w.serial)] := by
  unfold Stn.readNoteOf; repeat' split
  all_goals simp

/-- The notes of a peer's frame only add takes to the end of the queue. -/
theorem Stn.readNotes_adds_takes (p : Station) (ws : List WireNote) (x : Stn × Bool) :
    x.1.bus.takes <+: (ws.foldl (Stn.readNoteOf p) x).1.bus.takes := by
  induction ws generalizing x with
  | nil => simp
  | cons w ws ih =>
    have one : x.1.bus.takes <+: (Stn.readNoteOf p x w).1.bus.takes := by
      obtain h | h := Stn.readNoteOf_takes p x w <;> simp [h]
    exact one.trans (ih _)

@[simp] theorem Stn.clearMemory_takes (s : Stn) (p : Station) (state : Member) :
    (s.clearMemory p state).bus.takes = s.bus.takes := by
  unfold Stn.clearMemory; split <;> rfl

@[simp] theorem Stn.validView_takes (s : Stn) (p : Station) (f : RoundFrame) (episode : Bool) :
    (s.validView p f episode).bus.takes = s.bus.takes := by
  unfold Stn.validView; dsimp only; repeat' split
  all_goals simp

@[simp] theorem Stn.wardJoins_takes (s : Stn) (p : Station) (episode : Bool) :
    (s.wardJoins p episode).bus.takes = s.bus.takes := by
  unfold Stn.wardJoins; split <;> simp

@[simp] theorem Stn.giveBack_takes (s : Stn) (k : Station) : (s.giveBack k).bus.takes = s.bus.takes := by
  unfold Stn.giveBack; dsimp only; split <;> simp

@[simp] theorem Stn.liveAgain_takes (s : Stn) (p : Station) (state : Member) :
    (s.liveAgain p state).bus.takes = s.bus.takes := by
  unfold Stn.liveAgain; split <;> simp

@[simp] theorem Stn.listed_takes (p : Station) (s : Stn) (k : Station) :
    (s.listed p k).bus.takes = s.bus.takes := by
  unfold Stn.listed; dsimp only; repeat' split
  all_goals simp

@[simp] theorem Stn.dropped_takes (s : Stn) (p : Station) (f : RoundFrame) :
    (s.dropped p f).bus.takes = s.bus.takes := by
  unfold Stn.dropped
  split
  · rfl
  · exact foldl_takes _ (fun s k => by split <;> simp) _ s

@[simp] theorem Stn.custodyPart_takes (s : Stn) (p : Station) (f : RoundFrame) :
    (s.custodyPart p f).bus.takes = s.bus.takes := by
  unfold Stn.custodyPart; dsimp only; rw [Stn.dropped_takes]
  split <;> simp [foldl_takes]

/-- Of the steps of R23 the handling of the frame's notes alone touches the queue, at its end. -/
theorem Stn.validFrame_adds_takes (s : Stn) (p : Station) (r : RoundPos) (f : RoundFrame) :
    s.bus.takes <+: (s.validFrame p r f).bus.takes := by
  have taken : (f.takes.foldl (Stn.readTake p) (s.clearMemory p f.state)).bus.takes = s.bus.takes := by
    rw [foldl_takes _ (Stn.readTake_takes p), Stn.clearMemory_takes]
  have noted := Stn.readNotes_adds_takes p f.notes
    (f.takes.foldl (Stn.readTake p) (s.clearMemory p f.state), false)
  rw [taken] at noted
  simpa [Stn.validFrame] using noted

theorem Stn.applyReading_adds_takes (s : Stn) (p : Station) (r : RoundPos) (g : Reading) :
    s.bus.takes <+: (s.applyReading p r g).bus.takes := by
  cases g with
  | valid f => exact s.validFrame_adds_takes p r f
  | nothing | damaged | foreign => simp [Stn.applyReading]

theorem Stn.windowEnd_adds_takes (s : Stn) (p : Station) (r : RoundPos) (heard : List Byte) :
    s.bus.takes <+: (s.windowEnd p r heard).bus.takes := by
  simpa [Stn.windowEnd] using
    (s.passWindow r).applyReading_adds_takes p r (s.classify p r.index heard)

/-! ### The end of JOINING -/

@[simp] theorem Stn.copyNumbering_takes (s : Stn) (f : FrameNo) :
    (s.copyNumbering f).bus.takes = s.bus.takes := by
  unfold Stn.copyNumbering; split <;> rfl

@[simp] theorem Stn.endJoining_takes (s : Stn) (f : FrameNo) : (s.endJoining f).bus.takes = s.bus.takes := by
  simp only [Stn.endJoining, Stn.settled_takes, foldl_takes _ Stn.routeEntry_takes, Stn.givePlaces_takes]
  split <;> simp [Stn.enterReclaiming]

/-! ### The commands -/

/-- The own window sends one frame: it lists the oldest 8 takes of the queue and empties it (R21, R31). The tests
ahead of the frame, of a declaration (R45) and of the claims (R125), keep the queue and the station's number. -/
theorem Stn.ownWindow_sends_takes (s : Stn) (r : RoundPos) :
    ∃ f : RoundFrame, (s.ownWindow r).bus.frameOut = f.bytes ∧ f.sender = s.self ∧ f.frame = r.frame ∧
      f.index = r.index ∧ f.takes = s.bus.takes.take 8 ∧ (s.ownWindow r).bus.takes = [] :=
  ⟨(s.testDeclaration.windowClaims r.frame r.index).frameFor r, rfl, by simp [Stn.frameFor, Stn.self], rfl, rfl,
    by simp [Stn.frameFor, Config.takesPerFrame], rfl⟩

theorem Stn.restart_takes (a b : Bool) : (Stn.restart a b).bus.takes = [] := rfl

/-- A reading is the one command that adds to the queue; the others leave it, but for the own window's frame and
a restart. -/
theorem exec_keeps_takes {i : Instr} {s t : State} (h : exec i s = .next t) (hsend : i ≠ .roundFrameSend)
    (hreset : i ≠ .resetLineAsserted) (hsupply : i ≠ .supplyBelowValidLevel) (hon : ∀ a b, i ≠ .powerOn a b)
    (hread : ∀ p heard, i ≠ .windowReading p heard) : t.stn.bus.takes = s.stn.bus.takes := by
  cases i with
  | powerOn a b => exact absurd rfl (hon a b)
  | resetLineAsserted => exact absurd rfl hreset
  | supplyBelowValidLevel => exact absurd rfl hsupply
  | roundFrameSend => exact absurd rfl hsend
  | windowReading p heard => exact absurd rfl (hread p heard)
  | resetLineReleased | configurationReadComplete | supplyValid => cases h; simp
  | submit | cancel | query | enrol | amend | suspend | resume | withdraw | meterRead =>
    cases h; exact Stn.bring_takes _ _ _
  | periodClose | status | statusClear => cases h; exact Stn.bringByContext_takes _ _ _ _
  | markSelect | markAbandon | orphanMark | dataCharacter => cases h; exact Stn.assemble_takes _ _ _ _
  | characterReceived | lineBreak | terminator | replyTransmitStart | replySent => cases h; simp
  | messageExpiry | reportReceived | reportFull | reportReady | reportRegister => cases h; simp
  | returnWalkVisit | returnWalkStandbyVisit | mirrorWalkStep | forwardReoffer => cases h; simp
  | drainVisit | billingBlockStart | billingBlockSent => cases h; simp
  | officeMarkBus | officeMarkAirtime | airFrameStart | slotStart | owedNoticeOffers | reportEntryAged | badReport
  | reportGap | adoption | buddyWaitEnd | returnRetryDelayEnd | mirrorRestartWaitEnd | heldReplyOffer =>
    cases h; split <;> simp
  | waitEnd | holdEnd | pageCompletion | silentView | noteFailure | roundEnd | requestOverallLimit | answerLimit
  | deferralEnd | joiningEnd =>
    cases h; repeat' split
    all_goals simp

/-- A command that sends no frame of this station and restarts nothing takes no take out of the queue. -/
theorem exec_only_adds_takes {i : Instr} {s t : State} (h : exec i s = .next t) (hsend : i ≠ .roundFrameSend)
    (hreset : i ≠ .resetLineAsserted) (hsupply : i ≠ .supplyBelowValidLevel) (hon : ∀ a b, i ≠ .powerOn a b) :
    s.stn.bus.takes <+: t.stn.bus.takes := by
  by_cases hread : ∃ p heard, i = .windowReading p heard
  · obtain ⟨p, heard, rfl⟩ := hread
    cases h; repeat' split
    · exact s.stn.windowEnd_adds_takes p _ heard
    all_goals simp
  · push Not at hread
    rw [exec_keeps_takes h hsend hreset hsupply hon hread]

/-- In a round whose next window is this station's, ROUND_FRAME_SEND is that window. -/
theorem execRoundFrameSend_of_next {s : State} {r : RoundPos} (hr : InRound s.stn r)
    (hnext : r.left.head? = some s.stn.self) :
    exec .roundFrameSend s = .next { s with stn := s.stn.ownWindow r } := by
  obtain ⟨hphase, hround⟩ := hr
  simp [exec, execRoundFrameSend, hphase, hround, RoundPos.isNext, hnext]

/-- Settles O35: the own window lists 8 and empties the queue, a restart empties it, and every other command leaves
it or, as the reading of a peer's notes does, adds to its end. -/
theorem queuedTakesWaitForTheNextWindow : Obligations.QueuedTakesWaitForTheNextWindow := by
  refine ⟨fun s r hr hnext => ?_, fun s a b t h => ?_, fun s t i h hsend hreset hsupply hon => ?_⟩
  · obtain ⟨f, sent⟩ := s.stn.ownWindow_sends_takes r
    exact ⟨_, f, execRoundFrameSend_of_next hr hnext, sent⟩
  · obtain h | h := h <;> cases h <;> exact Stn.restart_takes _ _
  · exact exec_only_adds_takes h hsend hreset hsupply hon

end Sys2Proof.Machine
end

section
/-!
SUPPORT. The assembler of the Intake Unit (R65 to R72): what taking the oldest FIFO entry, a loss behind it and a
data character do to a line, in the vocabulary of `State.withLine` and `Line.withCtx`; and what the commands that
bring a break, a mark or a data character do.
-/

namespace Sys2Proof.Machine

/-! ### A line with one context replaced -/

theorem Line.updCtx_eq_withCtx (x : Line) (c : CtxNo) (f : Context → Context) :
    x.updCtx c f = x.withCtx c (f (x.ctx c)) := rfl

@[simp] theorem Line.withCtx_current (x : Line) (c : CtxNo) (k : Context) :
    (x.withCtx c k).current = x.current := rfl

@[simp] theorem Line.ctx_withCtx (x : Line) (c : CtxNo) (k : Context) : (x.withCtx c k).ctx c = k :=
  get_set _ _ _

@[simp] theorem Line.withCtx_withCtx (x : Line) (c : CtxNo) (j k : Context) :
    (x.withCtx c j).withCtx c k = x.withCtx c k := by
  simp [Line.withCtx]

@[simp] theorem Line.withCtx_ctx (x : Line) (c : CtxNo) : x.withCtx c (x.ctx c) = x := by
  have same : x.ctxs.set c.val (x.ctxs.get c) c.isLt = x.ctxs := Vector.set_getElem_self c.isLt
  simp [Line.withCtx, Line.ctx, same]

/-- The line with context c selected (R70). -/
def Line.selected (x : Line) (c : CtxNo) : Line := { x with current := some c }

@[simp] theorem Line.selected_current (x : Line) (c : CtxNo) : (x.selected c).current = some c := rfl

@[simp] theorem Line.selected_ctx (x : Line) (c d : CtxNo) : (x.selected c).ctx d = x.ctx d := rfl

@[simp] theorem Line.took_current (x : Line) (rest : List FifoEntry) : (x.took rest).current = x.current := rfl

@[simp] theorem Line.orphan_current (x : Line) : x.orphan.current = x.current := rfl

@[simp] theorem Line.orphan_ctx (x : Line) (c : CtxNo) : x.orphan.ctx c = x.ctx c := rfl

/-- Line l changed alone is that line replaced. -/
theorem State.updLine_eq_withLine (s : State) (l : LineNo) (f : Line → Line) :
    { s with stn := s.stn.updLine l f } = s.withLine l (f (s.stn.line l)) := rfl

/-! ### A loss behind the oldest entry (R66) -/

/-- A context that a loss has damaged. -/
def Context.lost (k : Context) : Context := { k with state := .damaged .damaged, buffer := [] }

/-- The line behind an entry with or without a loss mark. -/
def Line.afterLoss (x : Line) (loss : Bool) : Line := if loss then x.applyLoss else x

@[simp] theorem Line.afterLoss_false (x : Line) : x.afterLoss false = x := rfl

/-- A loss finds nothing to damage unless the current context is COLLECTING. -/
theorem Line.afterLoss_eq_self {x : Line} (h : ∀ c, x.current = some c → (x.ctx c).state ≠ .collecting)
    (loss : Bool) : x.afterLoss loss = x := by
  have kept : x.applyLoss = x := by
    unfold Line.applyLoss
    split
    · rfl
    next c hc =>
      split
      next hk => exact absurd hk (h c hc)
      · rfl
  cases loss with
  | false => rfl
  | true => exact kept

theorem Line.afterLoss_of_collecting {x : Line} {c : CtxNo} (hc : x.current = some c)
    (hk : (x.ctx c).state = .collecting) : x.afterLoss true = x.withCtx c (x.ctx c).lost := by
  simp [Line.afterLoss, Line.applyLoss, hc, hk, Line.updCtx_eq_withCtx, Context.lost]

/-- The oldest entry taken: acted on in the line it has left, its loss applied behind it (R65, R66). -/
theorem Line.takeHead_cons {x : Line} {e : FifoEntry} {rest : List FifoEntry} (h : x.fifo = e :: rest)
    (act : Line → Line) : x.takeHead act = (act (x.took rest)).afterLoss e.lossFollows := by
  simp [Line.takeHead, h, Line.took, Line.afterLoss]

/-! ### A data character (R72) -/

theorem printable_iff (b : Byte) : printable b = true ↔ 0x20 ≤ b.toNat ∧ b.toNat ≤ 0x7E := by
  simp [printable]

theorem Context.takeData_of_idle {k : Context} {b : Byte} (hk : k.state = .idle) (hb : printable b = true) :
    k.takeData b = { k with state := .collecting, buffer := [b] } := by
  simp [Context.takeData, hk, hb]

theorem Context.takeData_of_idle_unprintable {k : Context} {b : Byte} (hk : k.state = .idle)
    (hb : ¬ printable b = true) : k.takeData b = k := by
  simp [Context.takeData, hk, hb]

theorem Context.takeData_of_collecting {k : Context} {b : Byte} (hk : k.state = .collecting)
    (hb : printable b = true) (room : k.buffer.length < 240) :
    k.takeData b = { k with state := .collecting, buffer := k.buffer ++ [b] } := by
  simp [Context.takeData, hk, hb, Config.bufferCap, room]

theorem Context.takeData_of_full {k : Context} {b : Byte} (hk : k.state = .collecting)
    (hb : printable b = true) (full : 240 ≤ k.buffer.length) :
    k.takeData b = { k with state := .damaged .tooLong, buffer := [] } := by
  simp [Context.takeData, hk, hb, Config.bufferCap, Nat.not_lt.2 full]

theorem Context.takeData_of_collecting_unprintable {k : Context} {b : Byte} (hk : k.state = .collecting)
    (hb : ¬ printable b = true) : k.takeData b = { k with state := .damaged .damaged, buffer := [] } := by
  simp [Context.takeData, hk, hb]

theorem Context.takeData_of_damaged {k : Context} {w : Damage} (hk : k.state = .damaged w) (b : Byte) :
    k.takeData b = k := by
  simp [Context.takeData, hk]

theorem Context.takeData_of_awaiting {k : Context} (hk : k.state = .awaiting) (b : Byte) :
    k.takeData b = k := by
  simp [Context.takeData, hk]

theorem Line.takeData_of_none {x : Line} (h : x.current = none) (b : Byte) : x.takeData b = x.orphan := by
  simp [Line.takeData, h]

/-- Every state but AWAITING takes the character or drops it uncounted. -/
theorem Line.takeData_of_some {x : Line} {c : CtxNo} (hc : x.current = some c)
    (hk : (x.ctx c).state ≠ .awaiting) (b : Byte) :
    x.takeData b = x.withCtx c ((x.ctx c).takeData b) := by
  cases state : (x.ctx c).state with
  | idle | collecting | damaged => simp [Line.takeData, hc, state, Line.updCtx_eq_withCtx]
  | awaiting => exact absurd state hk

theorem Line.takeData_of_awaiting {x : Line} {c : CtxNo} (hc : x.current = some c)
    (hk : (x.ctx c).state = .awaiting) (b : Byte) : x.takeData b = x.orphan := by
  simp [Line.takeData, hc, hk, Line.updCtx_eq_withCtx, Context.takeData_of_awaiting hk]

/-- With no current context, or an AWAITING one, the character is an orphan, and a loss behind it finds nothing to
damage (R66, R72). -/
theorem Line.takeData_afterLoss_orphan {x : Line} (h : ∀ c, x.current = some c → (x.ctx c).state = .awaiting)
    (b : Byte) (loss : Bool) : (x.takeData b).afterLoss loss = x.orphan := by
  have orphaned : x.takeData b = x.orphan := by
    cases hc : x.current with
    | none => exact Line.takeData_of_none hc b
    | some c => exact Line.takeData_of_awaiting hc (h c hc) b
  rw [orphaned, Line.afterLoss_eq_self]
  intro c hc
  simp [h c hc]

/-- A character that leaves its context outside COLLECTING shields it from the loss behind (R66). -/
theorem Line.takeData_afterLoss_settled {x : Line} {c : CtxNo} {k : Context} {b : Byte}
    (hc : x.current = some c) (hk : (x.ctx c).state ≠ .awaiting) (taken : (x.ctx c).takeData b = k)
    (settled : k.state ≠ .collecting) (loss : Bool) : (x.takeData b).afterLoss loss = x.withCtx c k := by
  rw [Line.takeData_of_some hc hk, taken, Line.afterLoss_eq_self]
  simp [hc, settled]

/-- A collected character leaves its context to the loss behind it, if any (R66). -/
theorem Line.takeData_afterLoss_collected {x : Line} {c : CtxNo} {k : Context} {b : Byte}
    (hc : x.current = some c) (hk : (x.ctx c).state ≠ .awaiting) (taken : (x.ctx c).takeData b = k)
    (collected : k.state = .collecting) (loss : Bool) :
    (x.takeData b).afterLoss loss = x.withCtx c (if loss then k.lost else k) := by
  rw [Line.takeData_of_some hc hk, taken]
  cases loss with
  | false => rfl
  | true => simp [Line.afterLoss_of_collecting (x := x.withCtx c k) hc (by simpa using collected)]

/-! ### The kinds of an entry (R70, R72) -/

theorem FifoEntry.selects_of_le {e : FifoEntry} (mark : e.mark = true) (low : e.value.toNat ≤ 0x0F) :
    e.selects = true := by
  simp [FifoEntry.selects, mark, low]

theorem FifoEntry.abandons_of_mem {e : FifoEntry} (mark : e.mark = true)
    (high : 0x80 ≤ e.value.toNat ∧ e.value.toNat ≤ 0x8F) : e.abandons = true := by
  simp [FifoEntry.abandons, mark, high]

theorem FifoEntry.isOrphan_of_not_mem {e : FifoEntry} (mark : e.mark = true) (notLow : 0x0F < e.value.toNat)
    (notHigh : ¬(0x80 ≤ e.value.toNat ∧ e.value.toNat ≤ 0x8F)) : e.isOrphan = true := by
  simp [FifoEntry.isOrphan, FifoEntry.selects, FifoEntry.abandons, mark, notLow, notHigh]

theorem FifoEntry.isData_of_ne {e : FifoEntry} (data : e.mark = false) (notEnd : e.value ≠ 0x0D) :
    e.isData = true := by
  rw [FifoEntry.isData, data]
  exact decide_eq_true notEnd

/-- The context that a mark character names is its value's low four bits (R70). -/
theorem FifoEntry.ctx_eq_mod (e : FifoEntry) : e.ctx = Fin.ofNat 16 (e.value.toNat % 16) := by
  simp [FifoEntry.ctx, Fin.ofNat]

/-! ### The commands -/

/-- A break resets the receiving side of a started line and takes the line out of the waiting order (R67). -/
theorem Stn.breakLine_of_up {s : Stn} (up : s.linesUp = true) (l : LineNo) :
    s.breakLine l = { s with intake :=
      { lines := s.intake.lines.set l.val (s.line l).broken l.isLt,
        waiting := s.intake.waiting.filter (· ≠ l) } } := by
  simp [Stn.breakLine, up, Stn.updLine]

section
variable {s : State} {l : LineNo} {e : FifoEntry} {rest : List FifoEntry}

/-- A command whose kind is that of the oldest entry takes it. -/
theorem assemble_head (up : s.stn.linesUp = true) (head : (s.stn.line l).fifo = e :: rest)
    {p : FifoEntry → Bool} (kind : p e = true) (act : FifoEntry → Line → Line) :
    { s with stn := s.stn.assemble l p act } =
      s.withLine l ((act e ((s.stn.line l).took rest)).afterLoss e.lossFollows) := by
  have taken : s.stn.assemble l p act = s.stn.updLine l fun x => x.takeHead (act e) := by
    simp [Stn.assemble, head, up, kind]
  rw [taken, State.updLine_eq_withLine, Line.takeHead_cons head]

theorem exec_markSelect_of_head (up : s.stn.linesUp = true) (head : (s.stn.line l).fifo = e :: rest)
    (kind : e.selects = true) : exec (.markSelect l) s = .next (s.withLine l
      ((((s.stn.line l).took rest).selected e.ctx).afterLoss e.lossFollows)) :=
  congrArg Host.Outcome.next (assemble_head up head kind _)

theorem exec_markAbandon_of_head (up : s.stn.linesUp = true) (head : (s.stn.line l).fifo = e :: rest)
    (kind : e.abandons = true) : exec (.markAbandon l) s = .next (s.withLine l
      ((((s.stn.line l).took rest).abandon e.ctx).afterLoss e.lossFollows)) :=
  congrArg Host.Outcome.next (assemble_head up head kind _)

theorem exec_orphanMark_of_head (up : s.stn.linesUp = true) (head : (s.stn.line l).fifo = e :: rest)
    (kind : e.isOrphan = true) : exec (.orphanMark l) s = .next (s.withLine l
      (((s.stn.line l).took rest).orphan.afterLoss e.lossFollows)) :=
  congrArg Host.Outcome.next (assemble_head up head kind _)

theorem exec_dataCharacter_of_head {v : Byte} {lost : Bool} (up : s.stn.linesUp = true)
    (head : (s.stn.line l).fifo = ⟨v, false, lost⟩ :: rest) (notEnd : v ≠ 0x0D) :
    exec (.dataCharacter l) s = .next (s.withLine l
      ((((s.stn.line l).took rest).takeData v).afterLoss lost)) :=
  congrArg Host.Outcome.next (assemble_head up head (FifoEntry.isData_of_ne rfl notEnd) _)

/-- A terminator that calls for nothing is taken and discarded, with or without an orphan count (R72, R73). -/
theorem exec_terminator_of_discard {lost orphan : Bool} (up : s.stn.linesUp = true)
    (head : (s.stn.line l).fifo = ⟨0x0D, false, lost⟩ :: rest)
    (nothing : (s.stn.line l).atEnd s.stn.offline = .discard orphan) :
    exec (.terminator l) s = .next (s.withLine l
      ((if orphan then ((s.stn.line l).took rest).orphan else (s.stn.line l).took rest).afterLoss lost)) := by
  have reached : (s.stn.line l).atTerminator = true := by simp [Line.atTerminator, head, terminatorByte]
  have taken : s.stn.meetTerminator l =
      s.stn.updLine l fun x => x.takeHead fun y => if orphan then y.orphan else y := by
    simp [Stn.meetTerminator, up, reached, nothing]
  change Host.Outcome.next { s with stn := s.stn.meetTerminator l } = _
  rw [taken, State.updLine_eq_withLine, Line.takeHead_cons head]

end

/-- Settles O7: the break is one equation, and each mark is the oldest entry taken by its own command; of the
three, a selection alone meets a loss here, which damages the selected context when it is COLLECTING. -/
theorem breakAndMarkCharactersChangeContexts : Obligations.BreakAndMarkCharactersChangeContexts := by
  refine ⟨fun s l up => ?_, fun s l e rest up head mark => ?_⟩
  · exact congrArg (fun t => Host.Outcome.next { s with stn := t }) (Stn.breakLine_of_up up l)
  · rw [← e.ctx_eq_mod]
    have select (low : e.value.toNat ≤ 0x0F) := exec_markSelect_of_head up head (FifoEntry.selects_of_le mark low)
    refine ⟨fun low noLoss => ?_, fun low loss collecting => ?_, fun low loss other => ?_,
      fun high noLoss => ?_, fun notLow notHigh noLoss => ?_⟩
    · rw [select low, noLoss]
      rfl
    · have damaged := Line.afterLoss_of_collecting
        (Line.selected_current ((s.stn.line l).took rest) e.ctx) collecting
      rw [select low, loss, damaged]
      rfl
    · rw [select low, Line.afterLoss_eq_self (by simpa using other)]
      rfl
    · rw [exec_markAbandon_of_head up head (FifoEntry.abandons_of_mem mark high), noLoss]
      rfl
    · rw [exec_orphanMark_of_head up head (FifoEntry.isOrphan_of_not_mem mark notLow notHigh), noLoss]
      rfl

/-- Settles O8: the oldest entry is taken by its command, and the row of R72 for the state of the current context
says what becomes of it; the loss behind it then finds the context COLLECTING or nothing to damage. -/
theorem dataCharactersAreAssembled : Obligations.DataCharactersAreAssembled := by
  refine ⟨fun s l lost rest up head noCtx => ?_, fun s l v lost rest up head notEnd => ?_⟩
  · have discarded : (s.stn.line l).atEnd s.stn.offline = .discard true := by simp [Line.atEnd, noCtx]
    rw [exec_terminator_of_discard up head discarded, Line.afterLoss_eq_self (by simp [noCtx])]
    rfl
  intro y isPrintable put
  have taken : exec (.dataCharacter l) s = .next (s.withLine l ((y.takeData v).afterLoss lost)) :=
    exec_dataCharacter_of_head up head notEnd
  have shown : printable v = true ↔ isPrintable := printable_iff v
  refine ⟨fun noCtx => ?_, fun c hc => ?_⟩
  · rw [taken, Line.takeData_afterLoss_orphan (by simp [noCtx])]
    rfl
  intro k collected
  have collects (b : List Byte) (hk : k.state ≠ .awaiting)
      (row : k.takeData v = { k with state := .collecting, buffer := b }) :
      exec (.dataCharacter l) s = .next (collected b) := by
    rw [taken, Line.takeData_afterLoss_collected hc hk row rfl]
    cases lost <;> rfl
  have settles (k' : Context) (hk : k.state ≠ .awaiting) (row : k.takeData v = k')
      (settled : k'.state ≠ .collecting) :
      exec (.dataCharacter l) s = .next (s.withLine l (y.withCtx c k')) := by
    rw [taken, Line.takeData_afterLoss_settled hc hk row settled]
  have unchanged (hk : k.state ≠ .awaiting) (row : k.takeData v = k) (settled : k.state ≠ .collecting) :
      exec (.dataCharacter l) s = .next (s.withLine l y) := by
    rw [settles k hk row settled, Line.withCtx_ctx]
  refine ⟨fun idle text => ?_, fun idle text => ?_, fun coll text room => ?_, fun coll text full => ?_,
    fun coll text => ?_, fun w damaged => ?_, fun awaiting => ?_⟩
  · exact collects _ (by simp [idle]) (Context.takeData_of_idle idle (shown.2 text))
  · exact unchanged (by simp [idle]) (Context.takeData_of_idle_unprintable idle (mt shown.1 text)) (by simp [idle])
  · exact collects _ (by simp [coll]) (Context.takeData_of_collecting coll (shown.2 text) room)
  · exact settles _ (by simp [coll]) (Context.takeData_of_full coll (shown.2 text) full) nofun
  · exact settles _ (by simp [coll]) (Context.takeData_of_collecting_unprintable coll (mt shown.1 text)) nofun
  · exact unchanged (by simp [damaged]) (Context.takeData_of_damaged damaged v) (by simp [damaged])
  · rw [taken, Line.takeData_afterLoss_orphan fun d hd => ?_]
    · rfl
    · obtain rfl : c = d := Option.some.inj (hc.symm.trans hd)
      exact awaiting

end Sys2Proof.Machine
end

section
/-!
SUPPORT. Receipt serials (R105): the first free value of a wrapping counter, what an acceptance and a submit do to
the counter of the Message Store, and why a stand-down leaves it.
-/

namespace Sys2Proof.Machine

/-! ### The first free value of a wrapping counter -/

/-- The search stops at the first value not in use, or behind all the values it may look at. -/
theorem firstFree_spec {w : Nat} (fuel : Nat) (c : BitVec w) (used : List (BitVec w)) :
    ∃ n ≤ fuel, firstFree fuel c used = c + BitVec.ofNat w n ∧
      (∀ i < n, c + BitVec.ofNat w i ∈ used) ∧ (n < fuel → c + BitVec.ofNat w n ∉ used) := by
  induction fuel generalizing c with
  | zero => exact ⟨0, le_rfl, by simp [firstFree], by simp, by simp⟩
  | succ fuel ih =>
    by_cases taken : c ∈ used
    · obtain ⟨n, le, found, before, free⟩ := ih (c + 1)
      have shift (i : Nat) : c + 1 + BitVec.ofNat w i = c + BitVec.ofNat w (i + 1) := by
        rw [BitVec.add_assoc, BitVec.ofNat_add, BitVec.add_comm (BitVec.ofNat w i)]
        rfl
      refine ⟨n + 1, by omega, ?_, fun i hi => ?_, fun hn => ?_⟩
      · rw [firstFree, if_pos (by simpa using taken), found, shift]
      · cases i with
        | zero => simpa using taken
        | succ i => exact shift i ▸ before i (by omega)
      · exact shift n ▸ free (by omega)
    · exact ⟨0, by omega, by simp [firstFree, taken], by simp, fun _ => by simpa using taken⟩

/-- As many values from c on as the width can tell apart are all different. -/
theorem nodup_counter_values {w n : Nat} (fits : n ≤ 2 ^ w) (c : BitVec w) :
    ((List.range n).map fun i => c + BitVec.ofNat w i).Nodup := by
  refine List.nodup_range.map_on fun i hi j hj same => ?_
  rw [List.mem_range] at hi hj
  have values := congrArg BitVec.toNat ((BitVec.add_right_inj c).mp same)
  rwa [BitVec.toNat_ofNat, BitVec.toNat_ofNat, Nat.mod_eq_of_lt (by omega), Nat.mod_eq_of_lt (by omega)] at values

/-- A search that may look at more values than are in use finds one that is free. -/
theorem firstFree_isFree {w fuel : Nat} {used : List (BitVec w)} (few : used.length < fuel)
    (fits : fuel ≤ 2 ^ w) (c : BitVec w) :
    ∃ n, firstFree fuel c used = c + BitVec.ofNat w n ∧
      (∀ i < n, c + BitVec.ofNat w i ∈ used) ∧ c + BitVec.ofNat w n ∉ used := by
  obtain ⟨n, le, found, before, free⟩ := firstFree_spec fuel c used
  have distinct := nodup_counter_values (le.trans fits) c
  have within : ((List.range n).map fun i => c + BitVec.ofNat w i) ⊆ used := by
    simpa [List.subset_def] using before
  have short : n ≤ used.length := by simpa using (distinct.subperm within).length_le
  exact ⟨n, found, before, free (by omega)⟩

/-! ### What the queues and ready lists leave of the store -/

/-- A change that keeps the serial of a message keeps the serials of all. -/
theorem Stn.updMsg_serials (s : Stn) (serial : Serial) {f : Message → Message}
    (keeps : ∀ m, (f m).serial = m.serial) :
    (s.updMsg serial f).store.messages.map (·.serial) = s.store.messages.map (·.serial) := by
  rw [Stn.updMsg_messages, updWhere, List.map_map]
  refine List.map_congr_left fun m _ => ?_
  simp only [Function.comp_apply]
  split
  · exact keeps m
  · rfl

/-- The serials of the messages, the counter and the outcome list, which tell the next serial (R105). -/
def Stn.SameSerials (s t : Stn) : Prop :=
  t.store.messages.map (·.serial) = s.store.messages.map (·.serial) ∧
    t.store.serial = s.store.serial ∧ t.store.outcomes = s.store.outcomes

theorem Stn.SameSerials.trans {s t u : Stn} (st : s.SameSerials t) (tu : t.SameSerials u) : s.SameSerials u := by
  obtain ⟨messages, counter, outcomes⟩ := st
  obtain ⟨messages', counter', outcomes'⟩ := tu
  exact ⟨messages'.trans messages, counter'.trans counter, outcomes'.trans outcomes⟩

theorem Stn.SameSerials.of_store_eq {s t : Stn} (same : t.store = s.store) : s.SameSerials t := by
  simp [Stn.SameSerials, same]

theorem Stn.sameSerials_updRec (s : Stn) (sub : Nat) (f : Record → Record) : s.SameSerials (s.updRec sub f) :=
  .of_store_eq (by simp)

theorem Stn.sameSerials_updMsg (s : Stn) (serial : Serial) {f : Message → Message}
    (keeps : ∀ m, (f m).serial = m.serial) : s.SameSerials (s.updMsg serial f) :=
  ⟨s.updMsg_serials serial keeps, by simp, by simp⟩

theorem Stn.sameSerials_joinReady (s : Stn) (p : Priority) (serial : Serial) :
    s.SameSerials (s.joinReady p serial) := by
  cases p <;> exact ⟨rfl, rfl, rfl⟩

theorem Stn.sameSerials_leaveReady (s : Stn) (serial : Serial) : s.SameSerials (s.leaveReady serial) :=
  ⟨rfl, rfl, rfl⟩

theorem Stn.sameSerials_makeReady (s : Stn) (serial : Serial) : s.SameSerials (s.makeReady serial) := by
  unfold Stn.makeReady
  split
  · refine (s.sameSerials_updMsg serial ?_).trans (Stn.sameSerials_joinReady ..)
    exact fun _ => rfl
  · exact .of_store_eq rfl

/-- The place in the subscriber's queue is a matter of the record and the ready lists (R108). -/
theorem Stn.sameSerials_placeInQueue (s : Stn) (sub : Nat) (p : Priority) (serial : Serial) :
    s.SameSerials (s.placeInQueue sub p serial) := by
  unfold Stn.placeInQueue
  split
  next => exact .of_store_eq rfl
  next r _ =>
    split
    next => exact (s.sameSerials_updRec ..).trans (Stn.sameSerials_makeReady ..)
    next head rest _ =>
      split
      next => exact s.sameSerials_updRec ..
      next =>
        split
        · refine (((s.sameSerials_updRec ..).trans (Stn.sameSerials_leaveReady ..)).trans
            (Stn.sameSerials_updMsg _ head ?_)).trans (Stn.sameSerials_makeReady ..)
          exact fun _ => rfl
        · exact s.sameSerials_updRec ..
      next => exact s.sameSerials_updRec ..

/-! ### An acceptance -/

/-- An acceptance adds the next serial behind the serials present and puts the counter one past it (R105). -/
theorem Stn.acceptMessage_serials (s : Stn) (sub : Nat) (p : Priority) (origin : MsgOrigin) (body : List Byte)
    (reserved : Nat) :
    (s.acceptMessage sub p origin body reserved).store.messages.map (·.serial) =
        s.store.messages.map (·.serial) ++ [s.nextSerial] ∧
      (s.acceptMessage sub p origin body reserved).store.serial = s.nextSerial + 1 ∧
      (s.acceptMessage sub p origin body reserved).store.outcomes = s.store.outcomes := by
  obtain ⟨messages, counter, outcomes⟩ := Stn.sameSerials_placeInQueue _ sub p s.nextSerial
  exact ⟨messages.trans List.map_append, counter, outcomes⟩

/-- A store within its capacities holds fewer serials than the search looks at. -/
theorem Stn.serialsUsed_length_lt {s : Stn} (messages : s.store.messages.length ≤ 512)
    (outcomes : s.store.outcomes.length ≤ 64) :
    s.serialsUsed.length < Config.entryCap + Config.outcomeCap + 1 := by
  simp only [Stn.serialsUsed, List.length_append, List.length_map, Config.entryCap, Config.outcomeCap]
  omega

theorem Stn.nextSerial_firstFree {s : Stn} (messages : s.store.messages.length ≤ 512)
    (outcomes : s.store.outcomes.length ≤ 64) :
    ∃ n, s.nextSerial = s.store.serial + BitVec.ofNat 16 n ∧
      (∀ i < n, s.store.serial + BitVec.ofNat 16 i ∈ s.serialsUsed) ∧
      s.store.serial + BitVec.ofNat 16 n ∉ s.serialsUsed :=
  firstFree_isFree (Stn.serialsUsed_length_lt messages outcomes) (by decide) s.store.serial

/-- Serials stay unique where the one an acceptance takes is free. -/
theorem Stn.acceptMessage_serialsUsed_nodup {s : Stn} (free : s.nextSerial ∉ s.serialsUsed)
    (unique : s.serialsUsed.Nodup) (sub : Nat) (p : Priority) (origin : MsgOrigin) (body : List Byte)
    (reserved : Nat) : (s.acceptMessage sub p origin body reserved).serialsUsed.Nodup := by
  obtain ⟨messages, -, outcomes⟩ := s.acceptMessage_serials sub p origin body reserved
  rw [Stn.serialsUsed, messages, outcomes, List.append_assoc, List.singleton_append, List.nodup_middle]
  exact List.nodup_cons.2 ⟨free, unique⟩

/-! ### A submit and the offer of a notice -/

/-- The result of a request that gives no receipt. -/
def Result.GivesNoReceipt (res : Result) : Prop := ∀ text, res ≠ .reply (str "K/" ++ text)

theorem refused_givesNoReceipt (w : Word) : (refused w).GivesNoReceipt := fun _ same =>
  absurd (congrArg List.head? (Result.reply.inj same)) (by simp [refusal, str])

/-- A submit is accepted with the next serial, or gives no receipt and leaves the station as it is. -/
def Stn.AcceptedOrLeft (s : Stn) (x : Stn × Result) : Prop :=
  x.2 = .reply (replyK s.self s.nextSerial) ∨ x.1 = s ∧ x.2.GivesNoReceipt

theorem Stn.acceptedOrLeft_refused (s : Stn) (w : Word) : s.AcceptedOrLeft (s, refused w) :=
  .inr ⟨rfl, refused_givesNoReceipt w⟩

theorem Stn.submitFound_acceptedOrLeft (s : Stn) (r : Record) (p : Priority) (body : List Byte) :
    s.AcceptedOrLeft (s.submitFound r p body) := by
  unfold Stn.submitFound
  dsimp only
  split
  next =>
    cases r.check ((s.tariffOf r).fullCharge (segments body)) with
    | suspended | barred | quota => exact s.acceptedOrLeft_refused _
    | admitted =>
      dsimp only
      split
      · exact .inl rfl
      · exact s.acceptedOrLeft_refused _
  next => exact s.acceptedOrLeft_refused _

/-- What holds of the results of R93's table that leave the station, and of what is done on FOUND and on ABSENT,
holds of an execution by subscriber number. -/
theorem Stn.serve_cases {s : Stn} {sub : Nat} {onFound : Record → Stn × Result}
    {onAbsent : Station → Stn × Result} {P : Stn × Result → Prop} (notYet : P (s, .notYet))
    (moved : ∀ m, P (s, .moved m)) (refusal : ∀ w, P (s, refused w)) (found : ∀ r, P (onFound r))
    (absent : ∀ h, P (onAbsent h)) : P (s.serve sub onFound onAbsent) := by
  unfold Stn.serve
  split
  next => exact notYet
  next =>
    split
    next => exact refusal _
    next h _ =>
      cases s.lookup sub h with
      | found =>
        dsimp only
        split
        · exact found _
        · exact notYet
      | notYet => exact notYet
      | moved m => exact moved m
      | noService => exact refusal _
      | absent =>
        dsimp only
        split
        · exact notYet
        · exact absent h

theorem Stn.execute_submit_acceptedOrLeft (s : Stn) (sub : Nat) (p : Priority) (body : List Byte) :
    s.AcceptedOrLeft (s.execute (.submit sub p body)) :=
  Stn.serve_cases (P := s.AcceptedOrLeft) (.inr ⟨rfl, fun _ => nofun⟩) (fun _ => .inr ⟨rfl, fun _ => nofun⟩)
    s.acceptedOrLeft_refused (fun r => s.submitFound_acceptedOrLeft r p body)
    fun _ => s.acceptedOrLeft_refused _

/-- The text behind `K/` is the receipt of the serial that the acceptance takes (R94, R105). -/
theorem Stn.execute_submit_receipt {s n : Stn} {sub : Nat} {p : Priority} {body text : List Byte}
    (h : s.execute (.submit sub p body) = (n, .reply (str "K/" ++ text))) :
    text = receiptText s.self s.nextSerial := by
  obtain accepted | ⟨-, noReceipt⟩ := s.execute_submit_acceptedOrLeft sub p body
  · rw [h] at accepted
    exact List.append_cancel_left (Result.reply.inj accepted)
  · exact absurd (by rw [h]) (noReceipt text)

theorem Stn.execute_submit_of_refusal {s n : Stn} {sub : Nat} {p : Priority} {body text : List Byte}
    (h : s.execute (.submit sub p body) = (n, .reply (str "X/" ++ text))) : n = s := by
  obtain accepted | ⟨left, -⟩ := s.execute_submit_acceptedOrLeft sub p body
  · rw [h] at accepted
    exact absurd (congrArg List.head? (Result.reply.inj accepted)) (by simp [replyK, str])
  · rw [h] at left
    exact left

/-- A refused notice is owed: the record's meter changes, not the store (R170). -/
theorem Stn.offerNotice_store_of_none {s : Stn} {sub : Nat} (refused : s.createNotice sub = none) :
    (s.offerNotice sub).store = s.store := by
  simp [Stn.offerNotice, refused]

/-! ### A stand-down

A custodian change can execute a request of this station, and a submit moves the counter. A stand-down has
emptied the pending table and the outbox before it changes custodians, so that nothing is executed. -/

/-- The store is x, no request is pending and the outbox is empty. -/
def Stn.IdleWith (s : Stn) (x : Store) : Prop := s.store = x ∧ s.req.pend = [] ∧ s.bus.outbox = []

namespace Stn.IdleWith

variable {s : Stn} {x : Store}

theorem of_eq {t : Stn} (h : s.IdleWith x) (store : t.store = s.store) (req : t.req = s.req)
    (outbox : t.bus.outbox = s.bus.outbox) : t.IdleWith x := by
  obtain ⟨hstore, hpend, houtbox⟩ := h
  exact ⟨store.trans hstore, by rw [req, hpend], outbox.trans houtbox⟩

theorem updEntry (h : s.IdleWith x) (k : Station) (f : MapEntry → MapEntry) : (s.updEntry k f).IdleWith x :=
  h.of_eq (by simp) (by simp) (by simp)

/-- No FORWARD is re-addressed and no entry redirected. -/
theorem custodianChanged (h : s.IdleWith x) (w : Places) (k : Station) : (s.custodianChanged w k).IdleWith x := by
  obtain ⟨hstore, hpend, houtbox⟩ := h
  simp [Stn.custodianChanged, Stn.dueHome, Stn.waitingHome, Stn.IdleWith, updWhere, hstore, hpend, houtbox]

theorem changeCustodian (h : s.IdleWith x) (w : Places) (k : Station) (c : Option Station) :
    (s.changeCustodian w k c).IdleWith x := by
  unfold Stn.changeCustodian
  split
  · exact h
  · exact (h.updEntry ..).custodianChanged w k

theorem setCustodian (h : s.IdleWith x) (w : Places) (k : Station) (c : Option Station) :
    (s.setCustodian w k c).IdleWith x := by
  unfold Stn.setCustodian
  dsimp only
  split
  · exact (h.changeCustodian ..).changeCustodian ..
  · exact h.changeCustodian ..

theorem startMirror (h : s.IdleWith x) : s.startMirror.IdleWith x := by
  obtain ⟨hstore, hpend, houtbox⟩ := h
  refine ⟨by simpa using hstore, by simpa using hpend, ?_⟩
  unfold Stn.startMirror
  split <;> simp [houtbox]

theorem becomeLive (h : s.IdleWith x) (w : Places) : (s.becomeLive w).IdleWith x := by
  have live : { s with cust.state := .live }.IdleWith x := h
  have known : ∀ c, ({ s with cust.state := .live }.setCustodian w s.self c).IdleWith x := live.setCustodian w s.self
  unfold Stn.becomeLive
  dsimp only
  split <;> split
  · exact (known _).startMirror
  · exact known _
  · exact live.startMirror
  · exact live

theorem abortReturn (h : s.IdleWith x) : s.abortReturn.IdleWith x := by
  obtain ⟨hstore, hpend, houtbox⟩ := h
  refine ⟨by simpa using hstore, by simpa using hpend, ?_⟩
  unfold Stn.abortReturn
  split <;> simp [Stn.clearReturnWalk, houtbox]

theorem dropNotes (h : s.IdleWith x) (k : Station) : (s.dropNotes k).IdleWith x := by
  obtain ⟨hstore, hpend, houtbox⟩ := h
  refine ⟨by simpa using hstore, by simpa using hpend, ?_⟩
  unfold Stn.dropNotes
  simp only [houtbox, List.filter_nil, List.any_nil, Bool.false_eq_true, if_false]
  split <;> rfl

theorem loseReceipts (h : s.IdleWith x) (k : Station) : (s.loseReceipts k).IdleWith x := by
  obtain ⟨hstore, hpend, houtbox⟩ := h
  simp [Stn.loseReceipts, Stn.IdleWith, updWhere, hstore, hpend, houtbox]

/-- A view FAILED leaves the held marks, drops the notes and answers the requests by receipt. -/
theorem viewNotes_failed (h : s.IdleWith x) (k : Station) : (s.viewNotes k .failed).IdleWith x := by
  have held : (s.holdNotes k .failed).IdleWith x := h
  exact (held.dropNotes k).loseReceipts k

theorem viewReturn_failed (h : s.IdleWith x) (w : Places) (k : Station) (old : View) (episode : Bool) :
    (s.viewReturn w k old .failed episode).IdleWith x := by
  unfold Stn.viewReturn
  simp only [View.down, if_true]
  repeat' split
  · exact h
  · exact h.abortReturn
  · exact h

theorem viewBuddy (h : s.IdleWith x) (w : Places) (k : Station) (v : View) : (s.viewBuddy w k v).IdleWith x := by
  unfold Stn.viewBuddy
  repeat' split
  · exact h.startMirror
  · exact h.becomeLive w
  · exact h
  · exact h

theorem changeView_failed (h : s.IdleWith x) (w : Places) (k : Station) (episode : Bool) :
    (s.changeView w k .failed episode).IdleWith x := by
  unfold Stn.changeView
  split
  · exact h
  · exact (((h.updEntry ..).viewNotes_failed k).viewReturn_failed ..).viewBuddy ..

/-- Steps that each keep the station idle keep it idle together. -/
theorem foldl {α : Type} {f : Stn → α → Stn} (step : ∀ t a, t.IdleWith x → (f t a).IdleWith x)
    (h : s.IdleWith x) (l : List α) : (l.foldl f s).IdleWith x :=
  List.foldlRecOn l f h fun t ht a _ => step t a ht

theorem failView (h : s.IdleWith x) (w : Places) (k : Station) : (s.failView w k).IdleWith x := by
  unfold Stn.failView
  split
  · exact h
  · refine (h.changeView_failed w k false).foldl (fun t a ht => ?_) _
    split
    · exact ht.setCustodian ..
    · exact ht

theorem bothDown (h : s.IdleWith x) (w : Places) (fuel : Nat) : (Stn.bothDown w fuel s).IdleWith x := by
  induction fuel generalizing s with
  | zero => exact h
  | succ fuel ih =>
    unfold Stn.bothDown
    split
    · exact h
    · exact ih ((h.failView w _).setCustodian w _ none)

theorem loseCustody (h : s.IdleWith x) : s.loseCustody.IdleWith x := by
  have cleared : { s with cust.custody := 0 }.IdleWith x := h
  exact cleared.foldl (fun _ k ht => ht.setCustodian .atEnd k none) _

end Stn.IdleWith

/-- A stand-down empties the store but for its counter and its frame number (R52). -/
theorem Stn.standDown_store (s : Stn) : s.standDown.store =
    { s.store with messages := [], urgent := [], normal := [], outcomes := [] } := by
  unfold Stn.standDown
  dsimp only
  refine (Stn.IdleWith.bothDown (Stn.IdleWith.loseCustody ?_) .atEnd 16).1
  exact ⟨by simp, by simp, by simp⟩

/-! ### Power-on and the reset line -/

theorem Stn.restart_serial (a b : Bool) : (Stn.restart a b).store.serial = 0 := rfl

/-- Settles O26: the search of R105 meets a free value, because a store within its capacities holds fewer serials
than it looks at; the queues and ready lists that follow leave the serials; and a stand-down, with no request left
to execute, changes of the store only what it empties. -/
theorem receiptSerialsAreFirstFreeAndUnique : Obligations.ReceiptSerialsAreFirstFreeAndUnique := by
  refine ⟨fun s sub p origin body reserved messages outcomes => ?_, fun s n sub p body text => ⟨?_, fun h => ?_⟩,
    fun s sub refused => ?_, fun s => ?_, fun s a b t restarted => ?_⟩
  · intro inUse t
    obtain ⟨n, first, before, free⟩ := Stn.nextSerial_firstFree messages outcomes
    obtain ⟨added, counter, kept⟩ := s.acceptMessage_serials sub p origin body reserved
    refine ⟨⟨n, first, before, free, first ▸ added, kept, first ▸ counter⟩, fun unique => ?_⟩
    exact Stn.acceptMessage_serialsUsed_nodup (first ▸ free) unique sub p origin body reserved
  · exact Stn.execute_submit_receipt
  · rw [Stn.execute_submit_of_refusal h]
  · rw [Stn.offerNotice_store_of_none refused]
  · rw [Stn.standDown_store]
  · obtain h | h := restarted <;> cases h <;> exact Stn.restart_serial _ _

end Sys2Proof.Machine
end


section
/-!
SUPPORT. The invariants of every step (R4, R18, R64, R71, R74, R173, R179 and the capacities). `Keeps s t` says that t
meets each of the three where s does. It is reflexive and transitive, so that an operation keeps the invariants where
its parts do; and a change of what no invariant reads keeps them.
-/

namespace Sys2Proof.Machine

/-! ### What the invariants read -/

/-- What the invariant of the lines reads. -/
def Stn.lineGauge (s : Stn) : Phase × Vector Line 4 := (s.ctl.phase, s.intake.lines)

/-- What the capacities read: lengths, but for the take memories and the pause of the drain walk. -/
structure CapGauge where
  active : Nat
  blocks : List Nat
  outcomes : Nat
  outbox : Nat
  memory : Vector (List NoteSerial) 16
  pend : Nat
  cache : Nat
  claims : Nat
  recent : Nat
  queue : Nat
  forming : Nat
  pause : Pause

def Stn.capGauge (s : Stn) : CapGauge :=
  { active := s.subs.active.length, blocks := s.store.messages.map (·.blocks.length),
    outcomes := s.store.outcomes.length, outbox := s.bus.outbox.length, memory := s.bus.memory,
    pend := s.req.pend.length, cache := s.req.cache.length, claims := s.air.claims.length,
    recent := s.ret.recent.length, queue := s.bill.queue.length, forming := s.bill.forming.length,
    pause := s.bill.pause }

/-- What the law of units reads: of a record its number and its units, of an entry under formation its units. -/
structure UnitGauge where
  active : List (Nat × Nat)
  forming : List Nat
  grant : Grant
  draining : Bool
  returning : Bool
  pause : Pause
  meter : Meters

/-- The subscriber number and the units of a record. -/
def Record.holding (r : Record) : Nat × Nat := (r.admin.sub, r.meter.total)

def Stn.unitGauge (s : Stn) : UnitGauge :=
  { active := s.subs.active.map Record.holding, forming := s.bill.forming.map (·.total), grant := s.subs.grant,
    draining := s.draining, returning := s.returnRunning, pause := s.bill.pause, meter := s.meter }

/-- The units that the totals say this station holds (R173). -/
def Meters.net (m : Meters) : Total := m.charged + m.returnedIn - m.billed - m.returnedOut - m.unmetered

/-- The law of units with what it rests on, but that the totals are c units beyond what is held: an operation that
moves units in several steps is off the law between them. -/
def UnitsOff (c : Total) (s : Stn) : Prop := ActiveUnique s ∧ GrantOk s ∧ s.meter.net = units s.unitsHeld + c

theorem unitsOff_zero_iff {s : State} : UnitsOff 0 s.stn ↔ UnitsInv s := by
  have law : s.stn.meter.net = units s.stn.unitsHeld + 0 ↔ UnitsBalance s.stn := by
    simp only [Meters.net, UnitsBalance]
    constructor <;> intro h <;> linear_combination h
  simp only [UnitsOff, UnitsInv, law]

theorem LinesOk.congr {s t : Stn} (same : t.lineGauge = s.lineGauge) (h : LinesOk s) : LinesOk t := by
  simp only [Stn.lineGauge, Prod.mk.injEq] at same
  obtain ⟨phase, lines⟩ := same
  simpa [LinesOk, Stn.line, Stn.linesUp, phase, lines] using h

/-- The capacities, of what they read. -/
structure CapGauge.Fits (g : CapGauge) : Prop where
  active : g.active ≤ Config.tableCap
  entries : g.blocks.length ≤ Config.entryCap
  blocks : g.blocks.sum ≤ Config.blockCap
  outcomes : g.outcomes ≤ Config.outcomeCap
  outbox : g.outbox ≤ Config.outboxCap
  memory : ∀ k : Station, (g.memory.get k).length ≤ Config.takeMemoryCap
  pend : g.pend ≤ Config.pendingCap
  cache : g.cache ≤ Config.cacheCap
  claims : g.claims ≤ Config.claimCap
  recent : g.recent ≤ Config.recentCap
  queue : g.queue ≤ Config.billingCap
  forming : g.forming ≤ Config.blockEntries
  full : g.forming = Config.blockEntries → g.pause = .full

theorem capacities_iff {s : Stn} : Capacities s ↔ s.capGauge.Fits := by
  have entries : s.capGauge.blocks.length = s.store.messages.length := List.length_map ..
  constructor
  · rintro ⟨a, b, c, d, e, f, g, h, i, j, k, l, m⟩
    exact ⟨a, entries ▸ b, c, d, e, f, g, h, i, j, k, l, m⟩
  · rintro ⟨a, b, c, d, e, f, g, h, i, j, k, l, m⟩
    exact ⟨a, entries ▸ b, c, d, e, f, g, h, i, j, k, l, m⟩

theorem Capacities.congr {s t : Stn} (same : t.capGauge = s.capGauge) (h : Capacities s) : Capacities t := by
  rw [capacities_iff, same]
  exact capacities_iff.1 h

theorem ActiveUnique.of_holding {s t : Stn}
    (same : t.subs.active.map Record.holding = s.subs.active.map Record.holding) (h : ActiveUnique s) :
    ActiveUnique t := by
  have subs := congrArg (List.map Prod.fst) same
  rw [List.map_map, List.map_map] at subs
  exact (congrArg List.Nodup subs).mpr h

theorem unitsOfRecords_congr {s t : Stn}
    (same : t.subs.active.map Record.holding = s.subs.active.map Record.holding) :
    (t.subs.active.map (·.meter.total)).sum = (s.subs.active.map (·.meter.total)).sum := by
  have totals := congrArg (List.map Prod.snd) same
  rw [List.map_map, List.map_map] at totals
  exact congrArg List.sum totals

theorem UnitsOff.congr {s t : Stn} (same : t.unitGauge = s.unitGauge) {c : Total} (h : UnitsOff c s) :
    UnitsOff c t := by
  simp only [Stn.unitGauge, UnitGauge.mk.injEq] at same
  obtain ⟨active, forming, grant, draining, returning, pause, meter⟩ := same
  have held : t.unitsHeld = s.unitsHeld := by simp only [Stn.unitsHeld, unitsOfRecords_congr active, forming]
  have none : t.bill.forming = [] ↔ s.bill.forming = [] := by
    rw [← List.map_eq_nil_iff (f := FormEntry.total), forming, List.map_eq_nil_iff]
  obtain ⟨unique, walks, balance⟩ := h
  refine ⟨unique.of_holding active, ?_, ?_⟩
  · simpa only [GrantOk, draining, grant, returning, pause, none] using walks
  · rw [meter, held, balance]

/-! ### Keeping the invariants -/

/-- Where s meets one of the invariants, t does. -/
structure Keeps (s t : Stn) : Prop where
  lines : LinesOk s → LinesOk t
  caps : Capacities s → Capacities t
  units : ∀ c, UnitsOff c s → UnitsOff c t

theorem Keeps.refl (s : Stn) : Keeps s s := ⟨id, id, fun _ => id⟩

theorem Keeps.trans {s t u : Stn} (st : Keeps s t) (tu : Keeps t u) : Keeps s u :=
  ⟨tu.lines ∘ st.lines, tu.caps ∘ st.caps, fun c => tu.units c ∘ st.units c⟩

/-- What no invariant reads may change. -/
theorem Keeps.of_same {s t : Stn} (lines : t.lineGauge = s.lineGauge) (caps : t.capGauge = s.capGauge)
    (units : t.unitGauge = s.unitGauge) : Keeps s t :=
  ⟨LinesOk.congr lines, Capacities.congr caps, fun _ => UnitsOff.congr units⟩

/-- Steps that each keep the invariants keep them together. -/
theorem Keeps.foldl {α : Type} {f : Stn → α → Stn} (step : ∀ s a, Keeps s (f s a)) (l : List α) (s : Stn) :
    Keeps s (l.foldl f s) := by
  induction l generalizing s with
  | nil => exact .refl s
  | cons a l ih => exact (step s a).trans (ih (f s a))

/-- A change of the outbox, and of what no invariant reads, that leaves no more notes or no more than 32. -/
theorem Keeps.of_outbox {s t : Stn} (lines : t.lineGauge = s.lineGauge)
    (caps : { t.capGauge with outbox := s.capGauge.outbox } = s.capGauge) (units : t.unitGauge = s.unitGauge)
    (room : t.bus.outbox.length ≤ s.bus.outbox.length ∨ t.bus.outbox.length ≤ Config.outboxCap) : Keeps s t := by
  refine ⟨LinesOk.congr lines, fun h => ?_, fun _ => UnitsOff.congr units⟩
  rw [capacities_iff] at h ⊢
  have fits : ({ t.capGauge with outbox := s.capGauge.outbox } : CapGauge).Fits := caps ▸ h
  exact { fits with outbox := room.elim (·.trans h.outbox) id }

/-! ### The tables, the outbox and the pending entries -/

/-- A list's images under a function that a change keeps. -/
theorem map_updWhere {α β : Type} {p : α → Bool} {f : α → α} {g : α → β} (keeps : ∀ x, p x = true → g (f x) = g x)
    (l : List α) : (updWhere p f l).map g = l.map g := by
  rw [updWhere, List.map_map]
  refine List.map_congr_left fun x _ => ?_
  simp only [Function.comp_apply]
  split
  next h => exact keeps x h
  next => rfl

/-- A change of records that keeps numbers and units. -/
theorem Keeps.of_active {s : Stn} {p : Record → Bool} {f : Record → Record}
    (keeps : ∀ r, p r = true → (f r).holding = r.holding) :
    Keeps s { s with subs.active := updWhere p f s.subs.active } := by
  refine .of_same rfl ?_ ?_
  · simp [Stn.capGauge]
  · simp only [Stn.unitGauge, map_updWhere keeps]
    rfl

theorem Stn.updRec_keeps (s : Stn) (sub : Nat) {f : Record → Record}
    (keeps : ∀ r, (f r).holding = r.holding := by exact fun _ => rfl) : Keeps s (s.updRec sub f) :=
  .of_active fun r _ => keeps r

theorem Stn.updMeter_keeps (s : Stn) (sub : Nat) {f : MeterFields → MeterFields}
    (keeps : ∀ m, (f m).total = m.total := by exact fun _ => rfl) : Keeps s (s.updMeter sub f) :=
  s.updRec_keeps sub fun r => by simp [Record.holding, keeps]

theorem Stn.updEntry_keeps (s : Stn) (k : Station) (f : MapEntry → MapEntry) : Keeps s (s.updEntry k f) :=
  .of_same rfl rfl rfl

theorem Stn.updStandby_keeps (s : Stn) (sub : Nat) (f : StandbyRec → StandbyRec) : Keeps s (s.updStandby sub f) :=
  .of_same rfl rfl rfl

/-- A change of messages that keeps their blocks. -/
theorem Keeps.of_messages {s : Stn} {p : Message → Bool} {f : Message → Message}
    (keeps : ∀ m, p m = true → (f m).blocks.length = m.blocks.length) :
    Keeps s { s with store.messages := updWhere p f s.store.messages } := by
  refine .of_same rfl ?_ rfl
  simp only [Stn.capGauge, map_updWhere (g := fun m : Message => m.blocks.length) keeps]

theorem Stn.updMsg_keeps (s : Stn) (serial : Serial) {f : Message → Message}
    (keeps : ∀ m, (f m).blocks = m.blocks := by exact fun _ => rfl) : Keeps s (s.updMsg serial f) :=
  .of_messages fun m _ => by rw [keeps]

theorem Stn.updPend_keeps (s : Stn) (tag : Tag) (f : PendEntry → PendEntry) : Keeps s (s.updPend tag f) :=
  .of_same rfl (by simp [Stn.capGauge, Stn.updPend]) rfl

theorem Stn.pushNote_keeps {s : Stn} (free : s.outboxFree = true) (n : Note) : Keeps s (s.pushNote n) := by
  refine .of_outbox rfl rfl rfl (.inr ?_)
  simpa [Stn.outboxFree] using free

/-- Notes leave the outbox. -/
theorem Keeps.of_outbox_filter (s : Stn) (p : Note → Bool) :
    Keeps s { s with bus.outbox := s.bus.outbox.filter p } :=
  .of_outbox rfl rfl rfl (.inl (List.length_filter_le ..))

/-- Notes of the outbox are changed. -/
theorem Keeps.of_outbox_updWhere (s : Stn) (p : Note → Bool) (f : Note → Note) :
    Keeps s { s with bus.outbox := updWhere p f s.bus.outbox } :=
  .of_outbox rfl rfl rfl (.inl (length_updWhere ..).le)

theorem Stn.offerOne_keeps (s : Stn) (e : PendEntry) : Keeps s (s.offerOne e) := by
  unfold Stn.offerOne
  split
  · dsimp only
    split
    next h =>
      rw [Bool.and_eq_true] at h
      exact Stn.pushNote_keeps h.2 _
    next => exact .refl s
  · exact .refl s

theorem Stn.offerWaiting_keeps (s : Stn) : Keeps s s.offerWaiting := Keeps.foldl Stn.offerOne_keeps _ s

theorem Stn.givePlaces_keeps (s before : Stn) : Keeps s (s.givePlaces before) := by
  unfold Stn.givePlaces
  split
  · exact s.offerWaiting_keeps
  · exact .refl s

theorem Stn.givePlacesAt_keeps (w : Places) (s before : Stn) : Keeps s (s.givePlacesAt w before) := by
  cases w with
  | atOnce => exact s.givePlaces_keeps before
  | atEnd => exact .refl s

theorem Stn.mirrorToRestart_keeps (s : Stn) : Keeps s s.mirrorToRestart := by
  unfold Stn.mirrorToRestart
  split
  · exact (Keeps.of_outbox_filter s _).trans (.of_same rfl rfl rfl)
  · exact .of_same rfl rfl rfl

theorem Stn.handChange_keeps (s : Stn) (body : NoteBody) : Keeps s (s.handChange body) := by
  unfold Stn.handChange
  repeat' split
  · exact .refl s
  next free => exact Stn.pushNote_keeps free _
  · exact s.mirrorToRestart_keeps

theorem Stn.handMirror_keeps (s : Stn) (sub : Nat) : Keeps s (s.handMirror sub) := by
  unfold Stn.handMirror
  repeat' split
  · exact s.handChange_keeps _
  · exact .refl s
  · exact .refl s

end Sys2Proof.Machine
end


section
/-!
SUPPORT. The store, the meter and the delivery of messages keep the invariants: an acceptance needs the room it is
given, and what a roll or a settlement takes from one place it puts into another (R106, R107, R166 to R168).
-/

namespace Sys2Proof.Machine

/-! ### Units that move -/

@[simp] theorem units_add (m n : Nat) : units (m + n) = units m + units n := BitVec.ofNat_add m n

/-- A capped addition loses nothing: what the field does not take is the excess. -/
theorem addCapped_add (cap a b : Nat) : (addCapped cap a b).1 + (addCapped cap a b).2 = a + b := by
  unfold addCapped
  split <;> simp only <;> omega

/-- With unique keys a change of the elements with one key changes one summand. -/
theorem sum_updWhere_of_find? {α : Type} {key : α → Nat} {k : Nat} {f : α → α} {val : α → Nat} {l : List α} {x : α}
    (unique : (l.map key).Nodup) (found : l.find? (fun y => decide (key y = k)) = some x) :
    ((updWhere (fun y => decide (key y = k)) f l).map val).sum + val x = (l.map val).sum + val (f x) := by
  induction l with
  | nil => cases found
  | cons y ys ih =>
    rw [List.map_cons, List.nodup_cons] at unique
    obtain ⟨fresh, unique⟩ := unique
    by_cases hy : key y = k
    · have same : updWhere (fun y => decide (key y = k)) f ys = ys := by
        rw [updWhere]
        refine (List.map_congr_left fun z hz => if_neg ?_).trans (List.map_id ys)
        rw [decide_eq_true_eq]
        exact fun hk => fresh (List.mem_map.2 ⟨z, hz, hk.trans hy.symm⟩)
      obtain rfl : y = x := by simpa [hy] using found
      rw [updWhere] at same
      simp only [updWhere, List.map_cons, same, hy, decide_true, if_true, List.sum_cons]
      omega
    · have rest := ih unique (by simpa [hy] using found)
      rw [updWhere] at rest
      simp only [updWhere, List.map_cons, hy, decide_false, Bool.false_eq_true, if_false, List.sum_cons]
      omega

/-- With unique keys the elements without one key leave out one summand. -/
theorem sum_filter_of_find? {α : Type} {key : α → Nat} {k : Nat} {val : α → Nat} {l : List α} {x : α}
    (unique : (l.map key).Nodup) (found : l.find? (fun y => decide (key y = k)) = some x) :
    ((l.filter fun y => decide (key y ≠ k)).map val).sum + val x = (l.map val).sum := by
  induction l with
  | nil => cases found
  | cons y ys ih =>
    rw [List.map_cons, List.nodup_cons] at unique
    obtain ⟨fresh, unique⟩ := unique
    by_cases hy : key y = k
    · have same : ys.filter (fun y => decide (key y ≠ k)) = ys := by
        rw [List.filter_eq_self]
        intro z hz
        rw [decide_eq_true_eq]
        exact fun hk => fresh (List.mem_map.2 ⟨z, hz, hk.trans hy.symm⟩)
      obtain rfl : y = x := by simpa [hy] using found
      rw [List.filter_cons_of_neg (by simpa using hy), same, List.map_cons, List.sum_cons, Nat.add_comm]
    · have rest := ih unique (by simpa [hy] using found)
      rw [List.filter_cons_of_pos (by simpa using hy), List.map_cons, List.map_cons, List.sum_cons, List.sum_cons]
      omega

/-- Numbers stay unique behind a change that keeps them. -/
theorem ActiveUnique.updMeter {s : Stn} (unique : ActiveUnique s) (sub : Nat) (f : MeterFields → MeterFields) :
    ActiveUnique (s.updMeter sub f) := by
  have subs : (updWhere (fun r => decide (r.admin.sub = sub)) (fun r : Record => { r with meter := f r.meter })
      s.subs.active).map (·.admin.sub) = s.subs.active.map (·.admin.sub) := map_updWhere (by simp) _
  exact (congrArg List.Nodup subs).mpr unique

/-- The units of one record change and the totals with them. -/
theorem UnitsOff.updMeter {s : Stn} {c d : Total} (h : UnitsOff c s) {sub : Nat} {r : Record}
    (found : s.rec? sub = some r) {f : MeterFields → MeterFields} {m : Meters}
    (moved : m.net + units r.meter.total + c = s.meter.net + units (f r.meter).total + d) :
    UnitsOff d { s.updMeter sub f with meter := m } := by
  obtain ⟨unique, walks, balance⟩ := h
  refine ⟨unique.updMeter sub f, walks, ?_⟩
  have shifted := sum_updWhere_of_find? (f := fun r : Record => { r with meter := f r.meter })
    (val := fun r => r.meter.total) unique found
  have held : (s.updMeter sub f).unitsHeld + r.meter.total = s.unitsHeld + (f r.meter).total := by
    simp only [Stn.unitsHeld, Stn.updMeter, Stn.updRec]
    dsimp only at shifted
    omega
  have held48 := congrArg units held
  rw [units_add, units_add] at held48
  change m.net = units (s.updMeter sub f).unitsHeld + d
  linear_combination moved + balance - held48

/-! ### The store -/

theorem Stn.joinReady_keeps (s : Stn) (p : Priority) (serial : Serial) : Keeps s (s.joinReady p serial) := by
  cases p <;> exact .of_same rfl rfl rfl

theorem Stn.leaveReady_keeps (s : Stn) (serial : Serial) : Keeps s (s.leaveReady serial) := .of_same rfl rfl rfl

theorem Stn.makeReady_keeps (s : Stn) (serial : Serial) : Keeps s (s.makeReady serial) := by
  unfold Stn.makeReady
  split
  · exact (s.updMsg_keeps serial).trans (Stn.joinReady_keeps ..)
  · exact .refl s

/-- A change of a record's queue. -/
theorem Stn.updQueue_keeps (s : Stn) (sub : Nat) (f : Record → List Serial) :
    Keeps s (s.updRec sub fun r => { r with queue := f r }) :=
  s.updRec_keeps sub

theorem Stn.placeInQueue_keeps (s : Stn) (sub : Nat) (p : Priority) (serial : Serial) :
    Keeps s (s.placeInQueue sub p serial) := by
  unfold Stn.placeInQueue
  split
  next => exact .refl s
  next =>
    split
    next => exact (s.updQueue_keeps sub _).trans (Stn.makeReady_keeps ..)
    next head rest _ =>
      split
      next => exact s.updQueue_keeps sub _
      next =>
        split
        · exact (((s.updQueue_keeps sub _).trans (Stn.leaveReady_keeps ..)).trans
            (Stn.updMsg_keeps _ head)).trans (Stn.makeReady_keeps ..)
        · exact s.updQueue_keeps sub _
      next => exact s.updQueue_keeps sub _

/-- A body is cut into as many blocks as it needs of 40 characters (R104). -/
theorem length_cutBlocks {fuel : Nat} {body : List Byte} (enough : body.length ≤ fuel) :
    (cutBlocks fuel body).length = segments body := by
  induction fuel generalizing body with
  | zero =>
    obtain rfl : body = [] := by simpa using enough
    rfl
  | succ fuel ih =>
    cases body with
    | nil => rfl
    | cons b bs =>
      have rest := ih (body := (b :: bs).drop Config.blockChars) (by
        simp only [List.length_drop, List.length_cons, Config.blockChars] at enough ⊢
        omega)
      rw [cutBlocks, List.length_cons, rest]
      simp only [segments, List.length_drop, List.length_cons, Config.blockChars]
      omega

theorem length_blocksOf (body : List Byte) : (blocksOf body).length = segments body := length_cutBlocks le_rfl

/-- An acceptance keeps the capacities where the store has room for it (R106). -/
theorem Stn.acceptMessage_keeps {s : Stn} {body : List Byte} (room : s.hasRoom body = true) (sub : Nat) (p : Priority)
    (origin : MsgOrigin) (reserved : Nat) : Keeps s (s.acceptMessage sub p origin body reserved) := by
  refine Keeps.trans ?_ (Stn.placeInQueue_keeps ..)
  refine ⟨.congr rfl, fun h => ?_, fun _ => .congr rfl⟩
  obtain ⟨entry, fits⟩ := of_decide_eq_true room
  simp only [Stn.freeEntries, Stn.freeBlocks] at entry fits
  obtain ⟨active, entries, blocks, rest⟩ := h
  refine ⟨active, ?_, ?_, rest⟩
  · simp only [List.length_append, List.length_singleton]
    omega
  · simp only [List.map_append, List.map_cons, List.map_nil, List.sum_append, List.sum_singleton, length_blocksOf]
    omega

theorem Stn.createNotice_keeps {s t : Stn} {sub : Nat} (h : s.createNotice sub = some t) : Keeps s t := by
  unfold Stn.createNotice at h
  split at h
  next room =>
    cases h
    exact Stn.acceptMessage_keeps room ..
  next => cases h

/-! ### The meter -/

theorem Stn.setService_keeps (s : Stn) (sub : Nat) (v : Service) : Keeps s (s.setService sub v) :=
  (s.updRec_keeps sub).trans (Stn.handMirror_keeps ..)

theorem Stn.rollTest_keeps (s : Stn) (sub : Nat) : Keeps s (s.rollTest sub) := by
  unfold Stn.rollTest
  repeat' split
  · exact s.setService_keeps ..
  · exact .refl s
  · exact .refl s

/-- Meter fields of one record and unit totals change: neither lines nor capacities read them. -/
theorem Keeps.of_meter {s : Stn} {sub : Nat} {f : MeterFields → MeterFields} {m : Meters}
    (units : ∀ c, UnitsOff c s → UnitsOff c { s.updMeter sub f with meter := m }) :
    Keeps s { s.updMeter sub f with meter := m } :=
  ⟨.congr rfl, .congr (by simp [Stn.capGauge, Stn.updMeter]), units⟩

/-- What a roll takes from the current units goes to the closed units or is its excess (R167, R168). -/
theorem MeterFields.rolled_total (m : MeterFields) (p : Period) :
    (m.rolled p).total + m.rollExcess = m.total := by
  have moved := addCapped_add Config.unitLimit m.closed m.current
  simp only [MeterFields.rolled, MeterFields.rollExcess, MeterFields.total]
  omega

theorem Stn.roll_keeps (s : Stn) (sub : Nat) : Keeps s (s.roll sub) := by
  unfold Stn.roll
  split
  next r found =>
    split
    · refine Keeps.trans (Keeps.of_meter fun c h => h.updMeter found ?_) (Stn.rollTest_keeps ..)
      have rolled := congrArg units (r.meter.rolled_total s.bill.period)
      rw [units_add] at rolled
      simp only [Meters.net, Stn.updMeter_frame]
      linear_combination -rolled
    · exact .refl s
  next => exact .refl s

/-- The marks of a notice: sent or owed (R169, R170). -/
theorem Stn.offerNotice_keeps (s : Stn) (sub : Nat) : Keeps s (s.offerNotice sub) := by
  unfold Stn.offerNotice
  split
  next h => exact (Stn.createNotice_keeps h).trans (Stn.updMeter_keeps _ sub)
  next => exact s.updMeter_keeps sub

theorem Stn.noticeTest_keeps (s : Stn) (sub : Nat) : Keeps s (s.noticeTest sub) := by
  unfold Stn.noticeTest
  repeat' split
  · exact s.updMeter_keeps sub
  · exact s.offerNotice_keeps sub
  · exact .refl s
  · exact .refl s

theorem Stn.reserve_keeps (s : Stn) (sub charge : Nat) : Keeps s (s.reserve sub charge) :=
  (s.updMeter_keeps sub).trans (Stn.noticeTest_keeps ..)

/-- What a charge does not add to the current units is its excess (R166, R167). -/
theorem MeterFields.charged_total (m : MeterFields) (reserved a : Nat) :
    (m.charged reserved a).total + (addCapped Config.unitLimit m.current a).2 = m.total + a := by
  have moved := addCapped_add Config.unitLimit m.current a
  simp only [MeterFields.charged, MeterFields.total]
  omega

theorem Stn.settle_keeps (s : Stn) (sub : Nat) (origin : MsgOrigin) (reserved : Nat) (o : Outcome)
    (transmissions : Nat) : Keeps s (s.settle sub origin reserved o transmissions) := by
  unfold Stn.settle
  dsimp only
  refine (s.roll_keeps sub).trans ?_
  split
  next r found =>
    generalize actualCharge _ _ _ _ _ = a
    refine Keeps.trans ?_ (Stn.noticeTest_keeps ..)
    refine Keeps.of_meter (s := s.roll sub) (sub := sub) (f := fun m => m.charged reserved a)
      (m := { (s.roll sub).meter with
        charged := (s.roll sub).meter.charged + units a,
        unmetered := (s.roll sub).meter.unmetered + units (addCapped Config.unitLimit r.meter.current a).2 })
      fun c h => h.updMeter found ?_
    have charged := congrArg units (r.meter.charged_total reserved a)
    rw [units_add, units_add] at charged
    simp only [Meters.net]
    linear_combination -charged
  next => exact .refl _

theorem Stn.offerOwed_keeps (subs : List Nat) (s : Stn) : Keeps s (Stn.offerOwed subs s) := by
  induction subs generalizing s with
  | nil => exact .refl s
  | cons sub rest ih =>
    unfold Stn.offerOwed
    split
    next h => exact ((Stn.createNotice_keeps h).trans (Stn.updMeter_keeps _ sub)).trans (ih _)
    next => exact .refl s

/-! ### Final outcomes, waits and holds -/

theorem Stn.emptyClaim_keeps (s : Stn) (serial : Serial) : Keeps s (s.emptyClaim serial) :=
  .of_same rfl (by simp [Stn.capGauge, Stn.emptyClaim]) rfl

theorem Stn.removePage_keeps (s : Stn) (serial : Serial) : Keeps s (s.removePage serial) := .of_same rfl rfl rfl

theorem Stn.leaveFlight_keeps (s : Stn) (m : Message) : Keeps s (s.leaveFlight m) := by
  unfold Stn.leaveFlight
  split
  · exact s.emptyClaim_keeps _
  · exact s.removePage_keeps _
  · exact s.leaveReady_keeps _
  · exact .refl s

theorem Stn.promoteHead_keeps (s : Stn) (sub : Nat) : Keeps s (s.promoteHead sub) := by
  unfold Stn.promoteHead
  repeat' split
  · exact s.makeReady_keeps _
  all_goals exact .refl s

/-- The outcome list holds at most 64 entries (R119). -/
theorem length_addOutcome {l : List (Serial × Outcome)} (serial : Serial) (o : Outcome)
    (h : l.length ≤ Config.outcomeCap) : (addOutcome l serial o).length ≤ Config.outcomeCap := by
  unfold addOutcome
  split <;> simp only [List.length_append, List.length_drop, List.length_singleton, Config.outcomeCap] at * <;> omega

/-- Messages leave the store and an outcome enters the list. -/
theorem Keeps.of_outcome (s : Stn) (p : Message → Bool) (serial : Serial) (o : Outcome) :
    Keeps s { s with
      store.messages := s.store.messages.filter p, store.outcomes := addOutcome s.store.outcomes serial o } := by
  refine ⟨.congr rfl, fun h => ?_, fun _ => .congr rfl⟩
  obtain ⟨active, entries, blocks, outcomes, rest⟩ := h
  have fewer : (s.store.messages.filter p).Sublist s.store.messages := List.filter_sublist
  refine ⟨active, fewer.length_le.trans entries, ?_, length_addOutcome serial o outcomes, rest⟩
  exact ((fewer.map _).sum_le_sum fun _ _ => Nat.zero_le _).trans blocks

theorem Stn.finalOutcome_keeps (s : Stn) (serial : Serial) (o : Outcome) : Keeps s (s.finalOutcome serial o) := by
  unfold Stn.finalOutcome
  split
  · exact .refl s
  · exact ((((s.leaveFlight_keeps _).trans (Stn.updQueue_keeps ..)).trans (Keeps.of_outcome ..)).trans
      (Stn.settle_keeps ..)).trans (Stn.promoteHead_keeps ..)

theorem Stn.readyWith_keeps (s : Stn) (serial : Serial) (l : Ladder) : Keeps s (s.readyWith serial l) :=
  (s.updMsg_keeps serial).trans (Stn.makeReady_keeps ..)

theorem Stn.endWait_keeps (s : Stn) (serial : Serial) (register : Bool) : Keeps s (s.endWait serial register) := by
  unfold Stn.endWait
  repeat' split
  · exact .refl s
  · exact .refl s
  · exact s.readyWith_keeps ..
  · exact s.updMsg_keeps serial
  all_goals exact s.finalOutcome_keeps ..

theorem Stn.endHold_keeps (s : Stn) (serial : Serial) : Keeps s (s.endHold serial) := by
  unfold Stn.endHold
  repeat' split
  · exact .refl s
  · exact .refl s
  · exact s.readyWith_keeps ..

theorem Stn.endCount_keeps (s : Stn) (serial : Serial) : Keeps s (s.endCount serial) := by
  unfold Stn.endCount
  repeat' split
  · exact .refl s
  · exact s.endWait_keeps ..
  · exact s.endWait_keeps ..
  · exact s.endHold_keeps ..
  · exact .refl s

theorem Stn.expire_keeps (s : Stn) (f : FrameNo) (serial : Serial) : Keeps s (s.expire f serial) := by
  unfold Stn.expire
  repeat' split
  · exact .refl s
  · exact .refl s
  · exact .refl s
  · exact s.finalOutcome_keeps ..
  · exact s.finalOutcome_keeps ..
  · exact .refl s

theorem Stn.countDown_keeps (s : Stn) : Keeps s s.countDown := by
  unfold Stn.countDown
  exact Keeps.of_messages fun _ _ => rfl

theorem Stn.airFrameStart_keeps (s : Stn) (f : FrameNo) (order : List Serial) :
    Keeps s (s.airFrameStart f order) := by
  have taken : Keeps s { s with store.frame := f } := .of_same rfl rfl rfl
  exact ((taken.trans (Stn.countDown_keeps _)).trans (Keeps.foldl Stn.endCount_keeps _ _)).trans
    (Keeps.foldl (fun s m => s.expire_keeps f m) _ _)

theorem Stn.cancel_keeps (s : Stn) (serial : Serial) : Keeps s (s.cancel serial).1 := by
  unfold Stn.cancel
  repeat' split
  · exact s.updMsg_keeps serial
  · exact .refl s
  · exact .refl s
  · exact s.finalOutcome_keeps ..
  · exact .refl s
  · exact .refl s

theorem Stn.advance_keeps (s : Stn) (serial : Serial) : Keeps s (s.advance serial) := by
  unfold Stn.advance
  dsimp only
  repeat' split
  · exact .refl s
  · exact .refl s
  · exact s.updMsg_keeps serial
  · exact s.finalOutcome_keeps ..
  · exact s.updMsg_keeps serial

theorem Stn.complete_keeps (s : Stn) (serial : Serial) : Keeps s (s.complete serial) := by
  unfold Stn.complete
  split
  next => exact .refl s
  next =>
    dsimp only
    split
    · exact (s.updMsg_keeps serial).trans (Stn.finalOutcome_keeps ..)
    · exact (s.updMsg_keeps serial).trans (Stn.finalOutcome_keeps ..)
    · exact (s.updMsg_keeps serial).trans (Stn.advance_keeps ..)

theorem Stn.completePage_keeps (s : Stn) (serial : Serial) : Keeps s (s.completePage serial) :=
  (s.removePage_keeps serial).trans (Stn.complete_keeps ..)

theorem Stn.endRun_keeps (s : Stn) (p : Page) : Keeps s (s.endRun p) := .of_same rfl rfl rfl

end Sys2Proof.Machine
end


section
/-!
SUPPORT. The walk grant and the Billing Unit keep the invariants (R18, R54, R173, R176 to R184): a walk that ends frees
the grant before it goes on, and a block takes the units of its entries from what is held.
-/

namespace Sys2Proof.Machine

/-! ### What leaves the walks alone -/

/-- The walks that share the grant, and the grant. -/
def Subscribers.walks (t : Subscribers) : Grant × DrainWalk × ReturnWalk := (t.grant, t.drain, t.ret)

theorem Stn.mirrorToRestart_walks (s : Stn) : s.mirrorToRestart.subs.walks = s.subs.walks := by
  unfold Stn.mirrorToRestart
  split <;> rfl

theorem Stn.handChange_walks (s : Stn) (body : NoteBody) : (s.handChange body).subs.walks = s.subs.walks := by
  unfold Stn.handChange
  repeat' split
  · rfl
  · rfl
  · exact s.mirrorToRestart_walks

theorem Stn.handMirror_walks (s : Stn) (sub : Nat) : (s.handMirror sub).subs.walks = s.subs.walks := by
  unfold Stn.handMirror
  repeat' split
  · exact s.handChange_walks _
  · rfl
  · rfl

theorem Stn.setService_walks (s : Stn) (sub : Nat) (v : Service) : (s.setService sub v).subs.walks = s.subs.walks :=
  Stn.handMirror_walks _ sub

theorem Stn.roll_walks (s : Stn) (sub : Nat) : (s.roll sub).subs.walks = s.subs.walks := by
  unfold Stn.roll Stn.rollTest
  repeat' split
  · exact Stn.setService_walks _ sub _
  all_goals rfl

theorem Stn.draining_congr {s t : Stn} (same : t.subs.walks = s.subs.walks) : t.draining = s.draining := by
  simp only [Subscribers.walks, Prod.mk.injEq] at same
  simp only [Stn.draining, same.2.1]

/-! ### The grant -/

theorem Stn.returnRunning_of_running {s : Stn} {phase : ReturnPhase} {pos : Option Nat}
    (h : s.subs.ret = .running phase pos) : s.returnRunning = true := by
  simp [Stn.returnRunning, h]

theorem Stn.draining_of_running {s : Stn} {pos : Option Nat} (h : s.subs.drain = .running pos) :
    s.draining = true := by
  simp [Stn.draining, h]

/-- A RUNNING return walk goes on in some phase. -/
theorem Keeps.of_returnPhase {s : Stn} (running : s.returnRunning = true) (phase : ReturnPhase) (pos : Option Nat) :
    Keeps s { s with subs.ret := .running phase pos } := by
  refine .of_same rfl rfl ?_
  simp only [Stn.unitGauge, running]
  rfl

theorem Stn.advanceReturn_keeps (s : Stn) : Keeps s s.advanceReturn := by
  unfold Stn.advanceReturn
  split
  next h =>
    have goesOn := Keeps.of_returnPhase (Stn.returnRunning_of_running h)
    repeat' split
    · exact goesOn ..
    · exact .refl s
    · exact goesOn ..
  next h =>
    split
    · exact .refl s
    · exact Keeps.of_returnPhase (Stn.returnRunning_of_running h) ..
  next => exact .refl s

/-- The walk that had the grant has ended, and nothing of a drain walk is left. -/
def Stn.GrantFree (s : Stn) : Prop :=
  s.draining = false ∧ s.returnRunning = false ∧ s.bill.forming = [] ∧ s.bill.pause = .none

/-- The law of units but for the grant, which the walk that has ended still holds. -/
def UnitsFree (c : Total) (s : Stn) : Prop :=
  ActiveUnique s ∧ s.GrantFree ∧ s.meter.net = units s.unitsHeld + c

/-- A RUNNING return walk shuts a drain walk out. -/
theorem GrantOk.of_returnRunning {s : Stn} (h : GrantOk s) (running : s.returnRunning = true) :
    s.subs.grant = .ret ∧ s.draining = false ∧ s.bill.forming = [] ∧ s.bill.pause = .none := by
  obtain ⟨drain, ret, idle⟩ := h
  have grant := ret.1 running
  have still : s.draining = false := by
    rw [← Bool.not_eq_true, drain, grant]
    nofun
  exact ⟨grant, still, idle still⟩

/-- A RUNNING drain walk shuts a return walk out. -/
theorem GrantOk.of_draining {s : Stn} (h : GrantOk s) (draining : s.draining = true) :
    s.subs.grant = .drain ∧ s.returnRunning = false := by
  obtain ⟨drain, ret, -⟩ := h
  have grant := drain.1 draining
  refine ⟨grant, ?_⟩
  rw [← Bool.not_eq_true, ret, grant]
  nofun

/-- The grant of nobody: no walk runs. -/
theorem GrantOk.grantFree {s : Stn} (h : GrantOk s) (nobody : s.subs.grant = .nobody) : s.GrantFree := by
  obtain ⟨drain, ret, idle⟩ := h
  have still : s.draining = false := by
    rw [← Bool.not_eq_true, drain, nobody]
    nofun
  have home : s.returnRunning = false := by
    rw [← Bool.not_eq_true, ret, nobody]
    nofun
  exact ⟨still, home, idle still⟩

theorem UnitsOff.free {c : Total} {s : Stn} (h : UnitsOff c s) (nobody : s.subs.grant = .nobody) :
    UnitsFree c s := by
  obtain ⟨unique, walks, balance⟩ := h
  exact ⟨unique, walks.grantFree nobody, balance⟩

theorem UnitsFree.startReturn {c : Total} {s : Stn} (h : UnitsFree c s) : UnitsOff c s.startReturn := by
  obtain ⟨unique, ⟨still, -, idle⟩, balance⟩ := h
  refine (Stn.advanceReturn_keeps _).units c ?_
  have holding := map_updWhere (p := fun r : Record => decide (r.origin = .adopted ∧ r.home = s.ward))
    (f := fun r : Record => { r with returning := true }) (g := Record.holding) (fun _ _ => rfl) s.subs.active
  refine ⟨unique.of_holding holding, ⟨?_, ?_, fun _ => idle⟩, ?_⟩
  · simpa [Stn.draining] using still
  · exact iff_of_true rfl rfl
  · have held := unitsOfRecords_congr (s := s)
      (t := { s with subs.active := updWhere _ _ s.subs.active }) holding
    rw [Stn.unitsHeld, ← held] at balance
    exact balance

theorem UnitsFree.startDrain {c : Total} {s : Stn} (h : UnitsFree c s) (p : Period) :
    UnitsOff c (s.startDrain p) := by
  obtain ⟨unique, ⟨-, home, idle, -⟩, balance⟩ := h
  refine ⟨unique, ⟨iff_of_true rfl rfl, ?_, nofun⟩, ?_⟩
  · simpa [Stn.returnRunning, Stn.startDrain] using home
  · simpa [Stn.unitsHeld, Stn.startDrain, idle] using balance

/-- The grant goes to a walk that then runs, or to nobody (R18, R178). -/
theorem UnitsFree.releaseGrant {c : Total} {s : Stn} (h : UnitsFree c s) : UnitsOff c s.releaseGrant := by
  unfold Stn.releaseGrant
  split
  next => exact h.startReturn
  next =>
    refine UnitsFree.startDrain ?_ _
    exact h
  next =>
    obtain ⟨unique, ⟨still, home, idle⟩, balance⟩ := h
    refine ⟨unique, ⟨?_, ?_, fun _ => idle⟩, balance⟩
    · simpa [Stn.draining] using still
    · simpa [Stn.returnRunning] using home

theorem Stn.startReturn_capGauge (s : Stn) : s.startReturn.capGauge = s.capGauge := by
  have advanced (t : Stn) : t.advanceReturn.subs.active = t.subs.active := by
    unfold Stn.advanceReturn
    repeat' split
    all_goals rfl
  simp [Stn.capGauge, Stn.startReturn, advanced]

theorem Capacities.startDrain {s : Stn} (h : Capacities s) (p : Period) : Capacities (s.startDrain p) := by
  rw [capacities_iff] at h ⊢
  exact { h with forming := Nat.zero_le _, full := nofun }

theorem Capacities.releaseGrant {s : Stn} (h : Capacities s) : Capacities s.releaseGrant := by
  unfold Stn.releaseGrant
  split
  · exact h.congr s.startReturn_capGauge
  · refine Capacities.startDrain ?_ _
    exact h
  · exact h

theorem Stn.startReturn_keeps {s : Stn} (nobody : s.subs.grant = .nobody) : Keeps s s.startReturn :=
  ⟨.congr (by simp [Stn.lineGauge]), .congr s.startReturn_capGauge, fun _ h => (h.free nobody).startReturn⟩

theorem Stn.startDrain_keeps {s : Stn} (nobody : s.subs.grant = .nobody) (p : Period) : Keeps s (s.startDrain p) :=
  ⟨.congr rfl, fun h => h.startDrain p, fun _ h => (h.free nobody).startDrain p⟩

/-! ### Block formation (R182, R183) -/

/-- What an entry bills and what remains of it are its total (R182). -/
theorem fieldOf_add_remainderOf (scale total : Nat) :
    fieldOf scale total * 16 ^ scale + remainderOf scale total = total := by
  have fits : fieldOf scale total * 16 ^ scale ≤ total := by
    calc fieldOf scale total * 16 ^ scale ≤ total / 16 ^ scale * 16 ^ scale :=
          Nat.mul_le_mul_right _ (Nat.min_le_left ..)
      _ ≤ total := Nat.div_mul_le_self ..
  rw [remainderOf]
  omega

theorem UnitsOff.writeOff {c : Total} {s : Stn} (h : UnitsOff c s) (n : Nat) :
    UnitsOff (c - units n) (s.writeOff n) := by
  obtain ⟨unique, walks, balance⟩ := h
  refine ⟨unique, walks, ?_⟩
  change (s.writeOff n).meter.net = units s.unitsHeld + _
  simp only [Meters.net, Stn.writeOff] at balance ⊢
  linear_combination balance

/-- The total of an entry leaves what the law counts as held: as units billed, carried or written off. -/
theorem UnitsOff.settleEntry {c : Total} {s : Stn} (h : UnitsOff c s) (scale : Nat) (e : FormEntry) :
    UnitsOff (c - units e.total) (Stn.settleEntry scale s e) := by
  have parts := congrArg units (fieldOf_add_remainderOf scale e.total)
  rw [units_add] at parts
  unfold Stn.settleEntry
  dsimp only
  split
  next r found =>
    have moved := congrArg units (addCapped_add Config.carryLimit r.meter.carry (remainderOf scale e.total))
    rw [units_add, units_add] at moved
    refine UnitsOff.congr rfl (h.updMeter found
      (f := fun m => { m with
        carry := (addCapped Config.carryLimit r.meter.carry (remainderOf scale e.total)).1,
        limit := m.limit || isLimited scale e.total })
      (m := { s.meter with
        unmetered := s.meter.unmetered +
          units (addCapped Config.carryLimit r.meter.carry (remainderOf scale e.total)).2,
        billed := s.meter.billed + units (fieldOf scale e.total * 16 ^ scale) }) ?_)
    simp only [Meters.net, MeterFields.total, units_add]
    linear_combination -moved - parts
  next =>
    obtain ⟨unique, walks, balance⟩ := h.writeOff (remainderOf scale e.total)
    refine ⟨unique, walks, ?_⟩
    change _ = units (s.writeOff (remainderOf scale e.total)).unitsHeld + _
    simp only [Meters.net] at balance ⊢
    linear_combination balance - parts

theorem UnitsOff.settleEntries {c : Total} {s : Stn} (h : UnitsOff c s) (scale : Nat) (es : List FormEntry) :
    UnitsOff (c - units (es.map (·.total)).sum) (es.foldl (Stn.settleEntry scale) s) := by
  induction es generalizing c s with
  | nil =>
    have none : c - units ([].map FormEntry.total).sum = c := by simp [units]
    rwa [none]
  | cons e es ih =>
    have rest := ih (h.settleEntry scale e)
    rw [List.map_cons, List.sum_cons, units_add]
    rwa [sub_sub] at rest

/-- The units of the entries of a formed block are no longer held (R173, R182). -/
theorem UnitsOff.formBlock {c : Total} {s : Stn} (h : UnitsOff c s) (es : List FormEntry) (p : Period) :
    UnitsOff (c - units (es.map (·.total)).sum) (s.formBlock es p) := by
  have settled := h.settleEntries (scaleOf es) es
  refine settled.congr ?_
  unfold Stn.formBlock Stn.numberBlock
  dsimp only
  split <;> rfl

theorem Stn.formBlock_lineGauge (s : Stn) (es : List FormEntry) (p : Period) :
    (s.formBlock es p).lineGauge = s.lineGauge := by
  simp [Stn.lineGauge]

theorem Stn.settleEntry_capGauge (scale : Nat) (s : Stn) (e : FormEntry) :
    (Stn.settleEntry scale s e).capGauge = s.capGauge := by
  unfold Stn.settleEntry
  dsimp only
  split <;> simp [Stn.capGauge, Stn.updMeter]

/-- Steps that each leave the capacities' gauge leave it together. -/
theorem foldl_capGauge {α : Type} {f : Stn → α → Stn} (step : ∀ s a, (f s a).capGauge = s.capGauge) (l : List α)
    (s : Stn) : (l.foldl f s).capGauge = s.capGauge := by
  induction l generalizing s with
  | nil => rfl
  | cons a l ih => rw [List.foldl_cons, ih, step]

/-- A formed block is one more in the billing queue. -/
theorem Stn.formBlock_capGauge (s : Stn) (es : List FormEntry) (p : Period) :
    (s.formBlock es p).capGauge = { s.capGauge with queue := s.bill.queue.length + 1 } := by
  have settled := foldl_capGauge (Stn.settleEntry_capGauge (scaleOf es)) es s
  simp only [Stn.capGauge, CapGauge.mk.injEq] at settled
  unfold Stn.formBlock Stn.numberBlock
  dsimp only
  split <;> simp [Stn.capGauge, settled]

theorem CapGauge.Fits.queueOneMore {s : Stn} (h : s.capGauge.Fits) (room : s.billingRoom = true) :
    ({ s.capGauge with queue := s.bill.queue.length + 1 } : CapGauge).Fits :=
  { h with queue := of_decide_eq_true room }

theorem Capacities.formBlock {s : Stn} (h : Capacities s) (room : s.billingRoom = true) (es : List FormEntry)
    (p : Period) : Capacities (s.formBlock es p) := by
  revert h
  rw [capacities_iff, capacities_iff, Stn.formBlock_capGauge]
  exact fun h => h.queueOneMore room

/-! ### The drain walk -/

theorem Stn.formBlock_grantOk_fields (s : Stn) (es : List FormEntry) (p : Period) :
    (s.formBlock es p).draining = s.draining ∧ (s.formBlock es p).bill.forming = s.bill.forming := by
  have settled (scale : Nat) (t : Stn) (e : FormEntry) :
      (Stn.settleEntry scale t e).subs.drain = t.subs.drain ∧
        (Stn.settleEntry scale t e).bill.forming = t.bill.forming := by
    unfold Stn.settleEntry
    dsimp only
    split <;> simp [Stn.updMeter]
  have all (scale : Nat) : (es.foldl (Stn.settleEntry scale) s).subs.drain = s.subs.drain ∧
      (es.foldl (Stn.settleEntry scale) s).bill.forming = s.bill.forming := by
    induction es generalizing s with
    | nil => exact ⟨rfl, rfl⟩
    | cons e es ih =>
      rw [List.foldl_cons, (ih _).1, (ih _).2]
      exact settled scale s e
  unfold Stn.formBlock Stn.numberBlock
  dsimp only
  split <;> simp [Stn.draining, all]

theorem Stn.formWalkBlock_draining (s : Stn) : s.formWalkBlock.draining = s.draining :=
  (s.formBlock_grantOk_fields s.bill.forming (s.bill.period - 1)).1

/-- The block of the walk takes the units under formation. -/
theorem UnitsOff.formWalkBlock {c : Total} {s : Stn} (h : UnitsOff c s) : UnitsOff c s.formWalkBlock := by
  obtain ⟨unique, ⟨drain, ret, -⟩, balance⟩ := h.formBlock s.bill.forming (s.bill.period - 1)
  have forming := (s.formBlock_grantOk_fields s.bill.forming (s.bill.period - 1)).2
  refine ⟨unique, ⟨drain, ret, fun _ => ⟨rfl, rfl⟩⟩, ?_⟩
  rw [Stn.unitsHeld, forming, units_add] at balance
  change (s.formBlock s.bill.forming (s.bill.period - 1)).meter.net =
    units (((s.formBlock s.bill.forming (s.bill.period - 1)).subs.active.map (·.meter.total)).sum + 0) + c
  rw [Nat.add_zero]
  linear_combination balance

/-- The block of the walk is one more in the queue, and nothing is left under formation. -/
theorem Stn.formWalkBlock_capGauge (s : Stn) : s.formWalkBlock.capGauge =
    { s.capGauge with queue := s.bill.queue.length + 1, forming := 0, pause := .none } :=
  congrArg (fun g : CapGauge => { g with forming := 0, pause := .none })
    (s.formBlock_capGauge s.bill.forming (s.bill.period - 1))

theorem Capacities.formWalkBlock {s : Stn} (h : Capacities s) (room : s.billingRoom = true) :
    Capacities s.formWalkBlock := by
  rw [capacities_iff] at h ⊢
  rw [Stn.formWalkBlock_capGauge]
  exact { h.queueOneMore room with forming := Nat.zero_le _, full := nofun }

/-- A drain walk with nothing under formation ends (R179). -/
theorem UnitsOff.endDrain {c : Total} {s : Stn} (h : UnitsOff c s) (draining : s.draining = true)
    (empty : s.bill.forming = []) : UnitsOff c s.endDrain := by
  obtain ⟨unique, walks, balance⟩ := h
  exact UnitsFree.releaseGrant ⟨unique, ⟨rfl, (walks.of_draining draining).2, empty, rfl⟩, balance⟩

theorem Capacities.endDrain {s : Stn} (h : Capacities s) (empty : s.bill.forming = []) : Capacities s.endDrain := by
  refine Capacities.releaseGrant ?_
  rw [capacities_iff] at h ⊢
  exact { h with full := by simp [Stn.capGauge, empty, Config.blockEntries] }

theorem Stn.endDrain_keeps {s : Stn} (draining : s.draining = true) (empty : s.bill.forming = []) :
    Keeps s s.endDrain :=
  ⟨.congr (by simp [Stn.lineGauge]), fun h => h.endDrain empty, fun _ h => h.endDrain draining empty⟩

theorem Stn.formWalkBlock_keeps {s : Stn} (room : s.billingRoom = true) : Keeps s s.formWalkBlock :=
  ⟨.congr (by simp [Stn.lineGauge]), fun h => h.formWalkBlock room, fun _ h => h.formWalkBlock⟩

/-- The last block of a walk, then its end. -/
theorem Stn.formLastBlock_keeps {s : Stn} (draining : s.draining = true) (room : s.billingRoom = true) :
    Keeps s s.formWalkBlock.endDrain :=
  (Stn.formWalkBlock_keeps room).trans
    (Stn.endDrain_keeps (s.formWalkBlock_draining.trans draining) rfl)

/-- In a drain walk a pause is no matter of the law of units. -/
theorem UnitsOff.pause {c : Total} {s : Stn} (h : UnitsOff c s) (draining : s.draining = true) (why : Pause) :
    UnitsOff c { s with bill.pause := why } := by
  obtain ⟨unique, ⟨drain, ret, -⟩, balance⟩ := h
  refine ⟨unique, ⟨drain, ret, fun still => ?_⟩, balance⟩
  cases draining.symm.trans still

/-- A block that is not full: a running walk has fewer than 16 entries under formation. -/
theorem CapGauge.Fits.forming_lt {s : Stn} (h : s.capGauge.Fits) (running : s.bill.pause = .none) :
    s.bill.forming.length < Config.blockEntries :=
  h.forming.lt_of_ne fun many => by cases running.symm.trans (h.full many)

/-- A running walk pauses at its last block, which is not full. -/
theorem Stn.pauseLast_keeps {s : Stn} (draining : s.draining = true) (running : s.bill.pause = .none) :
    Keeps s { s with bill.pause := .last } := by
  refine ⟨.congr rfl, fun h => ?_, fun _ h => h.pause draining .last⟩
  rw [capacities_iff] at h ⊢
  exact { h with full := fun many => absurd many (h.forming_lt running).ne }

theorem Stn.drainEnd_keeps {s : Stn} (draining : s.draining = true) (running : s.bill.pause = .none) :
    Keeps s s.drainEnd := by
  unfold Stn.drainEnd
  split
  next empty => exact Stn.endDrain_keeps draining empty
  next =>
    unfold Stn.formOrPause
    split
    next room => exact Stn.formLastBlock_keeps draining room
    next => exact Stn.pauseLast_keeps draining running

/-- The station with the closed and carry units of one record in the block under formation (R180). -/
def Stn.withEntry (s : Stn) (e : FormEntry) : Stn :=
  let s2 := s.updMeter e.sub fun m => { m with closed := 0, carry := 0 }
  { s2 with bill.forming := s2.bill.forming ++ [e] }

theorem UnitsOff.withEntry {c : Total} {s : Stn} (h : UnitsOff c s) {e : FormEntry} {r : Record}
    (found : s.rec? e.sub = some r) (total : e.total = r.meter.closed + r.meter.carry) (draining : s.draining = true) :
    UnitsOff c (s.withEntry e) := by
  obtain ⟨unique, ⟨drain, ret, -⟩, balance⟩ := h.updMeter found
    (f := fun m => { m with closed := 0, carry := 0 }) (m := s.meter) (d := c + units e.total) (by
      have none : units 0 = 0 := rfl
      simp only [MeterFields.total, total, units_add]
      linear_combination -2 * none)
  refine ⟨unique, ⟨drain, ret, fun still => ?_⟩, ?_⟩
  · cases draining.symm.trans still
  · have held : (s.withEntry e).unitsHeld =
        Stn.unitsHeld { s.updMeter e.sub fun m => { m with closed := 0, carry := 0 } with meter := s.meter } +
          e.total := by
      simp [Stn.withEntry, Stn.unitsHeld, Nat.add_assoc]
    rw [held, units_add]
    change s.meter.net = _
    linear_combination balance

theorem Stn.withEntry_capGauge (s : Stn) (e : FormEntry) :
    (s.withEntry e).capGauge = { s.capGauge with forming := s.bill.forming.length + 1 } := by
  simp [Stn.withEntry, Stn.capGauge, Stn.updMeter]

/-- The entry of a record joins the block under formation, which is formed, or pauses the walk, at 16 entries
(R180, R181). -/
theorem Stn.withEntry_keeps {s : Stn} {e : FormEntry} {r : Record} (found : s.rec? e.sub = some r)
    (total : e.total = r.meter.closed + r.meter.carry) (draining : s.draining = true)
    (running : s.bill.pause = .none) :
    Keeps s (if Config.blockEntries ≤ (s.withEntry e).bill.forming.length then (s.withEntry e).formOrPause .full
      else s.withEntry e) := by
  have lines (h : LinesOk s) : LinesOk (s.withEntry e) := h.congr rfl
  have off (c : Total) (h : UnitsOff c s) := h.withEntry found total draining
  have length : (s.withEntry e).bill.forming.length = s.bill.forming.length + 1 := by simp [Stn.withEntry]
  have more (h : Capacities s) :
      ({ s.capGauge with forming := s.bill.forming.length + 1, pause := .full } : CapGauge).Fits := by
    rw [capacities_iff] at h
    exact { h with forming := h.forming_lt running, full := fun _ => rfl }
  split
  next =>
    unfold Stn.formOrPause
    split
    next room =>
      refine ⟨fun h => (lines h).congr (by simp [Stn.lineGauge]), fun h => ?_, fun c h => (off c h).formWalkBlock⟩
      have paused : Capacities { s.withEntry e with bill.pause := .full } := by
        rw [capacities_iff]
        exact (congrArg (fun g : CapGauge => ({ g with pause := .full } : CapGauge).Fits)
          (s.withEntry_capGauge e)).mpr (more h)
      refine (paused.formWalkBlock room).congr ?_
      rw [Stn.formWalkBlock_capGauge, Stn.formWalkBlock_capGauge]
      rfl
    next =>
      refine ⟨fun h => (lines h).congr rfl, fun h => ?_, fun c h => (off c h).pause draining .full⟩
      rw [capacities_iff]
      exact (congrArg (fun g : CapGauge => ({ g with pause := .full } : CapGauge).Fits)
        (s.withEntry_capGauge e)).mpr (more h)
  next few =>
    refine ⟨lines, fun h => ?_, off⟩
    rw [capacities_iff, Stn.withEntry_capGauge]
    exact { more h with full := fun many => absurd (length.trans many).ge few }

theorem Stn.drainRecord_keeps {s : Stn} (draining : s.draining = true) (running : s.bill.pause = .none) (sub : Nat) :
    Keeps s (s.drainRecord sub) := by
  have rolled : (s.roll sub).draining = true := (Stn.draining_congr (s.roll_walks sub)).trans draining
  unfold Stn.drainRecord
  dsimp only
  have visited : Keeps s { s.roll sub with subs.drain := .running (some sub) } := by
    refine (s.roll_keeps sub).trans (.of_same rfl rfl ?_)
    simp only [Stn.unitGauge, rolled]
    rfl
  refine visited.trans ?_
  split
  next => exact .refl _
  next r found =>
    split
    next => exact .refl _
    next =>
      exact Stn.withEntry_keeps (s := { s.roll sub with subs.drain := .running (some sub) }) found rfl rfl
        (by simpa using running)

theorem Stn.drainVisit_keeps (s : Stn) : Keeps s s.drainVisit := by
  unfold Stn.drainVisit
  split
  next => exact .refl s
  next pos h =>
    have draining := Stn.draining_of_running h
    split
    next running =>
      split
      · exact Stn.drainRecord_keeps draining running _
      · exact Stn.drainEnd_keeps draining running
    next => exact .refl s

/-- A pause stands only in a drain walk. -/
theorem GrantOk.draining_of_pause {s : Stn} (h : GrantOk s) (paused : s.bill.pause ≠ .none) : s.draining = true := by
  obtain ⟨-, -, idle⟩ := h
  by_contra still
  exact paused (idle (Bool.not_eq_true _ ▸ still)).2

theorem UnitsOff.resumeDrain {c : Total} {s : Stn} (h : UnitsOff c s) : UnitsOff c s.resumeDrain := by
  have draining (paused : s.bill.pause ≠ .none) : s.formWalkBlock.draining = true :=
    s.formWalkBlock_draining.trans (h.2.1.draining_of_pause paused)
  unfold Stn.resumeDrain
  split
  next => exact h
  next last => exact h.formWalkBlock.endDrain (draining (by simp [last])) rfl
  next full =>
    dsimp only
    repeat' split
    · exact h.formWalkBlock.endDrain (draining (by simp [full])) rfl
    · exact h.formWalkBlock
    · exact h.formWalkBlock

theorem Capacities.resumeDrain {s : Stn} (h : Capacities s) (room : s.billingRoom = true) :
    Capacities s.resumeDrain := by
  have formed := h.formWalkBlock room
  unfold Stn.resumeDrain
  split
  · exact h
  · exact formed.endDrain rfl
  · dsimp only
    repeat' split
    · exact formed.endDrain rfl
    · exact formed
    · exact formed

/-- A sent block leaves the place that the paused walk's block may take (R181, R185). -/
theorem Stn.billingSent_keeps (s : Stn) : Keeps s s.billingSent := by
  unfold Stn.billingSent
  split
  next => exact .refl s
  next =>
    refine ⟨.congr (by simp [Stn.lineGauge]), fun h => ?_, fun c h => ?_⟩
    · rw [capacities_iff] at h
      have queue := h.queue
      simp only [Stn.capGauge, Config.billingCap] at queue
      refine Capacities.resumeDrain ?_ ?_
      · rw [capacities_iff]
        refine { h with queue := ?_ }
        change (s.bill.queue.drop 1).length ≤ 4
        rw [List.length_drop]
        omega
      · simp only [Stn.billingRoom, List.length_drop, Config.billingCap, decide_eq_true_eq]
        omega
    · refine UnitsOff.resumeDrain ?_
      exact h

theorem Stn.billingStart_keeps (s : Stn) (accept : Bool) : Keeps s (s.billingStart accept) := by
  unfold Stn.billingStart
  repeat' split
  · exact .of_same rfl rfl rfl
  all_goals exact .refl s

/-! ### Period close and withdraw -/

theorem Stn.periodClose_keeps {s t : Stn} (h : s.periodClose = .ok t) : Keeps s t := by
  unfold Stn.periodClose at h
  split at h
  next => cases h
  next free =>
    cases h
    simp only [not_or] at free
    obtain ⟨still, noReturn, -⟩ := free
    refine ⟨.congr rfl, fun h => h.startDrain _, fun c h => (h.free ?_).startDrain _⟩
    obtain ⟨-, ⟨drain, -⟩, -⟩ := h
    cases grant : s.subs.grant with
    | nobody => rfl
    | drain => exact absurd (drain.2 grant) still
    | ret => exact absurd grant noReturn

theorem Stn.rec?_sub {s : Stn} {sub : Nat} {r : Record} (h : s.rec? sub = some r) : r.admin.sub = sub := by
  simpa using List.find?_some h

/-- The units of a record that leaves the table are no longer held. -/
theorem UnitsOff.removeRec {c : Total} {s : Stn} (h : UnitsOff c s) {sub : Nat} {r : Record}
    (found : s.rec? sub = some r) : UnitsOff (c + units r.meter.total) (s.removeRec sub) := by
  obtain ⟨unique, walks, balance⟩ := h
  have fewer : (s.removeRec sub).subs.active.Sublist s.subs.active := List.filter_sublist
  refine ⟨(fewer.map _).nodup unique, walks, ?_⟩
  have left := sum_filter_of_find? (val := fun r : Record => r.meter.total) unique found
  have held : (s.removeRec sub).unitsHeld + r.meter.total = s.unitsHeld := by
    simp only [Stn.unitsHeld, Stn.removeRec]
    omega
  rw [← held, units_add] at balance
  change s.meter.net = _
  linear_combination balance

theorem Capacities.removeRec {s : Stn} (h : Capacities s) (sub : Nat) : Capacities (s.removeRec sub) := by
  rw [capacities_iff] at h ⊢
  exact { h with active := (List.length_filter_le ..).trans h.active }

/-- A withdrawn record's units go to its final block (R184). -/
theorem Stn.withdraw_keeps {s t : Stn} {r : Record} (found : s.rec? r.admin.sub = some r)
    (h : s.withdraw r = .ok t) : Keeps s t := by
  unfold Stn.withdraw at h
  split at h
  next => cases h
  split at h
  next => cases h
  split at h
  next => cases h
  next room =>
    cases h
    have told : Keeps (s.removeRec r.admin.sub) (match r.origin with
        | .home => (s.removeRec r.admin.sub).handChange (.mirrorRemove r.admin.sub)
        | .adopted => s.removeRec r.admin.sub) := by
      split
      · exact Stn.handChange_keeps ..
      · exact .refl _
    refine ⟨fun h => ?_, fun h => ?_, fun c h => ?_⟩
    · have removed : LinesOk (s.removeRec r.admin.sub) := h.congr rfl
      exact (told.lines removed).congr (Stn.formBlock_lineGauge ..)
    · refine (told.caps (h.removeRec _)).formBlock ?_ _ _
      have free : s.billingRoom = true := by simpa using room
      simp only [Stn.billingRoom] at free ⊢
      split <;> simpa using free
    · have formed := (told.units _ (h.removeRec found)).formBlock
        [{ sub := r.admin.sub, total := r.meter.total, adopted := decide (r.origin = .adopted), final := true }]
        s.bill.period
      rw [List.map_singleton, List.sum_singleton, add_sub_cancel_right] at formed
      exact formed

end Sys2Proof.Machine
end


section
/-!
SUPPORT. The lines, an execution and the pending request table keep the invariants (R64 to R75, R82 to R101).
-/

namespace Sys2Proof.Machine

/-! ### Lines -/

/-- Where line x is within its capacities, y is; and y has received nothing where x has not. -/
structure Line.Keeps (x y : Line) : Prop where
  ok : x.ok → y.ok
  fifo : x.fifo = [] → y.fifo = []

theorem Line.Keeps.refl (x : Line) : x.Keeps x := ⟨id, id⟩

theorem Line.Keeps.trans {x y z : Line} (xy : x.Keeps y) (yz : y.Keeps z) : x.Keeps z :=
  ⟨yz.ok ∘ xy.ok, yz.fifo ∘ xy.fifo⟩

/-- A change of a line that shares FIFO and ready output, with no more replies and the same contexts. -/
theorem Line.Keeps.of_replies {x y : Line} (fifo : y.fifo = x.fifo) (ready : y.ready = x.ready) (ctxs : y.ctxs = x.ctxs)
    (replies : y.replies.length ≤ x.replies.length ∨ y.replies.length ≤ Config.replyCap) : x.Keeps y := by
  refine ⟨fun h => ?_, fun h => fifo.trans h⟩
  obtain ⟨count, high, queue, buffers⟩ := h
  refine ⟨fifo ▸ count, ?_, replies.elim (·.trans queue) id, fun c => ?_⟩
  · rw [fifo, ready]
    exact high
  · rw [Line.ctx, ctxs]
    exact buffers c

/-- A line may change but for what its capacities speak of. -/
theorem Line.Keeps.of_same {x y : Line} (fifo : y.fifo = x.fifo) (ready : y.ready = x.ready) (ctxs : y.ctxs = x.ctxs)
    (replies : y.replies = x.replies) : x.Keeps y :=
  .of_replies fifo ready ctxs (.inl (congrArg List.length replies).le)

theorem Line.updCtx_keeps (x : Line) (c : CtxNo) {f : Context → Context}
    (short : (x.ctx c).buffer.length ≤ Config.bufferCap → (f (x.ctx c)).buffer.length ≤ Config.bufferCap) :
    x.Keeps (x.updCtx c f) := by
  refine ⟨fun h => ?_, id⟩
  obtain ⟨count, high, queue, buffers⟩ := h
  refine ⟨count, high, queue, fun d => ?_⟩
  by_cases hd : c = d
  · subst hd
    rw [Line.ctx_updCtx]
    exact short (buffers c)
  · rw [Line.ctx_updCtx_ne _ _ hd]
    exact buffers d

/-- A context's buffer is emptied. -/
theorem Line.emptyCtx_keeps (x : Line) (c : CtxNo) {f : Context → Context} (empty : (f (x.ctx c)).buffer = []) :
    x.Keeps (x.updCtx c f) :=
  x.updCtx_keeps c fun _ => by simp [empty]

theorem Line.mapCtxs_keeps (x : Line) {f : Context → Context}
    (short : ∀ k, k.buffer.length ≤ Config.bufferCap → (f k).buffer.length ≤ Config.bufferCap) :
    x.Keeps { x with ctxs := x.ctxs.map f } := by
  refine ⟨fun h => ?_, id⟩
  obtain ⟨count, high, queue, buffers⟩ := h
  refine ⟨count, high, queue, fun c => ?_⟩
  rw [Line.ctx, get_map]
  exact short _ (buffers c)

theorem Line.applyLoss_keeps (x : Line) : x.Keeps x.applyLoss := by
  unfold Line.applyLoss
  repeat' split
  · exact .refl x
  · exact x.emptyCtx_keeps _ rfl
  · exact .refl x

@[simp] theorem length_markLoss (l : List FifoEntry) : (markLoss l).length = l.length := by
  induction l with
  | nil => rfl
  | cons e es ih =>
    cases es with
    | nil => rfl
    | cons d ds => simpa [markLoss] using ih

theorem Line.recordLoss_keeps (x : Line) : x.Keeps x.recordLoss := by
  unfold Line.recordLoss
  split
  · exact x.applyLoss_keeps
  · refine ⟨fun h => ?_, fun h => by simp [h, markLoss]⟩
    obtain ⟨count, high, rest⟩ := h
    exact ⟨by simpa using count, by simpa using high, rest⟩

theorem Line.badChar_keeps (x : Line) : x.Keeps x.badChar := by
  have counted : x.Keeps { x with parityFraming := satInc x.parityFraming } := .of_same rfl rfl rfl rfl
  exact counted.trans (Line.recordLoss_keeps _)

/-- A good character: it enters a FIFO with room, whose ready output falls at 6, or is lost (R64, R65). -/
theorem Line.addChar_ok {x : Line} (h : x.ok) (value : Byte) (mark : Bool) : (x.addChar value mark).ok := by
  unfold Line.addChar
  split
  next room =>
    obtain ⟨count, high, rest⟩ := h
    refine ⟨by simpa using room, fun many => ?_, rest⟩
    simp only [if_pos many]
  next =>
    have counted : x.Keeps { x with overrun := satInc x.overrun } := .of_same rfl rfl rfl rfl
    exact (counted.trans (Line.recordLoss_keeps _)).ok h

theorem Line.took_keeps {x : Line} {e : FifoEntry} {rest : List FifoEntry} (head : x.fifo = e :: rest) :
    x.Keeps (x.took rest) := by
  refine ⟨fun h => ?_, fun h => by cases head.symm.trans h⟩
  obtain ⟨count, high, others⟩ := h
  rw [head, List.length_cons] at count high
  refine ⟨(Nat.le_succ _).trans count, fun many => ?_, others⟩
  change Config.fifoHigh ≤ rest.length at many
  have few : ¬ rest.length ≤ Config.fifoLow := by
    simp only [Config.fifoHigh, Config.fifoLow] at many ⊢
    omega
  simp only [Line.took, if_neg few]
  exact high (many.trans (Nat.le_succ _))

/-- The oldest entry is taken, acted on and its loss applied (R65, R66). -/
theorem Line.takeHead_keeps (x : Line) {act : Line → Line}
    (acts : ∀ y : Line, y.replies = x.replies → y.Keeps (act y)) : x.Keeps (x.takeHead act) := by
  cases head : x.fifo with
  | nil =>
    simp only [Line.takeHead, head]
    exact .refl x
  | cons e rest =>
    rw [Line.takeHead_cons head]
    refine ((Line.took_keeps head).trans (acts _ rfl)).trans ?_
    cases e.lossFollows with
    | false => exact .refl _
    | true => exact Line.applyLoss_keeps _

theorem Line.orphan_keeps (x : Line) : x.Keeps x.orphan := .of_same rfl rfl rfl rfl

theorem Line.abandon_keeps (x : Line) (c : CtxNo) : x.Keeps (x.abandon c) := x.emptyCtx_keeps c rfl

/-- A collected character enters a buffer with room (R71, R72). -/
theorem Context.length_takeData {k : Context} (b : Byte) (h : k.buffer.length ≤ Config.bufferCap) :
    (k.takeData b).buffer.length ≤ Config.bufferCap := by
  unfold Context.takeData
  repeat' split
  next => exact Nat.le_of_ble_eq_true rfl
  next => exact h
  next room =>
    rw [List.length_append]
    exact room
  next => exact Nat.zero_le _
  next => exact Nat.zero_le _
  next => exact h
  next => exact h

theorem Line.takeData_keeps (x : Line) (b : Byte) : x.Keeps (x.takeData b) := by
  have taken (c : CtxNo) : x.Keeps (x.updCtx c fun k => k.takeData b) :=
    x.updCtx_keeps c (Context.length_takeData b)
  unfold Line.takeData
  split
  · exact x.orphan_keeps
  · dsimp only
    split
    · exact (taken _).trans (Line.orphan_keeps _)
    · exact taken _

theorem Line.refuseNow_keeps {x : Line} (room : x.replyRoom = true) (c : CtxNo) (w : Word) (counted : Bool) :
    x.Keeps (x.refuseNow c w counted) := by
  refine (x.emptyCtx_keeps c (f := fun k => { k with state := .idle, buffer := [] }) rfl).trans
    (.of_replies rfl rfl rfl (.inr ?_))
  simpa [Line.refuseNow] using of_decide_eq_true room

theorem Line.enqueue_keeps {x : Line} (room : x.replyRoom = true) (c : CtxNo) (gen : BitVec 8) (text : List Byte) :
    x.Keeps (x.enqueue c gen text) := by
  refine (x.emptyCtx_keeps c (f := fun k => { k with state := .idle, buffer := [] }) rfl).trans
    (.of_replies rfl rfl rfl (.inr ?_))
  simpa [Line.enqueue] using of_decide_eq_true room

/-- A break empties FIFO and contexts and asserts the ready output (R67). -/
theorem Line.broken_keeps (x : Line) : x.Keeps x.broken := by
  refine ⟨fun h => ?_, fun _ => rfl⟩
  obtain ⟨-, -, queue, -⟩ := h
  refine ⟨Nat.zero_le _, fun many => absurd many (Nat.not_succ_le_zero 5), queue, fun c => ?_⟩
  simp [Line.broken, Line.ctx]

theorem Line.startReply_keeps (p : Parity) (x : Line) : x.Keeps (x.startReply p) :=
  .of_replies rfl rfl rfl (.inl (List.length_dropWhile_le ..))

/-! ### A line of the station -/

/-- A changed line is within its capacities, and nothing has entered its FIFO before the lines start. -/
theorem Stn.updLine_keeps_of {s : Stn} {l : LineNo} {f : Line → Line} (ok : (s.line l).ok → (f (s.line l)).ok)
    (fifo : s.linesUp = false → (s.line l).fifo = [] → (f (s.line l)).fifo = []) : Keeps s (s.updLine l f) := by
  refine ⟨fun h k => ?_, .congr rfl, fun _ => .congr rfl⟩
  by_cases hk : l = k
  · subst hk
    rw [Stn.line_updLine]
    obtain ⟨within, quiet⟩ := h l
    exact ⟨ok within, fun down => fifo down (quiet down)⟩
  · rw [Stn.line_updLine_ne _ _ hk]
    exact h k

theorem Stn.updLine_keeps {s : Stn} {l : LineNo} {f : Line → Line} (keeps : (s.line l).Keeps (f (s.line l))) :
    Keeps s (s.updLine l f) :=
  Stn.updLine_keeps_of keeps.ok fun _ => keeps.fifo

/-- Every line changes. -/
theorem Stn.mapLines_keeps (s : Stn) {f : Line → Line} (keeps : ∀ x : Line, x.Keeps (f x)) :
    Keeps s { s with intake.lines := s.intake.lines.map f } := by
  refine ⟨fun h k => ?_, .congr rfl, fun _ => .congr rfl⟩
  obtain ⟨within, quiet⟩ := h k
  rw [Stn.line, get_map]
  exact ⟨(keeps _).ok within, fun down => (keeps _).fifo (quiet down)⟩

theorem Stn.takeRefusal_keeps {s : Stn} {l : LineNo} (room : (s.line l).replyRoom = true) :
    Keeps s (s.takeRefusal l) := by
  unfold Stn.takeRefusal
  split
  · refine Stn.updLine_keeps (Line.takeHead_keeps _ fun y same => Line.refuseNow_keeps ?_ ..)
    simpa only [Line.replyRoom, same] using room
  · exact .refl s

/-! ### Executions (section 5.4) -/

theorem Stn.submitFound_keeps (s : Stn) (r : Record) (p : Priority) (body : List Byte) :
    Keeps s (s.submitFound r p body).1 := by
  unfold Stn.submitFound
  dsimp only
  repeat' split
  · exact .refl s
  · exact .refl s
  · exact .refl s
  next room => exact (Stn.acceptMessage_keeps room ..).trans (Stn.reserve_keeps ..)
  · exact .refl s
  · exact .refl s

/-- An amend keeps a record's number and units (R11). -/
theorem Record.amended_holding (r : Record) (groups : List Group) : (r.amended groups).holding = r.holding := by
  have group (x : Record) (g : Group) : (applyGroup x g).holding = x.holding := by cases g <;> rfl
  have folded : (groups.foldl applyGroup r).holding = r.holding := by
    induction groups generalizing r with
    | nil => rfl
    | cons g gs ih => rw [List.foldl_cons, ih, group]
  rw [Record.amended, ← folded, Record.amendTest]
  split <;> rfl

theorem Stn.amendFound_keeps (s : Stn) (r : Record) (groups : List Group) : Keeps s (s.amendFound r groups).1 := by
  have amended := s.updRec_keeps r.admin.sub (f := fun x => x.amended groups) fun x => x.amended_holding groups
  unfold Stn.amendFound
  dsimp only
  split
  · exact amended.trans (Stn.handMirror_keeps ..)
  · exact amended

theorem Stn.moveService_keeps (s : Stn) (r : Record) (v : Service) : Keeps s (s.moveService r v) := by
  unfold Stn.moveService
  split
  · exact .refl s
  · exact s.setService_keeps ..

theorem Stn.withdrawFound_keeps {s : Stn} {r : Record} (found : s.rec? r.admin.sub = some r) :
    Keeps s (s.withdrawFound r).1 := by
  unfold Stn.withdrawFound
  split
  next h => exact Stn.withdraw_keeps found h
  next => exact .refl s

@[simp] theorem length_insertBy {α : Type} (key : α → Nat) (x : α) (l : List α) :
    (insertBy key x l).length = l.length + 1 := by
  induction l with
  | nil => rfl
  | cons y ys ih =>
    unfold insertBy
    split
    · rfl
    · simp [ih]

theorem insertBy_perm {α : Type} (key : α → Nat) (x : α) (l : List α) : (insertBy key x l).Perm (x :: l) := by
  induction l with
  | nil => rfl
  | cons y ys ih =>
    unfold insertBy
    split
    · rfl
    · exact (ih.cons y).trans (List.Perm.swap x y ys)

theorem Stn.rec?_eq_none {s : Stn} {sub : Nat} (h : s.rec? sub = none) : sub ∉ s.subs.active.map (·.admin.sub) := by
  simpa [Stn.rec?] using h

/-- A record enters the table under a number that is free, and its units are then held. -/
theorem UnitsOff.insertRec {c : Total} {s : Stn} {r : Record} (h : UnitsOff c s) (fresh : s.rec? r.admin.sub = none) :
    UnitsOff (c - units r.meter.total) (s.insertRec r) := by
  obtain ⟨unique, walks, balance⟩ := h
  have entered := insertBy_perm (fun r : Record => r.admin.sub) r s.subs.active
  refine ⟨?_, walks, ?_⟩
  · refine (entered.map _).nodup_iff.2 (List.nodup_cons.2 ⟨Stn.rec?_eq_none fresh, unique⟩)
  · have held : (s.insertRec r).unitsHeld = s.unitsHeld + r.meter.total := by
      have summed := (entered.map (·.meter.total)).sum_eq
      rw [List.map_cons, List.sum_cons] at summed
      simp only [Stn.unitsHeld, Stn.insertRec, summed]
      omega
    rw [held, units_add]
    change s.meter.net = _
    linear_combination balance

theorem Capacities.insertRec {s : Stn} (h : Capacities s) (room : s.subs.active.length < Config.tableCap)
    (r : Record) : Capacities (s.insertRec r) := by
  rw [capacities_iff] at h ⊢
  refine { h with active := ?_ }
  change (insertBy _ r s.subs.active).length ≤ _
  rw [length_insertBy]
  exact room

/-- A record without units enters the table, under a number that is free, where there is room (R3, R4). -/
theorem Stn.insertRec_keeps {s : Stn} {r : Record} (room : s.subs.active.length < Config.tableCap)
    (fresh : s.rec? r.admin.sub = none) (none : r.meter.total = 0) : Keeps s (s.insertRec r) := by
  refine ⟨.congr rfl, fun h => h.insertRec room r, fun c h => ?_⟩
  have inserted := h.insertRec fresh
  rwa [none, show units 0 = 0 from rfl, sub_zero] at inserted

theorem Stn.enrolAbsent_keeps {s : Stn} {a : Admin} (fresh : s.rec? a.sub = none) (h : Station) :
    Keeps s (s.enrolAbsent h a).1 := by
  unfold Stn.enrolAbsent
  split
  · exact .refl s
  · split
    next => exact .refl s
    next room => exact (Stn.insertRec_keeps (Nat.lt_of_not_le room) fresh rfl).trans (Stn.handMirror_keeps ..)

/-- A lookup whose result is ABSENT finds no active record (R5). -/
theorem Stn.rec?_of_lookup_absent {s : Stn} {sub : Nat} {h : Station} (absent : s.lookup sub h = .absent) :
    s.rec? sub = none := by
  cases found : s.rec? sub with
  | none => rfl
  | some r =>
    simp only [Stn.lookup, found] at absent
    split at absent <;> cases absent

/-- What is done on FOUND and on ABSENT keeps the invariants, given what the lookup has found (R93). -/
theorem Stn.serve_keeps {s : Stn} {sub : Nat} {onFound : Record → Stn × Result} {onAbsent : Station → Stn × Result}
    (found : ∀ r, s.rec? sub = some r → Keeps s (onFound r).1)
    (absent : ∀ h, s.rec? sub = none → Keeps s (onAbsent h).1) : Keeps s (s.serve sub onFound onAbsent).1 := by
  unfold Stn.serve
  split
  next => exact .refl s
  next =>
    split
    next => exact .refl s
    next h _ =>
      split
      next =>
        split
        next r hr => exact found r hr
        next => exact .refl s
      next => exact .refl s
      next => exact .refl s
      next => exact .refl s
      next habsent =>
        split
        · exact .refl s
        · exact absent h (Stn.rec?_of_lookup_absent habsent)

theorem Stn.serveReceipt_keeps {s : Stn} {f : Stn × Result} (h : Keeps s f.1) : Keeps s (s.serveReceipt f).1 := by
  unfold Stn.serveReceipt
  split
  · exact .refl s
  · exact h

theorem Line.clearCounts_keeps (x : Line) : x.Keeps x.clearCounts := .of_same rfl rfl rfl rfl

theorem Stn.clearCounts_keeps (s : Stn) : Keeps s s.clearCounts :=
  (s.mapLines_keeps Line.clearCounts_keeps).trans (.of_same rfl rfl rfl)

/-- Every execution keeps the invariants. -/
theorem Stn.execute_keeps (s : Stn) (q : Request) : Keeps s (s.execute q).1 := by
  have same {sub : Nat} (f : Station → Result) : ∀ h, s.rec? sub = none → Keeps s ((s, f h) : Stn × Result).1 :=
    fun _ _ => .refl s
  cases q with
  | submit sub p body => exact Stn.serve_keeps (fun r _ => s.submitFound_keeps r p body) (same _)
  | cancel k serial => exact Stn.serveReceipt_keeps (s.cancel_keeps serial)
  | query k serial => exact Stn.serveReceipt_keeps (.refl s)
  | enrol sub addr cls t p z q n =>
    exact Stn.serve_keeps (fun _ _ => .refl s) fun h fresh => Stn.enrolAbsent_keeps fresh h
  | amend sub groups => exact Stn.serve_keeps (fun r _ => s.amendFound_keeps r groups) (same _)
  | suspend sub => exact Stn.serve_keeps (fun r _ => s.moveService_keeps r _) (same _)
  | resume sub => exact Stn.serve_keeps (fun r _ => s.moveService_keeps r _) (same _)
  | withdraw sub =>
    refine Stn.serve_keeps (fun r found => Stn.withdrawFound_keeps ?_) (same _)
    rwa [Stn.rec?_sub found]
  | meterRead sub => exact Stn.serve_keeps (fun _ _ => .refl s) (same _)
  | periodClose =>
    simp only [Stn.execute]
    split
    next h => exact Stn.periodClose_keeps h
    next => exact .refl s
  | status clear =>
    cases clear with
    | false => exact .refl s
    | true => exact s.clearCounts_keeps

/-! ### The pending request table -/

theorem Stn.freePend_keeps (s : Stn) (tag : Tag) : Keeps s (s.freePend tag) := by
  refine ⟨.congr rfl, fun h => ?_, fun _ => .congr rfl⟩
  rw [capacities_iff] at h ⊢
  exact { h with pend := (List.length_filter_le ..).trans h.pend }

theorem Stn.offer_keeps (s : Stn) (l : LineNo) (c : CtxNo) (gen : BitVec 8) (text : List Byte) :
    Keeps s (s.offer l c gen text) := by
  unfold Stn.offer
  split
  next accepted =>
    refine Stn.updLine_keeps (Line.enqueue_keeps ?_ ..)
    unfold Line.judge at accepted
    repeat' split at accepted
    next => cases accepted
    next room => exact room
    next => cases accepted
  next => exact .refl s

theorem Stn.finish_keeps (s : Stn) (tag : Tag) (text : List Byte) : Keeps s (s.finish tag text) := by
  unfold Stn.finish
  split
  next => exact .refl s
  next =>
    split
    next => exact (s.updPend_keeps tag _).trans (.of_same rfl rfl rfl)
    next => exact (s.offer_keeps ..).trans (Stn.freePend_keeps ..)

theorem Stn.dropForward_keeps (s : Stn) (tag : Tag) : Keeps s (s.dropForward tag) := .of_outbox_filter s _

theorem length_installCache (cache : List (Nat × Station)) (sub : Nat) (m : Station)
    (h : cache.length ≤ Config.cacheCap) : (installCache cache sub m).length ≤ Config.cacheCap := by
  have fewer : (cache.filter fun e => decide (e.1 ≠ sub)).length ≤ cache.length := List.length_filter_le ..
  unfold installCache
  dsimp only
  split <;> simp only [List.length_append, List.length_drop, List.length_singleton, Config.cacheCap] at * <;> omega

theorem Stn.installCache_keeps (s : Stn) (sub : Nat) (m : Station) :
    Keeps s { s with req.cache := installCache s.req.cache sub m } := by
  refine ⟨.congr rfl, fun h => ?_, fun _ => .congr rfl⟩
  rw [capacities_iff] at h ⊢
  exact { h with cache := length_installCache _ sub m h.cache }

theorem Stn.defer_keeps (s : Stn) (tag : Tag) : Keeps s (s.defer tag) := by
  unfold Stn.defer
  repeat' split
  · exact .refl s
  · exact s.updPend_keeps ..
  · exact s.finish_keeps ..

theorem Stn.applyResult_keeps (s : Stn) (tag : Tag) (res : Result) : Keeps s (s.applyResult tag res) := by
  unfold Stn.applyResult
  repeat' split
  · exact s.finish_keeps ..
  · exact s.defer_keeps tag
  · exact (s.installCache_keeps ..).trans (Stn.defer_keeps ..)
  · exact s.defer_keeps tag

theorem Stn.runLocal_keeps (w : Places) (s : Stn) (tag : Tag) : Keeps s (s.runLocal w tag) := by
  unfold Stn.runLocal
  split
  · exact .refl s
  · split
    · exact s.updPend_keeps ..
    · exact ((s.execute_keeps _).trans (Stn.applyResult_keeps ..)).trans (Stn.givePlacesAt_keeps ..)

theorem Stn.routeEntry_keeps (s : Stn) (tag : Tag) : Keeps s (s.routeEntry tag) := by
  unfold Stn.routeEntry
  split
  · exact .refl s
  · split
    · exact s.finish_keeps ..
    · dsimp only
      split
      · exact (s.updPend_keeps ..).trans (Stn.runLocal_keeps ..)
      · exact ((s.updPend_keeps ..).trans (Stn.updPend_keeps ..)).trans (Stn.offerWaiting_keeps _)

theorem Stn.handOff_keeps {s : Stn} (free : s.pendFree = true) (l : LineNo) (c : CtxNo) (text : List Byte)
    (parsed : Except Word Request) : Keeps s (s.handOff l c text parsed) := by
  have entered (e : PendEntry) (tag : Tag) :
      Keeps s { s with req.pend := s.req.pend ++ [e], req.tagCounter := tag } := by
    refine ⟨.congr rfl, fun h => ?_, fun _ => .congr rfl⟩
    rw [capacities_iff] at h ⊢
    refine { h with pend := ?_ }
    simpa [Stn.capGauge] using of_decide_eq_true free
  unfold Stn.handOff
  dsimp only
  split
  · exact (entered ..).trans (Stn.finish_keeps ..)
  · exact (entered ..).trans (Stn.routeEntry_keeps ..)

theorem Stn.takeHandOver_keeps {s : Stn} (free : s.pendFree = true) (l : LineNo) : Keeps s (s.takeHandOver l) := by
  unfold Stn.takeHandOver
  split
  · refine Keeps.trans ?_ (Stn.handOff_keeps ?_ ..)
    · refine Stn.updLine_keeps (Line.takeHead_keeps _ fun y _ => ?_)
      exact y.emptyCtx_keeps _ rfl
    · simpa [Stn.pendFree] using free
  · exact .refl s

theorem Stn.serveWaiting_keeps (fuel : Nat) (s : Stn) : Keeps s (Stn.serveWaiting fuel s) := by
  induction fuel generalizing s with
  | zero => exact .refl s
  | succ fuel ih =>
    unfold Stn.serveWaiting
    split
    next => exact .refl s
    next rest _ =>
      split
      next free =>
        have waits : Keeps s { s with intake.waiting := rest } := .of_same rfl rfl rfl
        have handed := Stn.takeHandOver_keeps (s := { s with intake.waiting := rest }) free
        exact (waits.trans (handed _)).trans (ih _)
      next => exact .refl s

theorem Stn.settled_keeps (s : Stn) : Keeps s s.settled := Stn.serveWaiting_keeps _ s

theorem Stn.settledFrom_keeps (s before : Stn) : Keeps s (s.settledFrom before) :=
  (s.givePlaces_keeps before).trans (Stn.settled_keeps _)

theorem Stn.offerHeld_keeps (tags : List Tag) (l : LineNo) (s : Stn) : Keeps s (Stn.offerHeld tags l s) := by
  induction tags generalizing s with
  | nil => exact .refl s
  | cons tag rest ih =>
    unfold Stn.offerHeld
    repeat' split
    · exact .refl s
    · exact ((s.offer_keeps ..).trans (Stn.freePend_keeps ..)).trans (ih _)
    all_goals exact ih s

theorem Stn.replyPlaceFreed_keeps (s : Stn) (l : LineNo) : Keeps s (s.replyPlaceFreed l) := by
  have held (t : Stn) : Keeps t (if (t.line l).replyRoom then Stn.offerHeld t.req.holdOrder l t else t) := by
    split
    · exact Stn.offerHeld_keeps ..
    · exact .refl t
  unfold Stn.replyPlaceFreed
  refine Keeps.trans ?_ (held _)
  split
  next h =>
    rw [Bool.and_eq_true] at h
    exact Stn.takeRefusal_keeps h.2
  next => exact .refl s

/-! ### Requests brought by a context or by a peer -/

theorem Stn.handAnswer_keeps {s : Stn} (free : s.outboxFree = true) (k : Station) (tag : Tag) (res : Result) :
    Keeps s (s.handAnswer k tag res) := by
  unfold Stn.handAnswer
  split
  · exact .refl s
  · exact Stn.pushNote_keeps free _

theorem Stn.answerFor_keeps {s : Stn} (free : s.outboxFree = true) (k : Station) (tag : Tag)
    (parsed : Except Word Request) : Keeps s (s.answerFor k tag parsed) := by
  unfold Stn.answerFor
  split
  · exact Stn.handAnswer_keeps free ..
  · exact Stn.handAnswer_keeps free ..
  · exact Stn.handAnswer_keeps free ..
  · exact (Stn.handAnswer_keeps free ..).trans (Stn.execute_keeps ..)

theorem Stn.bringByContext_keeps (s : Stn) (l : LineNo) (c : CtxNo) (q : Request) :
    Keeps s (s.bringByContext l c q) := by
  unfold Stn.bringByContext
  split
  next h =>
    obtain ⟨-, -, free⟩ := h
    have emptied : Keeps s (s.updLine l fun x => x.updCtx c fun k => { k with state := .awaiting, buffer := [] }) :=
      Stn.updLine_keeps (Line.emptyCtx_keeps _ c rfl)
    have handed := Stn.handOff_keeps
      (s := s.updLine l fun x => x.updCtx c fun k => { k with state := .awaiting, buffer := [] }) free
    exact (emptied.trans (handed ..)).trans (Stn.settled_keeps _)
  next => exact .refl s

theorem Stn.bring_keeps (s : Stn) (who : Requester) (q : Request) : Keeps s (s.bring who q) := by
  unfold Stn.bring
  split
  · exact s.bringByContext_keeps ..
  · split
    next h =>
      obtain ⟨-, -, -, free⟩ := h
      exact (Stn.answerFor_keeps free ..).trans (Stn.givePlaces_keeps ..)
    next => exact .refl s

/-! ### The assembler -/

theorem Stn.assemble_keeps (s : Stn) (l : LineNo) (p : FifoEntry → Bool) {act : FifoEntry → Line → Line}
    (acts : ∀ e y, Line.Keeps y (act e y)) : Keeps s (s.assemble l p act) := by
  unfold Stn.assemble
  repeat' split
  · exact Stn.updLine_keeps (Line.takeHead_keeps _ fun y _ => acts _ y)
  · exact .refl s
  · exact .refl s

/-- Before the lines start nothing is received. -/
theorem Stn.receive_keeps (s : Stn) (l : LineNo) (value : Byte) (mark parityBit stopBit : Bool) :
    Keeps s (s.receive l value mark parityBit stopBit) := by
  unfold Stn.receive
  split
  next up =>
    refine Stn.updLine_keeps_of (fun h => ?_) fun down => by cases up.symm.trans down
    split
    · exact Line.addChar_ok h ..
    · exact (Line.badChar_keeps _).ok h
  next => exact .refl s

theorem Stn.breakLine_keeps (s : Stn) (l : LineNo) : Keeps s (s.breakLine l) := by
  unfold Stn.breakLine
  split
  · exact (Stn.updLine_keeps (Line.broken_keeps _)).trans (.of_same rfl rfl rfl)
  · exact .refl s

theorem Stn.meetTerminator_keeps (s : Stn) (l : LineNo) : Keeps s (s.meetTerminator l) := by
  unfold Stn.meetTerminator
  split
  next =>
    split
    next orphan _ =>
      refine Stn.updLine_keeps (Line.takeHead_keeps _ fun y _ => ?_)
      cases orphan with
      | false => exact .refl y
      | true => exact y.orphan_keeps
    next =>
      split
      next free => exact (Stn.takeHandOver_keeps free l).trans (Stn.settled_keeps _)
      next => exact .of_same rfl rfl rfl
    next =>
      split
      next room => exact Stn.takeRefusal_keeps room
      next => exact .refl s
  next => exact .refl s

theorem Stn.transmit_keeps (s : Stn) (l : LineNo) : Keeps s (s.transmit l) := by
  have begun : Keeps s (s.updLine l (Line.startReply (s.lineSettings l).parity)) :=
    Stn.updLine_keeps (Line.startReply_keeps ..)
  unfold Stn.transmit
  dsimp only
  repeat' split
  · exact (begun.trans (Stn.replyPlaceFreed_keeps ..)).trans (Stn.settled_keeps _)
  · exact begun
  · exact .refl s

theorem Stn.replyDone_keeps (s : Stn) (l : LineNo) : Keeps s (s.replyDone l) := by
  unfold Stn.replyDone
  split
  · exact .refl s
  · refine (Stn.updLine_keeps ?_).trans ((Stn.replyPlaceFreed_keeps ..).trans (Stn.settled_keeps _))
    exact .of_replies rfl rfl rfl (.inl (by simp))

end Sys2Proof.Machine
end


section
/-!
SUPPORT. An execution leaves the phase of the return walk alone (R18, R53, R55): what a custodian change brings about
does not end a RUNNING walk.
-/

namespace Sys2Proof.Machine

/-! ### The store and the meters -/

@[simp] theorem Stn.handMirror_returnWalk (s : Stn) (sub : Nat) : (s.handMirror sub).subs.ret = s.subs.ret :=
  congrArg (·.2.2) (s.handMirror_walks sub)

@[simp] theorem Stn.handChange_returnWalk (s : Stn) (body : NoteBody) : (s.handChange body).subs.ret = s.subs.ret :=
  congrArg (·.2.2) (s.handChange_walks body)

@[simp] theorem Stn.setService_returnWalk (s : Stn) (sub : Nat) (v : Service) :
    (s.setService sub v).subs.ret = s.subs.ret :=
  congrArg (·.2.2) (s.setService_walks sub v)

@[simp] theorem Stn.roll_returnWalk (s : Stn) (sub : Nat) : (s.roll sub).subs.ret = s.subs.ret :=
  congrArg (·.2.2) (s.roll_walks sub)

@[simp] theorem Stn.updMeter_returnWalk (s : Stn) (sub : Nat) (f : MeterFields → MeterFields) :
    (s.updMeter sub f).subs.ret = s.subs.ret := rfl

@[simp] theorem Stn.placeInQueue_returnWalk (s : Stn) (sub : Nat) (p : Priority) (serial : Serial) :
    (s.placeInQueue sub p serial).subs.ret = s.subs.ret := by
  unfold Stn.placeInQueue Stn.makeReady
  repeat' split
  all_goals simp

@[simp] theorem Stn.acceptMessage_returnWalk (s : Stn) (sub : Nat) (p : Priority) (origin : MsgOrigin)
    (body : List Byte) (reserved : Nat) : (s.acceptMessage sub p origin body reserved).subs.ret = s.subs.ret :=
  Stn.placeInQueue_returnWalk ..

@[simp] theorem Stn.offerNotice_returnWalk (s : Stn) (sub : Nat) : (s.offerNotice sub).subs.ret = s.subs.ret := by
  unfold Stn.offerNotice Stn.createNotice
  split_ifs <;> simp

@[simp] theorem Stn.noticeTest_returnWalk (s : Stn) (sub : Nat) : (s.noticeTest sub).subs.ret = s.subs.ret := by
  unfold Stn.noticeTest
  repeat' split
  all_goals simp

@[simp] theorem Stn.reserve_returnWalk (s : Stn) (sub charge : Nat) : (s.reserve sub charge).subs.ret = s.subs.ret := by
  simp [Stn.reserve]

@[simp] theorem Stn.settle_returnWalk (s : Stn) (sub : Nat) (origin : MsgOrigin) (reserved : Nat) (o : Outcome)
    (transmissions : Nat) : (s.settle sub origin reserved o transmissions).subs.ret = s.subs.ret := by
  unfold Stn.settle
  dsimp only
  split <;> simp

@[simp] theorem Stn.promoteHead_returnWalk (s : Stn) (sub : Nat) : (s.promoteHead sub).subs.ret = s.subs.ret := by
  unfold Stn.promoteHead Stn.makeReady
  repeat' split
  all_goals simp

@[simp] theorem Stn.finalOutcome_returnWalk (s : Stn) (serial : Serial) (o : Outcome) :
    (s.finalOutcome serial o).subs.ret = s.subs.ret := by
  unfold Stn.finalOutcome
  split <;> simp

@[simp] theorem Stn.cancel_returnWalk (s : Stn) (serial : Serial) : (s.cancel serial).1.subs.ret = s.subs.ret := by
  unfold Stn.cancel
  repeat' split
  all_goals simp

/-! ### Executions -/

@[simp] theorem Stn.moveService_returnWalk (s : Stn) (r : Record) (v : Service) :
    (s.moveService r v).subs.ret = s.subs.ret := by
  unfold Stn.moveService
  split <;> simp

@[simp] theorem Stn.submitFound_returnWalk (s : Stn) (r : Record) (p : Priority) (body : List Byte) :
    (s.submitFound r p body).1.subs.ret = s.subs.ret := by
  unfold Stn.submitFound
  dsimp only
  repeat' split
  all_goals simp

@[simp] theorem Stn.amendFound_returnWalk (s : Stn) (r : Record) (groups : List Group) :
    (s.amendFound r groups).1.subs.ret = s.subs.ret := by
  unfold Stn.amendFound
  dsimp only
  split <;> simp

theorem foldl_returnWalk {α : Type} {f : Stn → α → Stn} (step : ∀ s a, (f s a).subs.ret = s.subs.ret) (l : List α)
    (s : Stn) : (l.foldl f s).subs.ret = s.subs.ret := by
  induction l generalizing s with
  | nil => rfl
  | cons a l ih => exact (ih (f s a)).trans (step s a)

theorem Stn.formBlock_returnWalk (s : Stn) (es : List FormEntry) (p : Period) :
    (s.formBlock es p).subs.ret = s.subs.ret := by
  have settled (scale : Nat) (t : Stn) (e : FormEntry) : (Stn.settleEntry scale t e).subs.ret = t.subs.ret := by
    unfold Stn.settleEntry
    dsimp only
    split <;> rfl
  unfold Stn.formBlock Stn.numberBlock
  dsimp only
  split <;> exact foldl_returnWalk (settled _) es s

@[simp] theorem Stn.withdrawFound_returnWalk (s : Stn) (r : Record) :
    (s.withdrawFound r).1.subs.ret = s.subs.ret := by
  unfold Stn.withdrawFound
  split
  next h =>
    unfold Stn.withdraw at h
    repeat' split at h
    all_goals cases h
    all_goals simp [Stn.formBlock_returnWalk]
  next => rfl

@[simp] theorem Stn.enrolAbsent_returnWalk (s : Stn) (h : Station) (a : Admin) :
    (s.enrolAbsent h a).1.subs.ret = s.subs.ret := by
  unfold Stn.enrolAbsent
  dsimp only
  repeat' split
  all_goals simp

/-- An execution by subscriber number keeps the return walk where what is done on FOUND and on ABSENT does. -/
theorem Stn.serve_returnWalk (s : Stn) (sub : Nat) {onFound : Record → Stn × Result} {onAbsent : Station → Stn × Result}
    (found : ∀ r, (onFound r).1.subs.ret = s.subs.ret) (absent : ∀ h, (onAbsent h).1.subs.ret = s.subs.ret) :
    (s.serve sub onFound onAbsent).1.subs.ret = s.subs.ret := by
  unfold Stn.serve
  repeat' split
  all_goals simp only [found, absent]

theorem Stn.serveReceipt_returnWalk (s : Stn) (f : Stn × Result) (same : f.1.subs.ret = s.subs.ret) :
    (s.serveReceipt f).1.subs.ret = s.subs.ret := by
  unfold Stn.serveReceipt
  split <;> simp only [same]

@[simp] theorem Stn.execute_returnWalk (s : Stn) (q : Request) : (s.execute q).1.subs.ret = s.subs.ret := by
  cases q with
  | submit sub p body => exact s.serve_returnWalk sub (fun r => s.submitFound_returnWalk r p body) fun _ => rfl
  | cancel k serial => exact s.serveReceipt_returnWalk _ (s.cancel_returnWalk serial)
  | query k serial => exact s.serveReceipt_returnWalk _ rfl
  | enrol sub addr cls t p z q n => exact s.serve_returnWalk sub (fun _ => rfl) fun h => s.enrolAbsent_returnWalk h _
  | amend sub groups => exact s.serve_returnWalk sub (fun r => s.amendFound_returnWalk r groups) fun _ => rfl
  | suspend sub => exact s.serve_returnWalk sub (fun r => s.moveService_returnWalk r _) fun _ => rfl
  | resume sub => exact s.serve_returnWalk sub (fun r => s.moveService_returnWalk r _) fun _ => rfl
  | withdraw sub => exact s.serve_returnWalk sub s.withdrawFound_returnWalk fun _ => rfl
  | meterRead sub => exact s.serve_returnWalk sub (fun _ => rfl) fun _ => rfl
  | periodClose =>
    simp only [Stn.execute, Stn.periodClose]
    split_ifs <;> rfl
  | status clear => cases clear <;> rfl

/-! ### Custodian changes -/

@[simp] theorem Stn.givePlacesAt_returnWalk (w : Places) (s before : Stn) :
    (s.givePlacesAt w before).subs.ret = s.subs.ret := by
  cases w <;> simp [Stn.givePlacesAt]

@[simp] theorem Stn.runLocal_returnWalk (w : Places) (s : Stn) (tag : Tag) :
    (s.runLocal w tag).subs.ret = s.subs.ret := by
  unfold Stn.runLocal Stn.applyResult
  dsimp only
  repeat' split
  all_goals simp

@[simp] theorem Stn.redirect_returnWalk (w : Places) (s : Stn) (h : Station) (tag : Tag) :
    (s.redirect w h tag).subs.ret = s.subs.ret := by
  unfold Stn.redirect
  repeat' split
  all_goals simp

@[simp] theorem Stn.changeCustodian_returnWalk (w : Places) (s : Stn) (h : Station) (c : Option Station) :
    (s.changeCustodian w h c).subs.ret = s.subs.ret := by
  unfold Stn.changeCustodian Stn.custodianChanged
  split
  · rfl
  · exact foldl_returnWalk (fun s t => s.redirect_returnWalk w h t) _ _

@[simp] theorem Stn.setCustodian_returnWalk (w : Places) (s : Stn) (h : Station) (c : Option Station) :
    (s.setCustodian w h c).subs.ret = s.subs.ret := by
  unfold Stn.setCustodian
  dsimp only
  split <;> simp

end Sys2Proof.Machine
end


section
/-!
SUPPORT. The Custody Unit keeps the invariants (chapter 3): custodian and view changes, the walks, adoption and
stand-down.
-/

namespace Sys2Proof.Machine

/-! ### Custodian changes (R32, R39, R41) -/

theorem Stn.startMirror_keeps (s : Stn) : Keeps s s.startMirror := by
  unfold Stn.startMirror
  split
  · exact (Keeps.of_outbox_filter s _).trans (.of_same rfl rfl rfl)
  · exact .of_same rfl rfl rfl

theorem Stn.redirect_keeps (w : Places) (s : Stn) (h : Station) (tag : Tag) : Keeps s (s.redirect w h tag) := by
  unfold Stn.redirect
  repeat' split
  · exact (s.dropForward_keeps tag).trans (Stn.finish_keeps ..)
  · exact (((s.dropForward_keeps tag).trans (Stn.updPend_keeps ..)).trans (Stn.givePlacesAt_keeps ..)).trans
      (Stn.runLocal_keeps ..)
  · exact (Keeps.of_outbox_updWhere s _ _).trans (Stn.updPend_keeps ..)

theorem Stn.custodianChanged_keeps (w : Places) (s : Stn) (h : Station) : Keeps s (s.custodianChanged w h) := by
  have emptied : Keeps s { s with req.cache := [] } := by
    refine ⟨.congr rfl, fun caps => ?_, fun _ => .congr rfl⟩
    rw [capacities_iff] at caps ⊢
    exact { caps with cache := Nat.zero_le _ }
  exact (emptied.trans (.of_outbox_updWhere _ _ _)).trans (.foldl (fun s t => s.redirect_keeps w h t) _ _)

theorem Stn.changeCustodian_keeps (w : Places) (s : Stn) (h : Station) (c : Option Station) :
    Keeps s (s.changeCustodian w h c) := by
  unfold Stn.changeCustodian
  split
  · exact .refl s
  · exact (s.updEntry_keeps h _).trans (Stn.custodianChanged_keeps ..)

theorem Stn.setCustodian_keeps (w : Places) (s : Stn) (h : Station) (c : Option Station) :
    Keeps s (s.setCustodian w h c) := by
  unfold Stn.setCustodian
  dsimp only
  split
  · exact (s.changeCustodian_keeps w h c).trans (Stn.changeCustodian_keeps ..)
  · exact s.changeCustodian_keeps w h c

/-! ### The return walk (section 3.5) -/

theorem Stn.clearReturned_keeps (s : Stn) : Keeps s s.clearReturned := .of_same rfl rfl rfl

theorem UnitsOff.clearReturnWalk {c : Total} {s : Stn} (h : UnitsOff c s) (running : s.returnRunning = true) :
    UnitsFree c s.clearReturnWalk := by
  obtain ⟨unique, walks, balance⟩ := h
  obtain ⟨-, still, idle⟩ := walks.of_returnRunning running
  have holding : s.clearReturnWalk.subs.active.map Record.holding = s.subs.active.map Record.holding := by
    rw [Stn.clearReturnWalk, List.map_map]
    rfl
  have held : s.clearReturnWalk.unitsHeld = s.unitsHeld :=
    congrArg (· + (s.bill.forming.map (·.total)).sum) (unitsOfRecords_congr holding)
  refine ⟨unique.of_holding holding, ⟨?_, rfl, idle⟩, ?_⟩
  · simpa [Stn.draining, Stn.clearReturnWalk] using still
  · rw [held]
    exact balance

theorem Capacities.clearReturnWalk {s : Stn} (h : Capacities s) : Capacities s.clearReturnWalk := by
  rw [capacities_iff] at h ⊢
  have active : s.clearReturnWalk.subs.active.length = s.subs.active.length := List.length_map _
  exact { h with
    active := active.trans_le h.active
    outbox := (List.length_filter_le ..).trans h.outbox }

theorem Stn.abortReturn_keeps (s : Stn) : Keeps s s.abortReturn := by
  unfold Stn.abortReturn
  split
  next running =>
    exact ⟨.congr (by simp [Stn.lineGauge, Stn.clearReturnWalk]), fun h => h.clearReturnWalk.releaseGrant,
      fun _ h => (h.clearReturnWalk (Stn.returnRunning_of_running running)).releaseGrant⟩
  next => exact .refl s

/-- No return walk runs after the abort: the grant goes to a pending close, or to nobody. -/
theorem Stn.abortReturn_returnRunning (s : Stn) : s.abortReturn.returnRunning = false := by
  unfold Stn.abortReturn
  split
  next =>
    unfold Stn.releaseGrant Stn.clearReturnWalk
    split
    next waiting => exact absurd waiting nofun
    next => rfl
    next => rfl
  next none =>
    unfold Stn.returnRunning
    split
    next running => exact absurd running (none _ _)
    next => rfl

/-- The return walk waits for the grant. -/
theorem Keeps.of_returnWaiting {s : Stn} (none : s.returnRunning = false) :
    Keeps s { s with subs.ret := .waiting } := by
  refine .of_same rfl rfl ?_
  simp only [Stn.unitGauge, none]
  rfl

/-- The return walk is no longer requested. -/
theorem Keeps.of_returnIdle {s : Stn} (none : s.returnRunning = false) :
    Keeps s { s with subs.ret := .idle } := by
  refine .of_same rfl rfl ?_
  simp only [Stn.unitGauge, none]
  rfl

theorem Stn.requestReturn_keeps (w : Places) (s : Stn) : Keeps s (s.requestReturn w) := by
  unfold Stn.requestReturn
  extract_lets cust s1 listing s2 s3 subs
  have forgotten : Keeps s s1 := .of_same rfl rfl rfl
  have listed : Keeps s1 s2 := by
    have added : Keeps s1 { s1 with cust.custody := setAdd s1.cust.custody s1.ward } := .of_same rfl rfl rfl
    simp only [s2]
    split
    · exact .refl s1
    · exact added.trans (Stn.setCustodian_keeps ..)
  refine ((forgotten.trans listed).trans s2.abortReturn_keeps).trans ?_
  split
  next nobody => exact Stn.startReturn_keeps nobody
  next => exact .of_returnWaiting s2.abortReturn_returnRunning

/-! ### Views (R38, R39) -/

theorem Stn.becomeLive_keeps (w : Places) (s : Stn) : Keeps s (s.becomeLive w) := by
  unfold Stn.becomeLive
  extract_lets cust s1 s2
  have live : Keeps s s1 := .of_same rfl rfl rfl
  have owned : Keeps s1 s2 := by
    simp only [s2]
    split
    · exact Stn.setCustodian_keeps ..
    · exact .refl s1
  refine (live.trans owned).trans ?_
  split
  · exact s2.startMirror_keeps
  · exact .refl s2

theorem Stn.dropNotes_keeps (s : Stn) (k : Station) : Keeps s (s.dropNotes k) := by
  unfold Stn.dropNotes
  extract_lets gone bus s1 s2
  have dropped : Keeps s s1 := .of_outbox rfl rfl rfl (.inl (List.length_filter_le ..))
  have aborted : Keeps s1 s2 := by
    simp only [s2]
    split
    · exact s1.abortReturn_keeps
    · exact .refl s1
  refine (dropped.trans aborted).trans ?_
  split
  · split
    · exact s2.mirrorToRestart_keeps
    · exact .refl s2
  · exact .refl s2

theorem Stn.loseReceipts_keeps (s : Stn) (k : Station) : Keeps s (s.loseReceipts k) :=
  (Keeps.of_outbox_updWhere s _ _).trans
    (.foldl (fun s t => (s.dropForward_keeps t).trans (Stn.finish_keeps ..)) _ _)

theorem Stn.holdNotes_keeps (s : Stn) (k : Station) (v : View) : Keeps s (s.holdNotes k v) := by
  match v with
  | .failed => exact .refl s
  | .silent => exact .of_outbox_updWhere s _ _
  | .foreign => exact .of_outbox_updWhere s _ _
  | .joining => exact .of_outbox_updWhere s _ _
  | .reclaiming => exact .of_outbox_updWhere s _ _
  | .live => exact .of_outbox_updWhere s _ _

theorem Stn.viewNotes_keeps (s : Stn) (k : Station) (v : View) : Keeps s (s.viewNotes k v) := by
  unfold Stn.viewNotes
  extract_lets s1 s2
  have dropped : Keeps s1 s2 := by
    simp only [s2]
    split
    · exact s1.dropNotes_keeps k
    · exact .refl s1
  refine ((s.holdNotes_keeps k v).trans dropped).trans ?_
  split
  · exact s2.loseReceipts_keeps k
  · exact .refl s2

theorem Stn.viewReturn_keeps (w : Places) (s : Stn) (k : Station) (old v : View) (episode : Bool) :
    Keeps s (s.viewReturn w k old v episode) := by
  unfold Stn.viewReturn
  split_ifs
  · split
    next waiting => exact .of_returnIdle (by simp [Stn.returnRunning, waiting])
    next => exact s.abortReturn_keeps
  · exact s.requestReturn_keeps w
  · exact .refl s
  · exact .refl s

theorem Stn.viewBuddy_keeps (w : Places) (s : Stn) (k : Station) (v : View) : Keeps s (s.viewBuddy w k v) := by
  unfold Stn.viewBuddy
  split_ifs
  · exact s.startMirror_keeps
  · exact s.becomeLive_keeps w
  · exact .refl s
  · exact .refl s

theorem Stn.changeView_keeps (w : Places) (s : Stn) (k : Station) (v : View) (episode : Bool) :
    Keeps s (s.changeView w k v episode) := by
  unfold Stn.changeView
  split
  · exact .refl s
  · exact (((s.updEntry_keeps k _).trans (Stn.viewNotes_keeps ..)).trans (Stn.viewReturn_keeps ..)).trans
      (Stn.viewBuddy_keeps ..)

theorem Stn.failCustodian_keeps (w : Places) (s : Stn) (j : Station) : Keeps s (s.failCustodian w j) := by
  refine .foldl (fun t h => ?_) _ s
  split
  · exact t.setCustodian_keeps w h none
  · exact .refl t

theorem Stn.failView_keeps (w : Places) (s : Stn) (k : Station) : Keeps s (s.failView w k) := by
  unfold Stn.failView
  split
  · exact .refl s
  · exact (s.changeView_keeps w k .failed false).trans (Stn.failCustodian_keeps ..)

theorem Stn.bothDown_keeps (w : Places) (fuel : Nat) (s : Stn) : Keeps s (Stn.bothDown w fuel s) := by
  induction fuel generalizing s with
  | zero => exact .refl s
  | succ n ih =>
    unfold Stn.bothDown
    split
    · exact .refl s
    next k _ => exact ((s.failView_keeps w k).trans (Stn.setCustodian_keeps ..)).trans (ih _)

theorem Stn.doubleFailure_keeps (w : Places) (s : Stn) : Keeps s (s.doubleFailure w) := Stn.bothDown_keeps w 16 s

theorem Stn.enterLive_keeps (w : Places) (s : Stn) : Keeps s (s.enterLive w) :=
  (s.becomeLive_keeps w).trans (Stn.doubleFailure_keeps ..)

theorem Stn.setView_keeps (w : Places) (s : Stn) (k : Station) (v : View) (episode : Bool) :
    Keeps s (s.setView w k v episode) := by
  unfold Stn.setView
  dsimp only
  split_ifs
  · exact .refl s
  · exact ((s.changeView_keeps w k v episode).trans (Stn.failCustodian_keeps ..)).trans (Stn.doubleFailure_keeps ..)
  · exact (s.changeView_keeps w k v episode).trans (Stn.doubleFailure_keeps ..)

/-! ### Declaration and adoption (section 3.3) -/

theorem Stn.adoptOne_keeps (s : Stn) (b : StandbyRec) : Keeps s (s.adoptOne b) := by
  unfold Stn.adoptOne
  split
  next => exact s.updStandby_keeps _ _
  next free =>
    obtain ⟨room, -, fresh⟩ : s.subs.active.length < Config.tableCap ∧ s.recAt? b.admin.addr = none ∧
        s.rec? b.admin.sub = none := by simpa [not_or] using free
    have left : Keeps s { s with subs.standby := s.subs.standby.filter fun x => decide (x.admin.sub ≠ b.admin.sub) } :=
      .of_same rfl rfl rfl
    exact left.trans (Stn.insertRec_keeps room fresh rfl)

theorem Stn.adopt_keeps (s : Stn) : Keeps s s.adopt := by
  have listed : Keeps s { s with cust.custody := setAdd s.cust.custody s.ward, cust.declaration := .none } :=
    .of_same rfl rfl rfl
  exact ((listed.trans (Stn.setCustodian_keeps ..)).trans (Stn.setView_keeps ..)).trans
    (.foldl Stn.adoptOne_keeps _ _)

theorem Stn.redeclare_keeps (s : Stn) : Keeps s s.redeclare := by
  have forgotten (t : Stn) : Keeps t { t with cust.retryDelay := none } := .of_same rfl rfl rfl
  exact (((s.setView_keeps ..).trans (forgotten _)).trans (Stn.clearReturned_keeps _)).trans
    (.foldl Stn.adoptOne_keeps _ _)

theorem Stn.declarationCheck_keeps (s : Stn) : Keeps s s.declarationCheck := by
  unfold Stn.declarationCheck
  split
  · exact .of_same rfl rfl rfl
  · exact .refl s

theorem Stn.redeclarationCheck_keeps (s : Stn) : Keeps s s.redeclarationCheck := by
  unfold Stn.redeclarationCheck
  split
  · exact s.redeclare_keeps
  · exact .refl s

/-! ### Waits kept in rounds (R50, R53, R58) -/

theorem Stn.countBuddyWait_keeps (s : Stn) : Keeps s s.countBuddyWait := by
  unfold Stn.countBuddyWait
  split
  next =>
    extract_lets n cust s1
    have counted : Keeps s s1 := .of_same rfl rfl rfl
    split
    · exact counted.trans (s1.enterLive_keeps .atOnce)
    · exact counted
  next => exact .refl s

theorem Stn.retryOver_keeps (s : Stn) : Keeps s s.retryOver := by
  have forgotten : Keeps s { s with cust.retryDelay := none } := .of_same rfl rfl rfl
  unfold Stn.retryOver
  dsimp only
  split
  · exact forgotten.trans (Stn.requestReturn_keeps ..)
  · exact forgotten

theorem Stn.countRetry_keeps (s : Stn) : Keeps s s.countRetry := by
  unfold Stn.countRetry
  split
  · exact .refl s
  · split_ifs
    · exact s.retryOver_keeps
    · exact .of_same rfl rfl rfl
    · exact .refl s

theorem Stn.countRestart_keeps (s : Stn) : Keeps s s.countRestart := by
  unfold Stn.countRestart Stn.restartOver
  split
  · split_ifs
    · exact s.startMirror_keeps
    · exact .of_same rfl rfl rfl
    · exact .of_same rfl rfl rfl
  · exact .refl s

/-! ### Notes of the walks -/

theorem Stn.handReturn_keeps {s : Stn} (free : s.outboxFree = true) (body : NoteBody) : Keeps s (s.handReturn body) := by
  unfold Stn.handReturn
  split
  · exact s.abortReturn_keeps
  · exact Stn.pushNote_keeps free _

theorem Stn.handMirrorWalk_keeps {s : Stn} (free : s.outboxFree = true) (body : NoteBody) :
    Keeps s (s.handMirrorWalk body) := by
  unfold Stn.handMirrorWalk
  split
  · exact s.mirrorToRestart_keeps
  · exact Stn.pushNote_keeps free _

theorem Stn.returnVisit_keeps (s : Stn) : Keeps s s.returnVisit := by
  unfold Stn.returnVisit
  split
  next running =>
    have goesOn := Keeps.of_returnPhase (Stn.returnRunning_of_running running)
    split
    next free =>
      rw [Bool.and_eq_true] at free
      split
      next => exact s.advanceReturn_keeps
      next r _ =>
        refine Keeps.trans ?_ (Stn.advanceReturn_keeps _)
        have visited := goesOn .adopted (some r.admin.sub)
        split
        · exact visited.trans (Stn.handReturn_keeps (by exact free.1) _)
        · exact visited
    next => exact .refl s
  next => exact .refl s

theorem Stn.returnStandbyVisit_keeps (s : Stn) : Keeps s s.returnStandbyVisit := by
  unfold Stn.returnStandbyVisit
  split
  next running =>
    have goesOn := Keeps.of_returnPhase (Stn.returnRunning_of_running running)
    split
    next free =>
      rw [Bool.and_eq_true] at free
      split
      next b _ => exact (goesOn .standby (some b.admin.sub)).trans (Stn.handReturn_keeps (by exact free.1) _)
      next => exact (goesOn .ending none).trans (Stn.handReturn_keeps (by exact free.1) _)
    next => exact .refl s
  next => exact .refl s

theorem Stn.revisitOne_keeps (s : Stn) (sub : Nat) : Keeps s (s.revisitOne sub) := by
  unfold Stn.revisitOne
  split
  next =>
    split
    next may =>
      obtain ⟨-, -, -, free, -⟩ := may
      exact Stn.handReturn_keeps free _
    next => exact .refl s
  next => exact .refl s

theorem Stn.revisit_keeps (s : Stn) : Keeps s s.revisit :=
  (Keeps.foldl Stn.revisitOne_keeps _ s).trans (Stn.advanceReturn_keeps _)

theorem Stn.mirrorStep_keeps (s : Stn) : Keeps s s.mirrorStep := by
  have goesOn (m : MirrorWalk) : Keeps s { s with subs.mirror := m } := .of_same rfl rfl rfl
  unfold Stn.mirrorStep
  split
  next pos first _ =>
    split
    next free =>
      rw [Bool.and_eq_true, Bool.and_eq_true] at free
      obtain ⟨⟨free, -⟩, -⟩ := free
      split
      next r _ =>
        exact (goesOn (.running (some r.admin.sub) false false)).trans (Stn.handMirrorWalk_keeps (by exact free) _)
      next => exact (goesOn (.running pos false true)).trans (Stn.handMirrorWalk_keeps (by exact free) _)
    next => exact .refl s
  next => exact .refl s

theorem Stn.reoffer_keeps (s : Stn) : Keeps s s.reoffer := by
  unfold Stn.reoffer
  split
  · exact s.offerOne_keeps _
  · exact .refl s

/-! ### Taken notes of the walks -/

theorem UnitsOff.returnRecord {c : Total} {s : Stn} (h : UnitsOff c s) {sub : Nat} {r : Record}
    (found : s.rec? sub = some r) (standby : List StandbyRec) :
    UnitsOff c { s.removeRec sub with
      subs.standby := standby, meter.returnedOut := (s.removeRec sub).meter.returnedOut + units r.meter.total } := by
  obtain ⟨unique, walks, balance⟩ := h.removeRec found
  refine ⟨unique, walks, ?_⟩
  change s.meter.charged + s.meter.returnedIn - s.meter.billed - (s.meter.returnedOut + units r.meter.total) -
    s.meter.unmetered = units (s.removeRec sub).unitsHeld + c
  change s.meter.charged + s.meter.returnedIn - s.meter.billed - s.meter.returnedOut - s.meter.unmetered = _ at balance
  linear_combination balance

theorem Stn.returnRecord_keeps {s : Stn} {sub : Nat} {r : Record} (found : s.rec? sub = some r)
    (standby : List StandbyRec) : Keeps s { s.removeRec sub with
      subs.standby := standby, meter.returnedOut := (s.removeRec sub).meter.returnedOut + units r.meter.total } :=
  ⟨.congr rfl, fun h => Capacities.congr (s := s.removeRec sub) rfl (h.removeRec sub),
    fun _ h => h.returnRecord found standby⟩

theorem Stn.returnTakenByWard_keeps (s : Stn) (a : Admin) : Keeps s (s.returnTakenByWard a) := by
  unfold Stn.returnTakenByWard
  split
  next found => exact (Stn.returnRecord_keeps found _).trans (Stn.advanceReturn_keeps _)
  next => exact s.updStandby_keeps _ _

/-- The return walk that ran is over: the grant is its own until it is released. -/
theorem UnitsOff.endReturn {c : Total} {s : Stn} (h : UnitsOff c s) (running : s.returnRunning = true) :
    UnitsFree c { s with subs.ret := .idle } := by
  obtain ⟨unique, walks, balance⟩ := h
  obtain ⟨-, still, idle⟩ := walks.of_returnRunning running
  exact ⟨unique, ⟨by simpa [Stn.draining] using still, rfl, idle⟩, balance⟩

theorem Stn.endReturn_keeps {s : Stn} (running : s.returnRunning = true) :
    Keeps s { s with subs.ret := .idle }.releaseGrant :=
  ⟨.congr (by simp [Stn.lineGauge]), fun h => Capacities.releaseGrant (h.congr rfl), fun _ h => (h.endReturn running).releaseGrant⟩

theorem Stn.returnEndTakenByWard_keeps (s : Stn) : Keeps s s.returnEndTakenByWard := by
  unfold Stn.returnEndTakenByWard
  split
  next running =>
    extract_lets cust s1
    have unlisted : Keeps s s1 := .of_same rfl rfl rfl
    refine ((unlisted.trans (Stn.setCustodian_keeps ..)).trans (Stn.clearReturned_keeps _)).trans
      (Stn.endReturn_keeps ?_)
    have goesOn : (s1.setCustodian .atEnd s1.ward (some s1.ward)).clearReturned.subs.ret = s.subs.ret :=
      s1.setCustodian_returnWalk ..
    exact Stn.returnRunning_of_running (goesOn.trans running)
  next => exact .refl s

/-! ### Stand-down (R52) -/

theorem Stn.retryAll_keeps (es : List PendEntry) (s : Stn) : Keeps s (Stn.retryAll es s) := by
  induction es generalizing s with
  | nil => exact .refl s
  | cons e rest ih =>
    unfold Stn.retryAll
    split
    · exact ih s
    · exact (s.offer_keeps ..).trans (ih _)

theorem Line.dropAwaiting_keeps (x : Line) : x.Keeps x.dropAwaiting := by
  refine x.mapCtxs_keeps fun k h => ?_
  split
  · exact Nat.zero_le _
  · exact h

theorem Stn.abstainFrom_keeps (s : Stn) (f : FrameNo) : Keeps s (s.abstainFrom f) := by
  unfold Stn.abstainFrom
  split
  · exact .refl s
  · exact .of_same rfl rfl rfl

theorem Stn.standDownAir_keeps (s : Stn) : Keeps s s.standDownAir := by
  have cleared (t : Stn) : Keeps t { t with
      air.feed := none, air.claims := [], air.peerClaims := Vector.replicate 16 [], air.buffer := [],
      air.maps := [] } := by
    refine ⟨.congr rfl, fun h => ?_, fun _ => .congr rfl⟩
    rw [capacities_iff] at h ⊢
    exact { h with claims := Nat.zero_le _ }
  exact (Keeps.foldl Stn.abstainFrom_keeps s.standDownFrames s).trans (cleared _)

theorem Stn.loseCustody_keeps (s : Stn) : Keeps s s.loseCustody := by
  have unlisted : Keeps s { s with cust.custody := 0 } := .of_same rfl rfl rfl
  exact unlisted.trans (.foldl (fun s k => s.setCustodian_keeps .atEnd k none) _ _)

/-- Where s meets one of the invariants, t does; of the law of units no more than the law is kept. A stand-down
starts the totals again, so that it keeps no distance from the law. -/
structure KeepsInvariants (s t : Stn) : Prop where
  lines : LinesOk s → LinesOk t
  caps : Capacities s → Capacities t
  units : UnitsOff 0 s → UnitsOff 0 t

theorem Keeps.invariants {s t : Stn} (h : Keeps s t) : KeepsInvariants s t := ⟨h.lines, h.caps, h.units 0⟩

theorem KeepsInvariants.refl (s : Stn) : KeepsInvariants s s := (Keeps.refl s).invariants

theorem KeepsInvariants.trans {s t u : Stn} (st : KeepsInvariants s t) (tu : KeepsInvariants t u) :
    KeepsInvariants s u :=
  ⟨tu.lines ∘ st.lines, tu.caps ∘ st.caps, tu.units ∘ st.units⟩

/-- A station with no record, no entry under formation and no walk, its totals in balance. -/
theorem UnitsOff.of_empty {s : Stn} (active : s.subs.active = []) (forming : s.bill.forming = [])
    (pause : s.bill.pause = .none) (grant : s.subs.grant = .nobody) (drain : s.subs.drain = .idle)
    (ret : s.subs.ret = .idle) (net : s.meter.net = 0) : UnitsOff 0 s := by
  refine ⟨?_, ⟨?_, ?_, fun _ => ⟨forming, pause⟩⟩, ?_⟩
  · simp [ActiveUnique, active]
  · simp [Stn.draining, drain, grant]
  · simp [Stn.returnRunning, ret, grant]
  · rw [net, Stn.unitsHeld, active, forming]
    rfl

theorem Stn.standDown_keeps (s : Stn) : KeepsInvariants s s.standDown := by
  unfold Stn.standDown
  extract_lets s1 intake req subs store ret meter bill bus cust s2
  have dropped : KeepsInvariants s1 s2 := by
    refine ⟨fun h => (s1.mapLines_keeps Line.dropAwaiting_keeps).lines h |>.congr rfl, fun h => ?_, fun _ => ?_⟩
    · rw [capacities_iff] at h ⊢
      exact { h with
        active := Nat.zero_le _, entries := Nat.zero_le _, blocks := Nat.zero_le _, outcomes := Nat.zero_le _
        outbox := Nat.zero_le _, pend := Nat.zero_le _, cache := Nat.zero_le _, recent := Nat.zero_le _
        forming := Nat.zero_le _, full := nofun }
    · exact .of_empty rfl rfl rfl rfl rfl rfl (show (0 + 0 - 0 - 0 - 0 : Total) = 0 by decide)
  exact (((s.retryAll_keeps ..).invariants.trans dropped).trans s2.standDownAir_keeps.invariants).trans
    ((Stn.loseCustody_keeps _).trans (Stn.doubleFailure_keeps ..)).invariants

end Sys2Proof.Machine
end


section
/-!
SUPPORT. The Airtime Unit, the Bus Unit and the Return Unit keep the invariants (chapters 2, 7 and 8).
-/

namespace Sys2Proof.Machine

/-! ### Claims and the slot map (R111, R125 to R131) -/

theorem Stn.takeForClaim_keeps (s : Stn) (t : FrameNo) (serial : Serial) : Keeps s (s.takeForClaim t serial) := by
  have left := s.leaveReady_keeps serial
  unfold Stn.takeForClaim
  split
  next => exact left
  next m r _ =>
    have claimed := left.trans ((s.leaveReady serial).updMsg_keeps serial
      (f := fun m => { m with state := .claimed, target := some t }))
    split
    · exact claimed
    · exact (claimed.trans (Stn.updMsg_keeps _ serial)).trans (Stn.updRec_keeps _ m.sub)

/-- A claim enters the list while it holds fewer than 8. -/
theorem Keeps.of_claim {s : Stn} (room : s.air.claims.length < Config.claimCap) (x : Claim) :
    Keeps s { s with air.claims := s.air.claims ++ [x] } := by
  refine ⟨.congr rfl, fun h => ?_, fun _ => .congr rfl⟩
  rw [capacities_iff] at h ⊢
  exact { h with claims := (List.length_append ..).trans_le room }

@[simp] theorem Stn.takeForClaim_claims (s : Stn) (t : FrameNo) (serial : Serial) :
    (s.takeForClaim t serial).air.claims = s.air.claims := by
  unfold Stn.takeForClaim
  dsimp only
  repeat' split
  all_goals rfl

theorem Stn.takeClaims_keeps (t : FrameNo) (fuel : Nat) (s : Stn) : Keeps s (Stn.takeClaims t fuel s) := by
  induction fuel generalizing s with
  | zero => exact .refl s
  | succ n ih =>
    unfold Stn.takeClaims
    split
    next room =>
      split
      next => exact .refl s
      next serial _ =>
        split
        next => exact (s.leaveReady_keeps serial).trans (ih _)
        next =>
          refine ((s.takeForClaim_keeps t serial).trans (Keeps.of_claim ?_ _)).trans (ih _)
          rw [Stn.takeForClaim_claims]
          exact room
    next => exact .refl s

theorem Stn.windowClaims_keeps (s : Stn) (f : FrameNo) (index : Fin 4) : Keeps s (s.windowClaims f index) := by
  unfold Stn.windowClaims
  repeat' split
  · exact .refl s
  · exact s.abstainFrom_keeps _
  · exact .refl s
  · exact Stn.takeClaims_keeps ..

theorem Stn.peerClaimsRead_keeps (s : Stn) (p : Station) (f : FrameNo) (index : Fin 4) (state : Member)
    (claims : List Claim) : Keeps s (s.peerClaimsRead p f index state claims) := by
  unfold Stn.peerClaimsRead
  split
  · exact .refl s
  · exact .of_same rfl rfl rfl

theorem Stn.readingAbstain_keeps (s : Stn) (f : FrameNo) (index : Fin 4) (view : View) (lost : Bool) :
    Keeps s (s.readingAbstain f index view lost) := by
  unfold Stn.readingAbstain
  split
  · exact s.abstainFrom_keeps _
  · exact .refl s

theorem Stn.returnToFront_keeps (s : Stn) (serials : List Serial) : Keeps s (s.returnToFront serials) := by
  have fronted (t : Stn) (urgent normal : List Serial) :
      Keeps t { t with store.urgent := urgent, store.normal := normal } := .of_same rfl rfl rfl
  exact (Keeps.foldl (fun t x => t.updMsg_keeps x) serials s).trans (fronted _ _ _)

theorem Stn.loadPage_keeps (s : Stn) (t : FrameNo) (first : Nat) (c : Claim) (serial : Serial) :
    Keeps s (s.loadPage t first c serial) := by
  unfold Stn.loadPage
  split
  next => exact .refl s
  next => exact (s.updMsg_keeps serial).trans (.of_same rfl rfl rfl)

theorem Stn.applyClaim_keeps (t : FrameNo) (fit : List (Nat × Station × Claim)) (s : Stn) (c : Claim) :
    Keeps s (s.applyClaim t fit c) := by
  unfold Stn.applyClaim
  split
  · exact s.loadPage_keeps ..
  · exact .refl s
  · exact .of_same rfl rfl rfl

theorem Stn.emptyClaims_keeps (s : Stn) : Keeps s s.emptyClaims := by
  refine ⟨.congr rfl, fun h => ?_, fun _ => .congr rfl⟩
  rw [capacities_iff] at h ⊢
  exact { h with claims := Nat.zero_le _ }

theorem Stn.applyMap_keeps (s : Stn) (t : FrameNo) : Keeps s (s.applyMap t) := by
  have mapped (m : List SlotMap) : Keeps s { s with air.maps := m } := .of_same rfl rfl rfl
  exact ((mapped _).trans (.foldl (Stn.applyClaim_keeps t _) _ _)).trans (Stn.returnToFront_keeps ..)

theorem Stn.closeMap_keeps (s : Stn) (f : FrameNo) : Keeps s (s.closeMap f) := by
  unfold Stn.closeMap
  dsimp only
  split
  · exact ((s.abstainFrom_keeps _).trans (Stn.returnToFront_keeps ..)).trans (Stn.emptyClaims_keeps _)
  · exact (s.applyMap_keeps _).trans (Stn.emptyClaims_keeps _)

/-! ### The air feed and the office mark (R123, R136) -/

theorem Stn.slotStart_keeps (s : Stn) (n : Fin 32) : Keeps s (s.slotStart n) := by
  unfold Stn.slotStart
  repeat' split
  · exact .of_same rfl rfl rfl
  · exact .refl s
  · exact .of_same rfl rfl rfl
  · exact .of_same rfl rfl rfl
  · exact .of_same rfl rfl rfl

theorem Stn.markAirtime_keeps (s : Stn) : Keeps s s.markAirtime := by
  unfold Stn.markAirtime
  extract_lets f air s1 s2
  have begun : Keeps s s1 := .of_same rfl rfl rfl
  have cut : Keeps s1 s2 := .foldl Stn.completePage_keeps _ s1
  exact (begun.trans cut).trans (.of_same rfl rfl rfl)

/-! ### The rounds (R19, R20) -/

theorem Stn.markBus_keeps (s : Stn) : Keeps s s.markBus := by
  unfold Stn.markBus
  dsimp only
  split
  · exact .of_same rfl rfl rfl
  · exact .of_same rfl rfl rfl

theorem Stn.nextRound_keeps (s : Stn) (r : RoundPos) : Keeps s (s.nextRound r) := by
  unfold Stn.nextRound
  dsimp only
  split_ifs
  · exact .of_same rfl rfl rfl
  · exact .of_same rfl rfl rfl
  · exact .of_same rfl rfl rfl

theorem Stn.passWindow_keeps (s : Stn) (r : RoundPos) : Keeps s (s.passWindow r) := .of_same rfl rfl rfl

theorem Stn.testDeclaration_keeps (s : Stn) : Keeps s s.testDeclaration := by
  unfold Stn.testDeclaration
  split
  · exact .of_same rfl rfl rfl
  · exact .refl s

/-- The choice passes every note of the outbox on. -/
theorem length_chooseNotes (l : List Note) (c : Choice) :
    (chooseNotes l c).passed.length = c.passed.length + l.length := by
  induction l generalizing c with
  | nil => rfl
  | cons n rest ih =>
    unfold chooseNotes
    split_ifs
    all_goals
      rw [ih]
      simp [Choice.place]
      omega

theorem Stn.sendFrame_keeps (s : Stn) (r : RoundPos) : Keeps s (s.sendFrame r) := by
  refine .of_outbox rfl rfl rfl (.inl ?_)
  exact (length_chooseNotes ..).trans (Nat.zero_add _) |>.le

theorem Stn.ownWindow_keeps (s : Stn) (r : RoundPos) : Keeps s (s.ownWindow r) :=
  ((s.testDeclaration_keeps.trans (Stn.windowClaims_keeps ..)).trans (Stn.sendFrame_keeps ..)).trans
    (Stn.passWindow_keeps ..)

/-! ### The readings and the takes (R22, R26, R27) -/

theorem Stn.readNothing_keeps (s : Stn) (p : Station) : Keeps s (s.readNothing p) := by
  unfold Stn.readNothing
  dsimp only
  split
  · exact (s.updEntry_keeps p _).trans (Stn.setView_keeps ..)
  · exact s.updEntry_keeps p _

theorem Stn.heardActivity_keeps (s : Stn) (p : Station) : Keeps s (s.heardActivity p) := s.updEntry_keeps p _

theorem Stn.readForeign_keeps (s : Stn) (p : Station) : Keeps s (s.readForeign p) := by
  unfold Stn.readForeign
  dsimp only
  split
  · exact s.heardActivity_keeps p
  · exact (s.heardActivity_keeps p).trans (Stn.setView_keeps ..)

theorem Stn.removeNote_keeps (s : Stn) (p : Station) (serial : NoteSerial) : Keeps s (s.removeNote p serial) :=
  .of_outbox_filter s _

theorem Stn.noteTaken_keeps (s : Stn) (body : NoteBody) : Keeps s (s.noteTaken body) := by
  unfold Stn.noteTaken
  split
  · exact s.updPend_keeps ..
  · exact s.returnTakenByWard_keeps _
  · exact s.returnEndTakenByWard_keeps
  · split
    · exact .of_same rfl rfl rfl
    · exact .refl s
  · exact .refl s
  · exact .refl s
  · exact .refl s

theorem Stn.readTake_keeps (p : Station) (s : Stn) (t : Station × NoteSerial) : Keeps s (s.readTake p t) := by
  unfold Stn.readTake
  repeat' split
  · exact (s.removeNote_keeps ..).trans (Stn.noteTaken_keeps ..)
  · exact .refl s
  · exact .refl s

theorem Stn.failNote_keeps (s : Stn) (p : Station) (serial : NoteSerial) (body : NoteBody) :
    Keeps s (s.failNote p serial body) := by
  have removed : Keeps s { s.removeNote p serial with bus.failed := satInc s.bus.failed } :=
    (s.removeNote_keeps p serial).trans (.of_same rfl rfl rfl)
  have aborted := removed.trans (Stn.abortReturn_keeps _)
  cases body with
  | forward tag text => exact removed.trans (Stn.finish_keeps ..)
  | answer tag res => exact removed
  | ret a tag zone m => exact aborted.trans (.of_same rfl rfl rfl)
  | retEnd => exact aborted.trans (.of_same rfl rfl rfl)
  | mirror refresh a tag => exact removed.trans (Stn.mirrorToRestart_keeps _)
  | mirrorRemove sub => exact removed.trans (Stn.mirrorToRestart_keeps _)
  | mirrorEnd refresh => exact removed.trans (Stn.mirrorToRestart_keeps _)

theorem Stn.dueForward_keeps (s : Stn) (p : Station) (tag : Tag) (n : Note) : Keeps s (s.dueForward p tag n) := by
  unfold Stn.dueForward
  repeat' split
  · exact s.redirect_keeps ..
  · exact (s.dropForward_keeps tag).trans (Stn.finish_keeps ..)
  · exact .refl s
  · exact .of_outbox_updWhere s _ _

theorem Stn.dueNote_keeps (s : Stn) (p : Station) (serial : NoteSerial) (n : Note) : Keeps s (s.dueNote p serial n) := by
  have due := Keeps.of_outbox_updWhere s (isNote p serial) fun n => { n with awaiting := false }
  unfold Stn.dueNote
  dsimp only
  split
  · exact due.trans (Stn.dueForward_keeps ..)
  · exact due

theorem Stn.resolveOne_keeps (p : Station) (s : Stn) (serial : NoteSerial) : Keeps s (s.resolveOne p serial) := by
  unfold Stn.resolveOne
  repeat' split
  · exact s.failNote_keeps ..
  · exact s.dueNote_keeps ..
  · exact .refl s
  · exact .refl s

theorem Stn.resolve_keeps (s : Stn) (p : Station) : Keeps s (s.resolve p) := .foldl (Stn.resolveOne_keeps p) _ s

/-! ### Notes taken (R28 to R30) -/

theorem Stn.takeAnswer_keeps (s : Stn) (p : Station) (tag : Tag) (res : Result) : Keeps s (s.takeAnswer p tag res) := by
  unfold Stn.takeAnswer
  repeat' split
  · exact (s.dropForward_keeps tag).trans (Stn.applyResult_keeps ..)
  · exact .of_same rfl rfl rfl
  · exact .of_same rfl rfl rfl

/-- The units of a taken RETURN enter the totals. -/
theorem UnitsOff.returnIn {c : Total} {s : Stn} (h : UnitsOff c s) (n : Nat) :
    UnitsOff (c + units n) { s with
      meter.returnedIn := s.meter.returnedIn + units n, cust.returnTaken := true } := by
  obtain ⟨unique, walks, balance⟩ := h
  refine ⟨unique, walks, ?_⟩
  change s.meter.charged + (s.meter.returnedIn + units n) - s.meter.billed - s.meter.returnedOut - s.meter.unmetered =
    units s.unitsHeld + (c + units n)
  change s.meter.charged + s.meter.returnedIn - s.meter.billed - s.meter.returnedOut - s.meter.unmetered = _ at balance
  linear_combination balance

/-- The units of a taken RETURN are held by its record, or written off where a key of it is occupied (R3, R4). -/
theorem Stn.takeReturn_keeps {s : Stn} (room : s.subs.active.length < Config.tableCap) (a : Admin) (nextTag : Tag)
    (lastZone : Option Zone) (m : MeterFields) : Keeps s (s.takeReturn a nextTag lastZone m) := by
  unfold Stn.takeReturn
  extract_lets meter cust s1
  have counted (c : Total) (h : UnitsOff c s) : UnitsOff (c + units m.total) s1 := h.returnIn m.total
  split
  next =>
    refine ⟨.congr rfl, .congr rfl, fun c h => ?_⟩
    have off := (counted c h).writeOff m.total
    rwa [add_sub_cancel_right] at off
  next free =>
    have fresh : s.rec? a.sub = none := by
      simp only [Stn.occupied, Bool.or_eq_true, not_or] at free
      obtain ⟨⟨⟨absent, -⟩, -⟩, -⟩ := free
      simpa using absent
    refine ⟨.congr rfl, fun h => Capacities.insertRec (s := s1) (h.congr rfl) room _, fun c h => ?_⟩
    have entered := (counted c h).insertRec
      (r := { admin := a, origin := .home, home := s.self, returning := false, nextTag := nextTag,
              queue := [], lastZone := lastZone, meter := m }) fresh
    rwa [add_sub_cancel_right] at entered

theorem Stn.takeReturnEnd_keeps (w : Places) (s : Stn) : Keeps s (s.takeReturnEnd w) := by
  unfold Stn.takeReturnEnd
  split
  · exact .of_same rfl rfl rfl
  · exact s.enterLive_keeps w
  · exact .refl s

theorem Stn.refreshStandby_keeps (s : Stn) (refresh : Bool) : Keeps s (s.refreshStandby refresh) := by
  unfold Stn.refreshStandby
  split
  · exact .of_same rfl rfl rfl
  · exact .refl s

theorem Stn.takeMirror_keeps (s : Stn) (refresh : Bool) (a : Admin) (nextTag : Tag) :
    Keeps s (s.takeMirror refresh a nextTag) := by
  have refreshed := s.refreshStandby_keeps refresh
  unfold Stn.takeMirror
  dsimp only
  split_ifs
  · exact refreshed.trans (Stn.updStandby_keeps ..)
  · exact refreshed
  · exact refreshed.trans (.of_same rfl rfl rfl)

theorem Stn.actOn_keeps {s : Stn} {body : NoteBody} (can : s.canTake body = true) (p : Station) :
    Keeps s (s.actOn p body) := by
  cases body with
  | forward tag text => exact Stn.answerFor_keeps can ..
  | answer tag res => exact s.takeAnswer_keeps ..
  | ret a tag zone m => exact Stn.takeReturn_keeps (of_decide_eq_true can) ..
  | retEnd => exact s.takeReturnEnd_keeps .atEnd
  | mirror refresh a tag => exact s.takeMirror_keeps ..
  | mirrorRemove sub => exact .of_same rfl rfl rfl
  | mirrorEnd refresh => exact (s.refreshStandby_keeps refresh).trans (.of_same rfl rfl rfl)

theorem length_remember (l : List NoteSerial) (serial : NoteSerial) (within : l.length ≤ Config.takeMemoryCap) :
    (remember l serial).length ≤ Config.takeMemoryCap := by
  have cap : Config.takeMemoryCap = 16 := rfl
  unfold remember
  rw [List.length_append]
  split
  · rw [List.length_drop, List.length_singleton]
    omega
  · rw [List.length_singleton]
    omega

/-- One take memory changes and holds no more than 16 serials. -/
theorem Keeps.of_memory {s : Stn} (p : Station) {l : List NoteSerial}
    (within : (s.bus.memory.get p).length ≤ Config.takeMemoryCap → l.length ≤ Config.takeMemoryCap) :
    Keeps s { s with bus.memory := s.bus.memory.set p.val l p.isLt } := by
  refine ⟨.congr rfl, fun h => ?_, fun _ => .congr rfl⟩
  rw [capacities_iff] at h ⊢
  refine { h with memory := fun k => ?_ }
  have own := within (h.memory p)
  by_cases same : p = k
  · subst same
    simpa [Stn.capGauge] using own
  · simpa only [Stn.capGauge, get_set_ne _ _ same] using h.memory k

theorem Stn.rememberTake_keeps (s : Stn) (p : Station) (serial : NoteSerial) : Keeps s (s.rememberTake p serial) :=
  .of_memory p (length_remember _ serial)

theorem Stn.queueTake_keeps (s : Stn) (p : Station) (serial : NoteSerial) : Keeps s (s.queueTake p serial) :=
  .of_same rfl rfl rfl

/-- The take of a note does not change whether it can be taken. -/
theorem Stn.canTake_taken (s : Stn) (p : Station) (serial : NoteSerial) (body : NoteBody) :
    ((s.rememberTake p serial).queueTake p serial).canTake body = s.canTake body := by
  cases body <;> rfl

theorem Stn.readNoteOf_keeps (p : Station) (x : Stn × Bool) (w : WireNote) : Keeps x.1 (Stn.readNoteOf p x w).1 := by
  unfold Stn.readNoteOf
  split_ifs with other known shut
  · exact .refl _
  · exact x.1.queueTake_keeps ..
  · exact .refl _
  · have can : x.1.canTake w.body = true := by
      rw [Bool.or_eq_true, not_or, Bool.not_eq_true', Bool.not_eq_false] at shut
      exact shut.2
    refine ((x.1.rememberTake_keeps ..).trans (Stn.queueTake_keeps ..)).trans (Stn.actOn_keeps ?_ p)
    rwa [Stn.canTake_taken]

theorem Stn.readNotes_keeps (p : Station) (notes : List WireNote) (x : Stn × Bool) :
    Keeps x.1 (notes.foldl (Stn.readNoteOf p) x).1 := by
  induction notes generalizing x with
  | nil => exact .refl _
  | cons w rest ih => exact (Stn.readNoteOf_keeps p x w).trans (ih _)

/-! ### The parts of a VALID frame (R23, R38, R40, R41, R51, R177) -/

theorem Stn.clearMemory_keeps (s : Stn) (p : Station) (state : Member) : Keeps s (s.clearMemory p state) := by
  unfold Stn.clearMemory
  split
  · exact .of_memory p fun _ => Nat.zero_le _
  · exact .refl s

theorem Stn.validView_keeps (s : Stn) (p : Station) (f : RoundFrame) (episode : Bool) :
    Keeps s (s.validView p f episode) := by
  have heard := s.updEntry_keeps p fun e => { e with silent := 0, silence := f.silence }
  unfold Stn.validView
  dsimp only
  split
  · exact heard.trans (Stn.setView_keeps ..)
  · split
    · exact heard
    · exact heard.trans (Stn.setView_keeps ..)

theorem Stn.wardJoins_keeps (s : Stn) (p : Station) (episode : Bool) : Keeps s (s.wardJoins p episode) := by
  unfold Stn.wardJoins
  split
  · exact s.clearReturned_keeps.trans (Stn.requestReturn_keeps ..)
  · exact .refl s

theorem Stn.giveBack_keeps (s : Stn) (k : Station) : Keeps s (s.giveBack k) := by
  have given := s.setCustodian_keeps .atEnd k (some k)
  unfold Stn.giveBack
  dsimp only
  split
  · exact given.trans (Stn.setView_keeps ..)
  · exact given

theorem Stn.liveAgain_keeps (s : Stn) (p : Station) (state : Member) : Keeps s (s.liveAgain p state) := by
  unfold Stn.liveAgain
  split
  · exact s.giveBack_keeps p
  · exact .refl s

theorem Stn.listed_keeps (p : Station) (s : Stn) (k : Station) : Keeps s (s.listed p k) := by
  have given := s.setCustodian_keeps .atEnd k (some p)
  unfold Stn.listed
  dsimp only
  split_ifs
  · exact given
  · exact .refl s
  · exact .refl s
  · split
    · exact given.trans (Stn.setView_keeps ..)
    · exact given.trans (Stn.setView_keeps ..)
    · exact given

theorem Stn.dropped_keeps (s : Stn) (p : Station) (f : RoundFrame) : Keeps s (s.dropped p f) := by
  unfold Stn.dropped
  split
  · exact .refl s
  · refine .foldl (fun t k => ?_) _ s
    split
    · exact t.giveBack_keeps k
    · exact .refl t

theorem Stn.recordHeard_keeps (s : Stn) (p : Station) (f : RoundFrame) : Keeps s (s.recordHeard p f) := by
  unfold Stn.recordHeard
  split
  · exact .of_same rfl rfl rfl
  · exact .refl s

theorem Stn.custodyPart_keeps (s : Stn) (p : Station) (f : RoundFrame) : KeepsInvariants s (s.custodyPart p f) := by
  unfold Stn.custodyPart
  extract_lets episode s1 s2 s3 s4
  have read : Keeps s s2 :=
    (((s.recordHeard_keeps p f).trans (Stn.validView_keeps ..)).trans (Stn.wardJoins_keeps ..)).trans
      ((Stn.liveAgain_keeps ..).trans (.foldl (Stn.listed_keeps p) _ _))
  have stood : KeepsInvariants s2 s3 := by
    simp only [s3]
    split
    · exact s2.standDown_keeps
    · exact .refl s2
  refine (read.invariants.trans stood).trans ((s3.dropped_keeps p f).trans ?_).invariants
  exact .of_same rfl rfl rfl

theorem Stn.followPeriod_keeps (s : Stn) (p : Period) : Keeps s (s.followPeriod p) := by
  unfold Stn.followPeriod
  split
  next nobody => exact Stn.startDrain_keeps nobody p
  next => exact .of_same rfl rfl rfl

theorem Stn.billingPart_keeps (s : Stn) (p : Station) (f : RoundFrame) : Keeps s (s.billingPart p f) := by
  unfold Stn.billingPart
  extract_lets bill s1
  have noted : Keeps s s1 := .of_same rfl rfl rfl
  split
  · exact noted.trans (Stn.followPeriod_keeps ..)
  · exact noted

theorem Stn.validFrame_keeps (s : Stn) (p : Station) (r : RoundPos) (f : RoundFrame) :
    KeepsInvariants s (s.validFrame p r f) := by
  unfold Stn.validFrame
  extract_lets s1 s2 s3
  have taken : Keeps s s2 := (s.clearMemory_keeps p f.state).trans (.foldl (Stn.readTake_keeps p) _ s1)
  have noted : Keeps s2 s3 := Stn.readNotes_keeps p f.notes (s2, false)
  exact (((taken.trans noted).trans (Stn.peerClaimsRead_keeps ..)).invariants.trans (Stn.custodyPart_keeps ..)).trans
    (Stn.billingPart_keeps ..).invariants

theorem Stn.applyReading_keeps (s : Stn) (p : Station) (r : RoundPos) (g : Reading) :
    KeepsInvariants s (s.applyReading p r g) := by
  match g with
  | .nothing => exact ((s.readingAbstain_keeps ..).trans (Stn.readNothing_keeps ..)).invariants
  | .damaged =>
    have counted : Keeps s { s with bus.damaged := satInc s.bus.damaged } := .of_same rfl rfl rfl
    exact ((counted.trans (Stn.readingAbstain_keeps ..)).trans (Stn.heardActivity_keeps ..)).invariants
  | .foreign =>
    have counted : Keeps s { s with bus.foreign := satInc s.bus.foreign } := .of_same rfl rfl rfl
    exact (counted.trans (Stn.readForeign_keeps ..)).invariants
  | .valid f => exact s.validFrame_keeps p r f

theorem Stn.windowEnd_keeps (s : Stn) (p : Station) (r : RoundPos) (heard : List Byte) :
    KeepsInvariants s (s.windowEnd p r heard) :=
  ((s.passWindow_keeps r).invariants.trans (Stn.applyReading_keeps ..)).trans
    ((Stn.resolve_keeps ..).trans (Stn.settledFrom_keeps ..)).invariants

/-! ### The round end and the end of JOINING (R20, R49, R92) -/

theorem Stn.overallLimit_keeps (s : Stn) (tag : Tag) : Keeps s (s.overallLimit tag) :=
  ((s.dropForward_keeps tag).trans (Stn.finish_keeps ..)).trans (Stn.givePlaces_keeps ..)

theorem Stn.judgeEntry_keeps (s : Stn) (tag : Tag) : Keeps s (s.judgeEntry tag) := by
  unfold Stn.judgeEntry
  split
  · exact .refl s
  · split_ifs
    · exact .refl s
    · exact s.overallLimit_keeps tag
    · exact s.finish_keeps ..
    · exact s.routeEntry_keeps tag
    · exact .refl s

theorem Stn.countRequests_keeps (s : Stn) : Keeps s s.countRequests := by
  have counted : Keeps s { s with req.pend := s.req.pend.map PendEntry.count } :=
    .of_same rfl (by simp [Stn.capGauge]) rfl
  exact counted.trans (.foldl Stn.judgeEntry_keeps _ _)

theorem Stn.roundEnd_keeps (s : Stn) (r : RoundPos) : Keeps s (s.roundEnd r) := by
  unfold Stn.roundEnd
  extract_lets s1 s2
  have custody : Keeps s s1 :=
    (((s.nextRound_keeps r).trans (Stn.declarationCheck_keeps _)).trans (Stn.redeclarationCheck_keeps _)).trans
      ((Stn.countBuddyWait_keeps _).trans (Stn.givePlaces_keeps ..))
  have waits : Keeps s1 s2 :=
    ((s1.countRequests_keeps.trans (Stn.countRetry_keeps _)).trans (Stn.countRestart_keeps _)).trans
      ((Stn.givePlaces_keeps ..).trans (Stn.revisit_keeps _))
  refine (custody.trans waits).trans (Keeps.trans ?_ (Stn.settled_keeps _))
  split
  · exact s2.closeMap_keeps _
  · exact .refl s2

theorem Stn.copyNumbering_keeps (s : Stn) (f : FrameNo) : Keeps s (s.copyNumbering f) := by
  unfold Stn.copyNumbering
  split
  · exact .refl s
  · refine ⟨.congr rfl, fun h => ?_, fun _ => .congr rfl⟩
    rw [capacities_iff] at h ⊢
    refine { h with recent := ?_ }
    dsimp only [Stn.capGauge]
    split
    · exact h.recent
    · exact Nat.zero_le _

theorem Stn.enterReclaiming_keeps (s : Stn) : Keeps s s.enterReclaiming := by
  have entered : Keeps s { s with cust.state := .reclaiming, cust.buddyWait := 0, cust.join := .before, cust.heard := [] } :=
    .of_same rfl rfl rfl
  exact entered.trans (Stn.doubleFailure_keeps ..)

theorem Stn.endJoining_keeps (s : Stn) (f : FrameNo) : Keeps s (s.endJoining f) := by
  unfold Stn.endJoining
  extract_lets started bill s1 s2
  have forgotten : Keeps (s.copyNumbering f) { s.copyNumbering f with bill.pendingClose := none } := .of_same rfl rfl rfl
  have entered : Keeps s s1 := ((s.copyNumbering_keeps f).trans forgotten).trans (Stn.enterReclaiming_keeps _)
  have returned : Keeps s1 s2 := by
    refine Keeps.trans ?_ (Stn.givePlaces_keeps ..)
    split
    · exact s1.takeReturnEnd_keeps .atOnce
    · exact .refl s1
  exact (entered.trans returned).trans ((Keeps.foldl Stn.routeEntry_keeps _ s2).trans (Stn.settled_keeps _))

/-! ### Reports (chapter 8) -/

theorem length_enterReport (l : List RecentReport) (e : RecentReport) (within : l.length ≤ Config.recentCap) :
    (enterReport l e).length ≤ Config.recentCap := by
  have cap : Config.recentCap = 16 := rfl
  have others := List.length_filter_le (fun x => decide (x.report ≠ e.report)) l
  unfold enterReport
  dsimp only
  rw [List.length_append, List.length_singleton]
  split
  · rw [List.length_drop]
    omega
  · omega

/-- The recent report list changes and holds no more than 16 entries. -/
theorem Keeps.of_recent {s : Stn} {l : List RecentReport}
    (within : s.ret.recent.length ≤ Config.recentCap → l.length ≤ Config.recentCap) :
    Keeps s { s with ret.recent := l } := by
  refine ⟨.congr rfl, fun h => ?_, fun _ => .congr rfl⟩
  rw [capacities_iff] at h ⊢
  exact { h with recent := within h.recent }

theorem Stn.acceptReport_keeps (s : Stn) (q : Report) : Keeps s (s.acceptReport q) :=
  .of_recent (length_enterReport _ _)

theorem Stn.countLate_keeps (s : Stn) : Keeps s s.countLate := .of_same rfl rfl rfl

theorem Stn.acknowledge_keeps (s : Stn) (m : Message) : Keeps s (s.acknowledge m) := by
  unfold Stn.acknowledge
  repeat' split
  · exact s.updMsg_keeps _
  · exact s.countLate_keeps
  · exact s.finalOutcome_keeps ..

theorem Stn.hold_keeps (s : Stn) (r : Record) (m : Message) : Keeps s (s.hold r m) := by
  unfold Stn.hold
  repeat' split
  · exact s.countLate_keeps
  · exact .refl s
  · exact (s.leaveFlight_keeps m).trans (Stn.updMsg_keeps _ _)

theorem Stn.readyReport_keeps (s : Stn) (r : Record) : Keeps s (s.readyReport r) := by
  unfold Stn.readyReport
  repeat' split
  · exact s.endHold_keeps _
  · exact .refl s
  · exact .refl s

theorem Stn.register_keeps (s : Stn) (r : Record) (z : Zone) : Keeps s (s.register r z) := by
  have zoned := s.updRec_keeps r.admin.sub (f := fun r => { r with lastZone := some z })
  unfold Stn.register
  dsimp only
  repeat' split
  · exact zoned.trans (Stn.endWait_keeps ..)
  · exact zoned
  · exact zoned

theorem Stn.matchTag_keeps (s : Stn) (r : Record) (tag : Tag) {act : Message → Stn} (keeps : ∀ m, Keeps s (act m)) :
    Keeps s (s.matchTag r tag act) := by
  unfold Stn.matchTag
  repeat' split
  · exact s.countLate_keeps
  · exact s.countLate_keeps
  · exact keeps _
  · exact .of_same rfl rfl rfl

theorem Stn.actOnRecord_keeps (s : Stn) (r : Record) (q : Report) : Keeps s (s.actOnRecord r q) := by
  cases q with
  | received a tag => exact s.matchTag_keeps r tag s.acknowledge_keeps
  | full a tag => exact s.matchTag_keeps r tag (s.hold_keeps r)
  | ready a => exact s.readyReport_keeps r
  | register a z => exact s.register_keeps r z

theorem Stn.takeReport_keeps (s : Stn) (q : Report) : Keeps s (s.takeReport q) := by
  unfold Stn.takeReport Stn.goodReport Stn.lookupReport
  repeat' split
  · exact .of_same rfl rfl rfl
  · exact (s.acceptReport_keeps q).trans (.of_same rfl rfl rfl)
  · exact (s.acceptReport_keeps q).trans (Stn.countLate_keeps _)
  · exact (s.acceptReport_keeps q).trans (Stn.actOnRecord_keeps ..)
  · exact .refl s

end Sys2Proof.Machine
end


section
/-!
SUPPORT and RESULT. The invariants hold at reset and every step keeps them: the Start-up Controller, then one case for
each command.
-/

namespace Sys2Proof.Machine

/-! ### Start-up (chapter 11) -/

theorem linesOk_reset : LinesOk Stn.reset := by
  intro l
  have line : Stn.reset.line l = Line.reset := by
    change (Vector.replicate 4 Line.reset)[l.val] = _
    simp
  have idle (c : CtxNo) : (Line.reset.ctx c).buffer = [] := by
    have none : Line.reset.ctx c = Context.reset := by
      change (Vector.replicate 16 Context.reset)[c.val] = _
      simp
    rw [none]
    rfl
  rw [line]
  refine ⟨⟨Nat.zero_le _, fun high => ?_, Nat.zero_le _, fun c => ?_⟩, fun _ => rfl⟩
  · rfl
  · rw [idle]
    exact Nat.zero_le _

theorem capacities_reset : Capacities Stn.reset := by
  rw [capacities_iff]
  have memory (k : Station) : (Stn.reset.capGauge.memory.get k).length = 0 := by
    have empty : Stn.reset.capGauge.memory.get k = [] := by
      change (Vector.replicate 16 ([] : List NoteSerial))[k.val] = _
      simp
    rw [empty]
    rfl
  constructor
  case memory => exact fun k => (memory k).trans_le (Nat.zero_le _)
  case full => nofun
  all_goals exact Nat.zero_le _

theorem unitsOff_reset : UnitsOff 0 Stn.reset :=
  .of_empty rfl rfl rfl rfl rfl rfl rfl

theorem Stn.restart_keeps (s : Stn) (resetAsserted supplyValid : Bool) :
    KeepsInvariants s (Stn.restart resetAsserted supplyValid) :=
  ⟨fun _ => linesOk_reset.congr rfl, fun _ => capacities_reset.congr rfl, fun _ => unitsOff_reset.congr rfl⟩

/-- A change of the controller alone that leaves the lines started or not. -/
theorem Keeps.of_ctl {s : Stn} {c : Startup} (up : ({ s with ctl := c } : Stn).linesUp = s.linesUp) :
    Keeps s { s with ctl := c } := by
  refine ⟨fun h l => ?_, .congr rfl, fun _ => .congr rfl⟩
  obtain ⟨within, quiet⟩ := h l
  exact ⟨within, fun down => quiet (up ▸ down)⟩

theorem Stn.tryStart_keeps (s : Stn) (straps : BitVec 4) : Keeps s (s.tryStart straps) := by
  unfold Stn.tryStart
  split
  next may =>
    obtain ⟨held, -, -⟩ := may
    have down : s.linesUp = false := by simp [Stn.linesUp, held]
    exact .of_ctl (by rw [down]; rfl)
  next => exact .refl s

/-- The lines start: nothing had entered their FIFOs. -/
theorem LinesOk.startLines {s t : Stn} (h : LinesOk s) (down : s.linesUp = false)
    (lines : t.intake.lines = s.intake.lines) : LinesOk t.startLines := by
  intro l
  obtain ⟨⟨-, -, replies, buffers⟩, quiet⟩ := h l
  have started : t.startLines.line l = { s.line l with ready := true } := by
    rw [Stn.startLines, Stn.line, get_map, lines]
    rfl
  rw [started]
  have empty : (s.line l).fifo = [] := quiet down
  refine ⟨⟨?_, fun high => ?_, replies, buffers⟩, fun _ => empty⟩
  · simp [empty]
  · exact absurd high (by simp [empty, Config.fifoHigh])

theorem Stn.readComplete_keeps (s : Stn) (bytes : List Byte) : Keeps s (s.readComplete bytes) := by
  unfold Stn.readComplete
  split
  next second reading =>
    have down : s.linesUp = false := by simp [Stn.linesUp, reading]
    have closed (t : Stn) (lines : t.intake.lines = s.intake.lines) (caps : t.capGauge = s.capGauge)
        (units : t.unitGauge = s.unitGauge) : Keeps s t.startLines :=
      ⟨fun h => h.startLines down lines, fun h => h.congr caps, fun _ h => h.congr units⟩
    dsimp only
    split
    · split
      · exact closed _ rfl rfl rfl
      · exact closed _ rfl rfl rfl
    · split
      · exact closed _ rfl rfl rfl
      · exact .of_ctl (by rw [down]; rfl)
  next => exact .refl s

/-! ### Every command -/

theorem Line.select_keeps (x : Line) (c : CtxNo) : x.Keeps { x with current := some c } := .of_same rfl rfl rfl rfl

theorem Stn.badReport_keeps (s : Stn) : Keeps s s.badReport := .of_same rfl rfl rfl

/-- The last count of one entry, judged (R92). -/
theorem Stn.countEntry_keeps (s : Stn) (tag : Tag) :
    Keeps s ((s.updPend tag PendEntry.count).judgeEntry tag).settled :=
  ((s.updPend_keeps tag _).trans (Stn.judgeEntry_keeps ..)).trans (Stn.settled_keeps _)

/-- A command keeps the invariants where the station it leaves does. -/
theorem exec_keeps {i : Instr} {s t : State} (h : exec i s = .next t) : KeepsInvariants s.stn t.stn := by
  cases i with
  | powerOn a b => cases h; exact Stn.restart_keeps ..
  | resetLineAsserted => cases h; exact Stn.restart_keeps ..
  | supplyBelowValidLevel => cases h; exact Stn.restart_keeps ..
  | resetLineReleased straps =>
    cases h
    have level : Keeps s.stn { s.stn with ctl.resetAsserted := false } := .of_same rfl rfl rfl
    exact (level.trans (Stn.tryStart_keeps ..)).invariants
  | supplyValid straps =>
    cases h
    have level : Keeps s.stn { s.stn with ctl.supplyValid := true } := .of_same rfl rfl rfl
    exact (level.trans (Stn.tryStart_keeps ..)).invariants
  | configurationReadComplete bytes => cases h; exact (s.stn.readComplete_keeps bytes).invariants
  | submit | cancel | query | enrol | amend | suspend | resume | withdraw | meterRead =>
    cases h; exact (s.stn.bring_keeps ..).invariants
  | periodClose | status | statusClear => cases h; exact (s.stn.bringByContext_keeps ..).invariants
  | markSelect l => cases h; exact (s.stn.assemble_keeps l _ fun e y => y.select_keeps e.ctx).invariants
  | markAbandon l => cases h; exact (s.stn.assemble_keeps l _ fun e y => y.abandon_keeps e.ctx).invariants
  | orphanMark l => cases h; exact (s.stn.assemble_keeps l _ fun _ y => y.orphan_keeps).invariants
  | dataCharacter l => cases h; exact (s.stn.assemble_keeps l _ fun e y => y.takeData_keeps e.value).invariants
  | characterReceived l v mark parityBit stopBit => cases h; exact (s.stn.receive_keeps ..).invariants
  | lineBreak l => cases h; exact (s.stn.breakLine_keeps l).invariants
  | terminator l => cases h; exact (s.stn.meetTerminator_keeps l).invariants
  | replyTransmitStart l => cases h; exact (s.stn.transmit_keeps l).invariants
  | replySent l => cases h; exact (s.stn.replyDone_keeps l).invariants
  | messageExpiry serial => cases h; exact ((s.stn.expire_keeps ..).trans (Stn.givePlaces_keeps ..)).invariants
  | reportReceived a tag => cases h; exact ((s.stn.takeReport_keeps _).trans (Stn.givePlaces_keeps ..)).invariants
  | reportRegister a z => cases h; exact ((s.stn.takeReport_keeps _).trans (Stn.givePlaces_keeps ..)).invariants
  | reportFull a tag => cases h; exact (s.stn.takeReport_keeps _).invariants
  | reportReady a => cases h; exact (s.stn.takeReport_keeps _).invariants
  | returnWalkVisit => cases h; exact (s.stn.returnVisit_keeps).invariants
  | returnWalkStandbyVisit => cases h; exact (s.stn.returnStandbyVisit_keeps).invariants
  | mirrorWalkStep => cases h; exact (s.stn.mirrorStep_keeps).invariants
  | forwardReoffer => cases h; exact (s.stn.reoffer_keeps).invariants
  | drainVisit => cases h; exact (s.stn.drainVisit_keeps.trans (Stn.givePlaces_keeps ..)).invariants
  | billingBlockStart accept => cases h; exact (s.stn.billingStart_keeps accept).invariants
  | billingBlockSent => cases h; exact (s.stn.billingSent_keeps).invariants
  | officeMarkBus f =>
    cases h
    split
    · exact (s.stn.markBus_keeps).invariants
    · exact .refl _
  | officeMarkAirtime =>
    cases h
    split
    · exact (s.stn.markAirtime_keeps.trans (Stn.givePlaces_keeps ..)).invariants
    · exact .refl _
  | airFrameStart f order =>
    cases h
    split
    · exact ((s.stn.airFrameStart_keeps f order).trans (Stn.givePlaces_keeps ..)).invariants
    · exact .refl _
  | slotStart n =>
    cases h
    split
    · exact (s.stn.slotStart_keeps n).invariants
    · exact .refl _
  | owedNoticeOffers =>
    cases h
    split
    · exact (Stn.offerOwed_keeps _ s.stn).invariants
    · exact .refl _
  | reportEntryAged f =>
    cases h
    split
    · exact (Keeps.of_recent (s := s.stn) (List.length_filter_le ..).trans).invariants
    · exact .refl _
  | badReport bytes =>
    cases h
    split
    · exact s.stn.badReport_keeps.invariants
    · exact .refl _
  | reportGap bytes =>
    cases h
    split
    · exact s.stn.badReport_keeps.invariants
    · exact .refl _
  | adoption =>
    cases h
    split
    · exact (s.stn.adopt_keeps.trans (Stn.settledFrom_keeps ..)).invariants
    · exact .refl _
  | buddyWaitEnd =>
    cases h
    split
    · exact (s.stn.countBuddyWait_keeps.trans (Stn.settledFrom_keeps ..)).invariants
    · exact .refl _
  | returnRetryDelayEnd =>
    cases h
    split
    · exact (s.stn.countRetry_keeps.trans (Stn.settledFrom_keeps ..)).invariants
    · exact .refl _
  | mirrorRestartWaitEnd =>
    cases h
    split
    · exact (s.stn.countRestart_keeps).invariants
    · exact .refl _
  | heldReplyOffer l =>
    cases h
    split
    · exact ((Stn.offerHeld_keeps _ l s.stn).trans (Stn.settled_keeps _)).invariants
    · exact .refl _
  | waitEnd serial =>
    cases h
    repeat' split
    · exact ((s.stn.endWait_keeps serial false).trans (Stn.givePlaces_keeps ..)).invariants
    · exact .refl _
    · exact .refl _
  | holdEnd serial =>
    cases h
    repeat' split
    · exact (s.stn.endHold_keeps serial).invariants
    · exact .refl _
    · exact .refl _
  | pageCompletion serial =>
    cases h
    repeat' split
    · exact (((s.stn.endRun_keeps _).trans (Stn.completePage_keeps ..)).trans (Stn.givePlaces_keeps ..)).invariants
    · exact .refl _
    · exact .refl _
  | silentView k =>
    cases h
    repeat' split
    · exact (((s.stn.updEntry_keeps k _).trans (Stn.setView_keeps ..)).trans (Stn.settledFrom_keeps ..)).invariants
    · exact .refl _
    · exact .refl _
  | noteFailure p serial =>
    cases h
    repeat' split
    · exact ((Stn.resolveOne_keeps p s.stn serial).trans (Stn.settledFrom_keeps ..)).invariants
    · exact .refl _
    · exact .refl _
  | roundFrameSend =>
    cases h
    repeat' split
    · exact (s.stn.ownWindow_keeps _).invariants
    · exact .refl _
    · exact .refl _
  | roundEnd =>
    cases h
    repeat' split
    · exact (s.stn.roundEnd_keeps _).invariants
    · exact .refl _
    · exact .refl _
  | requestOverallLimit tag =>
    cases h
    repeat' split
    · exact (s.stn.countEntry_keeps tag).invariants
    · exact .refl _
    · exact .refl _
  | answerLimit tag =>
    cases h
    repeat' split
    · exact (s.stn.countEntry_keeps tag).invariants
    · exact .refl _
    · exact .refl _
  | deferralEnd tag =>
    cases h
    repeat' split
    · exact (s.stn.countEntry_keeps tag).invariants
    · exact .refl _
    · exact .refl _
  | joiningEnd =>
    cases h
    split
    · exact (s.stn.endJoining_keeps _).invariants
    · exact .refl _
  | windowReading p heard =>
    cases h
    repeat' split
    · exact s.stn.windowEnd_keeps p _ heard
    · exact .refl _
    · exact .refl _

/-- A step keeps the invariants: that of the front command, or the end of the slot under way on the air feed. -/
theorem step_keeps {s t : State} (h : step s = .next t) : KeepsInvariants s.stn t.stn := by
  unfold step at h
  split at h
  next =>
    cases h
    exact (Keeps.of_same rfl rfl rfl : Keeps s.stn { s.stn with air.feed := none }).invariants
  next rest _ => exact exec_keeps (s := { s with pending := rest }) h

/-! ### The obligations -/

/-- Settles O57: the invariant of the lines holds behind a step where it held before, by `step_keeps`. -/
theorem everyStepKeepsTheLinesWithinTheirCapacities : Obligations.EveryStepKeepsTheLinesWithinTheirCapacities :=
  fun _ _ lines h => (step_keeps h).lines lines

/-- Settles O58: the capacities hold behind a step where they held before, by `step_keeps`. -/
theorem everyStepKeepsTheCapacities : Obligations.EveryStepKeepsTheCapacities :=
  fun _ _ caps h => (step_keeps h).caps caps

/-- Settles O59: the law of units with what it rests on holds behind a step where it held before, by `step_keeps`. -/
theorem everyStepKeepsTheLawOfUnits : Obligations.EveryStepKeepsTheLawOfUnits :=
  fun _ _ units h => unitsOff_zero_iff.1 ((step_keeps h).units (unitsOff_zero_iff.2 units))

/-- Settles O60: at reset every list is empty, no walk runs and every total is 0. -/
theorem invariantsHoldAtReset : Obligations.InvariantsHoldAtReset :=
  ⟨linesOk_reset, capacities_reset, unitsOff_zero_iff.1 unitsOff_reset⟩

/-- Settles O1: the two arms of a step. -/
theorem stepRunsTheFrontCommand : Obligations.StepRunsTheFrontCommand := by
  refine ⟨fun c rest s => rfl, fun s empty => ?_⟩
  simp only [step, empty]

/-- A guarded effect on the station completes, and another queue goes with it. -/
theorem guarded_completes (p : Prop) [Decidable p] (t : Stn) (s : State) :
    ∃ u, (.next (if p then { s with stn := t } else s) : Host.Outcome State Fault Refusal) = .next u ∧
      ∀ queue : List Instr,
        (.next (if p then { stn := t, pending := queue } else { s with pending := queue }) :
          Host.Outcome State Fault Refusal) = .next { u with pending := queue } := by
  refine ⟨_, rfl, fun queue => ?_⟩
  split <;> rfl

/-- A command answers a next state, and another queue goes with it. -/
theorem exec_completes (c : Instr) (s : State) :
    ∃ t, exec c s = .next t ∧ ∀ queue, exec c { s with pending := queue } = .next { t with pending := queue } := by
  cases c with
  | officeMarkBus | officeMarkAirtime | airFrameStart | owedNoticeOffers | reportEntryAged | adoption | buddyWaitEnd
  | returnRetryDelayEnd | mirrorRestartWaitEnd | heldReplyOffer | badReport | reportGap | slotStart =>
    exact guarded_completes _ _ s
  | waitEnd | holdEnd | joiningEnd | roundFrameSend | windowReading | silentView | noteFailure | roundEnd
  | requestOverallLimit | answerLimit | deferralEnd | pageCompletion =>
    refine ⟨_, rfl, fun queue => ?_⟩
    simp only [exec, execWaitEnd, execHoldEnd, execJoiningEnd, execRoundFrameSend, execWindowReading, execSilentView,
      execNoteFailure, execRoundEnd, execRequestOverallLimit, execAnswerLimit, execDeferralEnd, execPageCompletion]
    repeat' split
    all_goals rfl
  | _ => exact ⟨_, rfl, fun _ => rfl⟩

/-- Settles O2: by `exec_completes`, the command is run on the empty queue and then goes with any other. -/
theorem everyCommandCompletesAndLeavesTheQueue : Obligations.EveryCommandCompletesAndLeavesTheQueue := by
  intro c s
  obtain ⟨t, -, goes⟩ := exec_completes c { stn := s, pending := [] }
  exact ⟨t.stn, goes⟩

end Sys2Proof.Machine
end


section
/-!
RESULT. Reset and start-up (chapter 11): what reset leaves, HELD and the read of the configuration image.
-/

namespace Sys2Proof.Machine

theorem get_replicate {α : Type} {n : Nat} (x : α) (i : Fin n) : (Vector.replicate n x).get i = x := by
  change (Vector.replicate n x)[i.val] = x
  simp

/-- Settles O3: a vector of the reset holds one value, and every other part is read off. -/
theorem resetLeavesEveryBlockEmpty : Obligations.ResetLeavesEveryBlockEmpty := by
  have line (l : LineNo) : State.reset.stn.line l = Line.reset := get_replicate _ l
  have ctx (c : CtxNo) : Line.reset.ctx c = Context.reset := get_replicate _ c
  have lines (l : LineNo) : let x := State.reset.stn.line l
      x.fifo = [] ∧ x.ready = false ∧ x.current = none ∧ x.replies = [] ∧ x.sending = none ∧
        ∀ c, x.ctx c = { state := .idle, buffer := [], gen := 0 } := by
    rw [line]
    exact ⟨rfl, rfl, rfl, rfl, rfl, ctx⟩
  have claims (k : Station) : State.reset.stn.air.peerClaims.get k = [] := get_replicate _ k
  have peers (k : Station) : State.reset.stn.bill.peers.get k = none := get_replicate _ k
  have perStation (k : Station) : State.reset.stn.bus.counters.get k = 0 ∧ State.reset.stn.bus.memory.get k = [] ∧
      State.reset.stn.bus.lastSender.get k = none := ⟨get_replicate _ k, get_replicate _ k, get_replicate _ k⟩
  have counts : State.reset.stn.counts = List.replicate 31 0 := by decide
  unfold Obligations.ResetLeavesEveryBlockEmpty
  exact ⟨rfl, rfl, rfl, rfl, rfl, rfl, lines, rfl, rfl, rfl, rfl, rfl, rfl, rfl, rfl, rfl, rfl, rfl,
    rfl, rfl, rfl, rfl, rfl, rfl, rfl, rfl, rfl, rfl, claims, rfl, rfl, rfl, rfl, rfl, rfl, rfl, peers, rfl, rfl, rfl, rfl, rfl, rfl, rfl, rfl, rfl, rfl, rfl, rfl,
    perStation, rfl, rfl, rfl, rfl, rfl, rfl, rfl, rfl, rfl, counts, rfl⟩

/-! ### HELD (R188 to R190) -/

theorem Stn.tryStart_of_ready {s : Stn} (held : s.ctl.phase = .held) (released : s.ctl.resetAsserted = false)
    (supplied : s.ctl.supplyValid = true) (straps : BitVec 4) : s.tryStart straps = s.leaveHeld straps :=
  if_pos ⟨held, released, supplied⟩

theorem Stn.tryStart_of_not_ready {s : Stn}
    (wait : ¬(s.ctl.phase = .held ∧ s.ctl.resetAsserted = false ∧ s.ctl.supplyValid = true)) (straps : BitVec 4) :
    s.tryStart straps = s := if_neg wait

/-- Settles O4: the three restarts are read off; a level that changes ends HELD or changes alone, by
`Stn.tryStart_of_ready` and `Stn.tryStart_of_not_ready`. -/
theorem startUpFollowsResetLineAndSupply : Obligations.StartUpFollowsResetLineAndSupply := by
  refine ⟨fun s r v => ⟨rfl, rfl, rfl⟩, fun s straps => ⟨?_, fun wait => ?_, ?_, fun wait => ?_⟩⟩
  · rintro ⟨held, supplied⟩
    have started := Stn.tryStart_of_ready (s := { s.stn with ctl.resetAsserted := false }) held rfl supplied straps
    simp only [exec, execResetLineReleased, started]
    rfl
  · have same := Stn.tryStart_of_not_ready (s := { s.stn with ctl.resetAsserted := false })
      (fun ready => wait ⟨ready.1, ready.2.2⟩) straps
    simp only [exec, execResetLineReleased, same]
  · rintro ⟨held, released⟩
    have started := Stn.tryStart_of_ready (s := { s.stn with ctl.supplyValid := true }) held released rfl straps
    simp only [exec, execSupplyValid, started]
    rfl
  · have same := Stn.tryStart_of_not_ready (s := { s.stn with ctl.supplyValid := true })
      (fun ready => wait ⟨ready.1, ready.2.1⟩) straps
    simp only [exec, execSupplyValid, same]

/-! ### The read of the image (R190 to R193, R204) -/

/-- Two bytes are those of the number they give. -/
theorem be_ofBytes_pair (a b : Byte) : be 2 (ofBytes [a, b]) = [a, b] := by
  have number : ofBytes [a, b] = 256 * a.toNat + b.toNat := by simp [ofBytes]
  have ha := a.isLt
  have hb := b.isLt
  simp only [be, number, List.cons.injEq, and_true]
  constructor <;> apply BitVec.eq_of_toNat_eq <;> simp only [BitVec.toNat_ofNat] <;> omega

theorem ofBytes_pair_lt (a b : Byte) : ofBytes [a, b] < 65536 := by
  have number : ofBytes [a, b] = 256 * a.toNat + b.toNat := by simp [ofBytes]
  have ha := a.isLt
  have hb := b.isLt
  omega

/-- A whole image is clocked in as it stands. -/
theorem clockedIn_of_length {bytes : List Byte} (whole : 511 ≤ bytes.length) : clockedIn bytes = bytes.take 511 := by
  have none : Config.imageBytes - bytes.length = 0 := Nat.sub_eq_zero_of_le whole
  rw [clockedIn, none, List.replicate_zero, List.append_nil]
  rfl

/-- The check that a good read ends with is over the bytes before it (R191). -/
theorem goodRead_check {bytes : List Byte} (good : goodRead bytes = true) (whole : 511 ≤ bytes.length) :
    (bytes.drop 509).take 2 = be 2 (check (bytes.take 509)) := by
  have length : (bytes.take 511).length = 511 := by simpa using whole
  obtain ⟨-, checked⟩ : _ ∧ (checked? (bytes.take 511)).isSome = true := by
    simpa [goodRead, clockedIn_of_length whole] using good
  unfold checked? at checked
  dsimp only at checked
  rw [length] at checked
  split at checked
  next h =>
    obtain ⟨-, sums⟩ := h
    rw [List.drop_take, List.take_take] at sums
    simpa using sums
  next => simp at checked

/-- An image that is read holds the two bytes at 509 (R191). -/
theorem readImage_check {self : Station} {bytes : List Byte} {img : Image} (read : readImage self bytes = some img) :
    img.check = BitVec.ofNat 16 (at2 (clockedIn bytes) 509) := by
  simp only [readImage, Option.bind_eq_bind, Option.bind_eq_some_iff] at read
  obtain ⟨_, -, _, -, _, -, _, -, _, -, _, -, _, -, _, -, made⟩ := read
  split at made
  next =>
    cases made
    rfl
  next => cases made

/-- The check that an image holds is the one that its read ends with. -/
theorem be_check_of_readImage {self : Station} {bytes : List Byte} {img : Image}
    (read : readImage self bytes = some img) (whole : 511 ≤ bytes.length) :
    be 2 img.check.toNat = (bytes.drop 509).take 2 := by
  have last : ((clockedIn bytes).drop 509).take 2 = (bytes.drop 509).take 2 := by
    rw [clockedIn_of_length whole, List.drop_take, List.take_take]
    rfl
  have two : ((bytes.drop 509).take 2).length = 2 := by
    rw [List.length_take, List.length_drop]
    omega
  obtain ⟨a, b, pair⟩ := List.length_eq_two.1 two
  rw [readImage_check read, at2, last, pair, BitVec.toNat_ofNat, Nat.mod_eq_of_lt (ofBytes_pair_lt a b),
    be_ofBytes_pair]

section
variable {s : Stn} {bytes : List Byte}

theorem Stn.readComplete_of_first_bad (reading : s.ctl.phase = .reading false) (bad : goodRead bytes = false) :
    s.readComplete bytes =
      { s.drivePort [.select false] with ctl.phase := .reading true }.drivePort readRequest := by
  simp only [Stn.readComplete, reading, bad, Bool.false_eq_true, if_false]

theorem Stn.readComplete_of_second_bad (reading : s.ctl.phase = .reading true) (bad : goodRead bytes = false) :
    s.readComplete bytes = (s.drivePort [.select false]).refuse := by
  simp only [Stn.readComplete, reading, bad, Bool.false_eq_true, if_false, if_true]

theorem Stn.readComplete_of_invalid {second : Bool} (reading : s.ctl.phase = .reading second)
    (good : goodRead bytes = true) (invalid : readImage s.self bytes = none) :
    s.readComplete bytes = (s.drivePort [.select false]).refuse := by
  simp only [Stn.readComplete, reading, good, if_true, invalid]

theorem Stn.readComplete_of_valid {second : Bool} {img : Image} (reading : s.ctl.phase = .reading second)
    (good : goodRead bytes = true) (valid : readImage s.self bytes = some img) :
    s.readComplete bytes = (s.drivePort [.select false]).close img := by
  simp only [Stn.readComplete, reading, good, if_true, valid]

end

/-- Settles O5: the branches of the read, and the check by `be_check_of_readImage` and `goodRead_check`. -/
theorem configurationReadOutcomes : Obligations.ConfigurationReadOutcomes := by
  intro s second bytes reading
  have runs (t : Stn) (completed : s.stn.readComplete bytes = t) :
      exec (.configurationReadComplete bytes) s = .next { s with stn := t } := by rw [← completed]; rfl
  refine ⟨fun bad first => ?_, fun bad again => ?_, fun good invalid => ?_, fun img good valid => ?_,
    fun img good valid whole => ?_⟩
  · subst first
    rw [runs _ (Stn.readComplete_of_first_bad reading bad)]
    rfl
  · subst again
    rw [runs _ (Stn.readComplete_of_second_bad reading bad)]
    rfl
  · rw [runs _ (Stn.readComplete_of_invalid reading good invalid)]
    rfl
  · rw [runs _ (Stn.readComplete_of_valid reading good valid)]
    rfl
  · have held := be_check_of_readImage valid whole
    exact ⟨held, held.trans (goodRead_check good whole)⟩

end Sys2Proof.Machine
end


section
/-!
RESULT. A command without its event changes nothing (log 5): one lemma for each condition that keeps events from
happening, and O56 from them.
-/

namespace Sys2Proof.Machine

section
variable {s : State}

/-- Before the configuration is closed the office events change nothing. -/
theorem exec_of_not_closed (notClosed : s.stn.ctl.phase ≠ .closed) :
    (∀ f order, exec (.airFrameStart f order) s = .next s) ∧ exec .owedNoticeOffers s = .next s ∧
      (∀ f, exec (.reportEntryAged f) s = .next s) ∧ (∀ n, exec (.slotStart n) s = .next s) ∧
      (∀ q : Report, exec q.command s = .next s) ∧ (∀ bytes, exec (.badReport bytes) s = .next s ∧
        exec (.reportGap bytes) s = .next s) := by
  have report (q : Report) : s.stn.takeReport q = s.stn := if_neg notClosed
  refine ⟨fun f order => ?_, ?_, fun f => ?_, fun n => ?_, fun q => ?_, fun bytes => ⟨?_, ?_⟩⟩
  · simp only [exec, execAirFrameStart, if_neg notClosed]
  · simp only [exec, execOwedNoticeOffers, if_neg notClosed]
  · simp only [exec, execReportEntryAged, if_neg notClosed]
  · simp only [exec, execSlotStart, if_neg notClosed]
  · cases q with
    | received a tag => simp [Report.command, exec, execReportReceived, report]
    | full a tag => simp only [Report.command, exec, execReportFull, report]
    | ready a => simp only [Report.command, exec, execReportReady, report]
    | register a z => simp [Report.command, exec, execReportRegister, report]
  · simp [exec, execBadReport, notClosed]
  · simp [exec, execReportGap, notClosed]

/-- Without rounds the windows and the round end change nothing. -/
theorem exec_of_no_rounds (none : s.stn.ctl.phase ≠ .closed ∨ s.stn.bus.round = none) :
    exec .roundFrameSend s = .next s ∧ exec .roundEnd s = .next s ∧
      ∀ p heard, exec (.windowReading p heard) s = .next s := by
  have shut : ¬∃ r, s.stn.ctl.phase = .closed ∧ s.stn.bus.round = some r := by
    rintro ⟨r, closed, runs⟩
    obtain notClosed | paused := none
    · exact notClosed closed
    · cases paused.symm.trans runs
  refine ⟨?_, ?_, fun p heard => ?_⟩
  · simp only [exec, execRoundFrameSend]
    split
    next closed runs => exact (shut ⟨_, closed, runs⟩).elim
    next => rfl
  · simp only [exec, execRoundEnd]
    split
    next closed runs => exact (shut ⟨_, closed, runs⟩).elim
    next => rfl
  · simp only [exec, execWindowReading]
    split
    next closed runs => exact (shut ⟨_, closed, runs⟩).elim
    next => rfl

/-- Before the lines start nothing is received, assembled or sent on them (R62). -/
theorem exec_of_lines_down (down : s.stn.linesUp = false) (l : LineNo) :
    exec (.lineBreak l) s = .next s ∧ exec (.markSelect l) s = .next s ∧
      exec (.markAbandon l) s = .next s ∧ exec (.orphanMark l) s = .next s ∧
      exec (.dataCharacter l) s = .next s ∧ exec (.terminator l) s = .next s ∧
      exec (.replyTransmitStart l) s = .next s ∧
      ∀ v mark parityBit stopBit, exec (.characterReceived l v mark parityBit stopBit) s = .next s := by
  have assembled (p : FifoEntry → Bool) (act : FifoEntry → Line → Line) : s.stn.assemble l p act = s.stn := by
    unfold Stn.assemble
    split
    · simp [down]
    · rfl
  refine ⟨?_, ?_, ?_, ?_, ?_, ?_, ?_, fun v mark parityBit stopBit => ?_⟩
  · simp [exec, execLineBreak, Stn.breakLine, down]
  · simp only [exec, execMarkSelect, assembled]
  · simp only [exec, execMarkAbandon, assembled]
  · simp only [exec, execOrphanMark, assembled]
  · simp only [exec, execDataCharacter, assembled]
  · simp [exec, execTerminator, Stn.meetTerminator, down]
  · simp [exec, execReplyTransmitStart, Stn.transmit, down]
  · simp [exec, execCharacterReceived, Stn.receive, down]

/-- The windows of a round come in their order, and the declaring window of this station ends with its adoption. -/
theorem exec_of_other_window {r : RoundPos} (runs : s.stn.bus.round = some r) :
    (r.left.head? ≠ some s.stn.self → exec .roundFrameSend s = .next s) ∧
      (∀ p heard, (r.left.head? ≠ some p ∨ s.stn.cust.declaration = .declaring) →
        exec (.windowReading p heard) s = .next s) ∧
      (r.left ≠ [] ∨ s.stn.cust.declaration = .declaring → exec .roundEnd s = .next s) := by
  refine ⟨fun other => ?_, fun p heard other => ?_, fun goesOn => ?_⟩
  · simp only [exec, execRoundFrameSend, runs, RoundPos.isNext, decide_eq_true_eq]
    split
    next same => cases same; rw [if_neg other]
    next => rfl
  · have shut : ¬(p ≠ s.stn.self ∧ r.isNext p = true ∧ s.stn.cust.declaration ≠ .declaring) := by
      rintro ⟨-, next, quiet⟩
      exact other.elim (· (of_decide_eq_true next)) quiet
    simp only [exec, execWindowReading, runs]
    split
    next same => cases same; rw [if_neg shut]
    next => rfl
  · have shut : ¬(r.left = [] ∧ s.stn.cust.declaration ≠ .declaring) := by
      rintro ⟨ended, quiet⟩
      exact goesOn.elim (· ended) quiet
    simp only [exec, execRoundEnd, runs]
    split
    next same => cases same; rw [if_neg shut]
    next => rfl

/-- No peer's window is read in the window of this station. -/
theorem exec_windowReading_self (heard : List Byte) : exec (.windowReading s.stn.self heard) s = .next s := by
  simp only [exec, execWindowReading, ne_eq, not_true, false_and, if_false]
  split <;> rfl

theorem exec_configurationReadComplete_of_not_reading (none : ¬∃ second, s.stn.ctl.phase = .reading second)
    (bytes : List Byte) : exec (.configurationReadComplete bytes) s = .next s := by
  simp only [exec, execConfigurationReadComplete, Stn.readComplete]
  split
  next second reading => exact (none ⟨second, reading⟩).elim
  next => rfl

/-- Nothing waits, is held or expires under a serial that no message has. -/
theorem exec_of_no_message {serial : Serial} (none : s.stn.msg? serial = none) :
    exec (.waitEnd serial) s = .next s ∧ exec (.holdEnd serial) s = .next s ∧
      exec (.messageExpiry serial) s = .next s := by
  refine ⟨?_, ?_, ?_⟩
  · simp only [exec, execWaitEnd, none]
  · simp only [exec, execHoldEnd, none]
  · simp [exec, execMessageExpiry, Stn.expire, none]

theorem exec_pageCompletion_of_no_page {serial : Serial} (none : ∀ p ∈ s.stn.air.buffer, p.message ≠ serial) :
    exec (.pageCompletion serial) s = .next s := by
  have absent : s.stn.air.buffer.find? (fun p => decide (p.message = serial)) = Option.none := by simpa using none
  simp only [exec, execPageCompletion, absent]

/-- A wait or hold does not end before its last count, nor in a state that does not count it (R155). -/
theorem exec_waitEnd_of_not_over {m : Message} (found : s.stn.msg? m.serial = some m)
    (goesOn : ¬((m.state = .awaitAck ∨ m.state = .paused) ∧ m.waitLeft ≤ 1)) : exec (.waitEnd m.serial) s = .next s := by
  simp only [exec, execWaitEnd, found, if_neg goesOn]

theorem exec_holdEnd_of_not_over {m : Message} (found : s.stn.msg? m.serial = some m)
    (goesOn : ¬(m.state = .held ∧ m.waitLeft ≤ 1)) : exec (.holdEnd m.serial) s = .next s := by
  simp only [exec, execHoldEnd, found, if_neg goesOn]

/-- No limit of a request is met under a tag that no entry has. -/
theorem exec_of_no_entry {tag : Tag} (none : s.stn.pend? tag = none) :
    exec (.requestOverallLimit tag) s = .next s ∧ exec (.answerLimit tag) s = .next s ∧
      exec (.deferralEnd tag) s = .next s := by
  simp only [exec, execRequestOverallLimit, execAnswerLimit, execDeferralEnd, none, and_self]

theorem exec_noteFailure_of_none {p : Station} {x : NoteSerial}
    (none : ∀ n ∈ s.stn.bus.outbox, n.dest = p → n.serial = some x → n.awaiting = false ∨ n.sends < 8) :
    exec (.noteFailure p x) s = .next s := by
  simp only [exec, execNoteFailure]
  split
  next n found =>
    obtain ⟨dest, serial⟩ : n.dest = p ∧ n.serial = some x := by simpa [isNote] using List.find?_some found
    have goesOn : ¬(n.awaiting = true ∧ Config.sendLimit ≤ n.sends) := by
      rintro ⟨awaits, sent⟩
      obtain due | early := none n (List.mem_of_find?_eq_some found) dest serial
      · simp [due] at awaits
      · exact absurd sent (Nat.not_le.2 early)
    rw [if_neg goesOn]
  next => rfl

theorem exec_joiningEnd_of_not_complete
    (goesOn : s.stn.cust.state ≠ .joining ∨ ∀ f, s.stn.cust.join ≠ .complete f) : exec .joiningEnd s = .next s := by
  simp only [exec, execJoiningEnd]
  split
  next joining complete => exact (goesOn.elim (· joining) (· _ complete)).elim
  next => rfl

/-- A walk that is in another phase, or none, has no visit. -/
theorem exec_returnWalkVisit_of_other (none : ¬∃ pos, s.stn.subs.ret = .running .adopted pos) :
    exec .returnWalkVisit s = .next s := by
  simp only [exec, execReturnWalkVisit, Stn.returnVisit]
  split
  next running => exact (none ⟨_, running⟩).elim
  next => rfl

theorem exec_returnWalkStandbyVisit_of_other (none : ¬∃ pos, s.stn.subs.ret = .running .standby pos) :
    exec .returnWalkStandbyVisit s = .next s := by
  simp only [exec, execReturnWalkStandbyVisit, Stn.returnStandbyVisit]
  split
  next running => exact (none ⟨_, running⟩).elim
  next => rfl

theorem exec_mirrorWalkStep_of_other (none : ¬∃ pos first, s.stn.subs.mirror = .running pos first false) :
    exec .mirrorWalkStep s = .next s := by
  simp only [exec, execMirrorWalkStep, Stn.mirrorStep]
  split
  next running => exact (none ⟨_, _, running⟩).elim
  next => rfl

theorem exec_drainVisit_of_idle (idle : s.stn.subs.drain = .idle) : exec .drainVisit s = .next s := by
  simp [exec, execDrainVisit, Stn.drainVisit, idle]

end

/-- Settles O56: by the lemma for each condition. -/
theorem commandsWithoutTheirEventChangeNothing : Obligations.CommandsWithoutTheirEventChangeNothing := by
  intro s
  refine ⟨exec_of_not_closed, exec_of_no_rounds, exec_of_lines_down, exec_windowReading_self,
    fun _ => exec_of_other_window,
    fun none => exec_configurationReadComplete_of_not_reading (not_exists.2 none), fun _ => exec_of_no_message,
    fun _ => exec_pageCompletion_of_no_page, fun m l found ladder long => ?_, fun m found => ⟨?_, ?_⟩,
    fun _ => exec_of_no_entry, fun _ _ => exec_noteFailure_of_none, ?_, ?_, ?_, ?_,
    exec_joiningEnd_of_not_complete, fun none => exec_returnWalkVisit_of_other (not_exists.2 none),
    fun none => exec_returnWalkStandbyVisit_of_other (not_exists.2 none), fun none => ?_, exec_drainVisit_of_idle⟩
  · have left : ¬ m.waitLeft ≤ 1 := by
      have wait : m.waitLeft = l.wait := by simp [Message.waitLeft, ladder]
      omega
    exact ⟨exec_waitEnd_of_not_over found fun ends => left ends.2, exec_holdEnd_of_not_over found fun ends => left ends.2⟩
  · rintro ⟨ack, paused⟩
    exact exec_waitEnd_of_not_over found fun ends => ends.1.elim ack paused
  · exact fun held => exec_holdEnd_of_not_over found fun ends => held ends.1
  · intro none
    simp only [exec, execAdoption, if_neg none]
  · intro early
    have goesOn : ¬ Config.buddyRounds ≤ s.stn.cust.buddyWait + 1 := Nat.not_le.2 (Nat.succ_lt_succ early)
    simp only [exec, execBuddyWaitEnd, if_neg goesOn]
  · intro early
    simp only [exec, execReturnRetryDelayEnd, if_neg early]
  · intro early
    simp only [exec, execMirrorRestartWaitEnd, if_neg early]
  · exact exec_mirrorWalkStep_of_other fun ⟨pos, first, running⟩ => none pos first running

end Sys2Proof.Machine
end


section
/-!
RESULT. Reception on a line (R62 to R66): the character stored or lost, and the parity of a character.
-/

namespace Sys2Proof.Machine

/-! ### A loss (R66) -/

/-- The mark is on the newest entry. -/
theorem markLoss_eq (l : List FifoEntry) :
    markLoss l = l.dropLast ++ (l.getLast?.toList.map fun e => { e with lossFollows := true }) := by
  induction l with
  | nil => rfl
  | cons e es ih =>
    cases es with
    | nil => rfl
    | cons e' es =>
      rw [markLoss, ih]
      · rfl
      · exact List.cons_ne_nil e' es

theorem Line.recordLoss_of_fifo {x : Line} (some : x.fifo ≠ []) : x.recordLoss = { x with fifo := markLoss x.fifo } :=
  if_neg some

theorem Line.recordLoss_of_empty {x : Line} (empty : x.fifo = []) : x.recordLoss = x.afterLoss true := if_pos empty

/-! ### Reception (R63 to R65) -/

theorem Line.addChar_of_room {x : Line} (room : x.fifo.length < 8) (value : Byte) (mark : Bool) :
    x.addChar value mark = { x with
      fifo := x.fifo ++ [⟨value, mark, false⟩], ready := if 5 ≤ x.fifo.length then false else x.ready } := by
  have high : Config.fifoHigh ≤ (x.fifo ++ [(⟨value, mark, false⟩ : FifoEntry)]).length ↔ 5 ≤ x.fifo.length := by
    rw [List.length_append, List.length_singleton]
    exact Nat.succ_le_succ_iff
  simp only [Line.addChar, Config.fifoCap, room, if_true, high]

theorem Line.addChar_of_full {x : Line} (full : 8 ≤ x.fifo.length) (value : Byte) (mark : Bool) :
    x.addChar value mark = { x with overrun := satInc x.overrun, fifo := markLoss x.fifo } := by
  have some : x.fifo ≠ [] := by
    intro empty
    simp [empty] at full
  rw [Line.addChar, if_neg (show ¬ x.fifo.length < Config.fifoCap from Nat.not_lt.2 full)]
  exact Line.recordLoss_of_fifo (x := { x with overrun := satInc x.overrun }) some

section
variable {s : State} {l : LineNo} {v : Byte} {mark parityBit stopBit : Bool}

theorem exec_characterReceived_of_good (up : s.stn.linesUp = true)
    (good : (stopBit && parityRight (s.stn.lineSettings l).parity v mark parityBit) = true) :
    exec (.characterReceived l v mark parityBit stopBit) s = .next (s.withLine l ((s.stn.line l).addChar v mark)) := by
  simp only [exec, execCharacterReceived, Stn.receive, up, if_true, good]
  rfl

theorem exec_characterReceived_of_bad (up : s.stn.linesUp = true)
    (bad : (stopBit && parityRight (s.stn.lineSettings l).parity v mark parityBit) = false) :
    exec (.characterReceived l v mark parityBit stopBit) s = .next (s.withLine l (s.stn.line l).badChar) := by
  simp only [exec, execCharacterReceived, Stn.receive, up, if_true, bad, Bool.false_eq_true, if_false]
  rfl

end

/-! ### Parity (R62) -/

/-- A running exclusive or is the parity of the number of ones. -/
theorem foldl_xor_eq (f : Nat → Bool) (l : List Nat) (b : Bool) :
    l.foldl (fun p i => xor p (f i)) b = decide (((l.filter f).length + b.toNat) % 2 = 1) := by
  induction l generalizing b with
  | nil => cases b <;> rfl
  | cons i l ih =>
    rw [List.foldl_cons, ih, List.filter_cons]
    congr 1
    cases f i <;> cases b <;> simp <;> omega

/-- The bit that makes the number of ones even is the parity of the others. -/
theorem oddOnes_iff (v : Byte) (mark parityBit : Bool) :
    parityBit = oddOnes v mark ↔
      (((List.range 8).filter v.getLsbD).length + mark.toNat + parityBit.toNat) % 2 = 0 := by
  rw [oddOnes, foldl_xor_eq]
  cases parityBit <;> simp <;> omega

/-- Settles O6: a good character is stored or overruns, a bad one is counted and lost; a parity bit is right by
`oddOnes_iff`. -/
theorem characterReceivedIsStoredOrLost : Obligations.CharacterReceivedIsStoredOrLost := by
  refine ⟨fun s l v mark parityBit stopBit up => ?_, fun v mark parityBit => ?_⟩
  · intro x good i marked bad
    have lost : markLoss x.fifo = marked := markLoss_eq x.fifo
    have empties (empty : x.fifo = []) : x.badChar = bad.afterLoss true := Line.recordLoss_of_empty (x := bad) empty
    refine ⟨fun isGood room => ?_, fun isGood full => ?_, fun isBad some => ?_, fun isBad empty quiet => ?_,
      fun c isBad empty current collecting => ?_⟩
    · rw [exec_characterReceived_of_good up isGood, Line.addChar_of_room room]
    · rw [exec_characterReceived_of_good up isGood, Line.addChar_of_full full, lost]
    · rw [exec_characterReceived_of_bad up isBad, Line.badChar, Line.recordLoss_of_fifo (x := bad) some, lost]
    · rw [exec_characterReceived_of_bad up isBad, empties empty,
        Line.afterLoss_eq_self (x := bad) quiet]
    · rw [exec_characterReceived_of_bad up isBad, empties empty,
        Line.afterLoss_of_collecting (x := bad) current collecting]
      rfl
  · intro ones
    have even : parityBit = oddOnes v mark ↔ ones % 2 = 0 := oddOnes_iff v mark parityBit
    have odd : (!parityBit) = oddOnes v mark ↔ ones % 2 = 1 := by
      rw [← Nat.mod_two_ne_zero, Ne, ← even]
      cases parityBit <;> cases oddOnes v mark <;> simp
    refine ⟨rfl, ?_, ?_, rfl, ?_, ?_⟩
    · simp [parityRight, even]
    · rw [← odd]
      cases parityBit <;> cases h : oddOnes v mark <;> simp [parityRight, h]
    · simp [sentParity, ← even, eq_comm]
    · rw [← odd]
      cases parityBit <;> cases h : oddOnes v mark <;> simp [sentParity, h]

end Sys2Proof.Machine
end


section
/-!
RESULT. The field tests of a well-formed command (R84, R85), and the routing and the lookup of a request (R5, R86,
R87).
-/

namespace Sys2Proof.Machine

/-! ### Field tests -/

theorem fieldRefusal_of_wf {q : Request} (wf : q.wf = true) : fieldRefusal q = none := by
  cases q with
  | submit sub p body => exact Laws.FieldTests.submit_ok sub p body wf
  | enrol sub addr cls t p z quota threshold => exact Laws.FieldTests.enrol_ok sub addr cls t p z quota threshold wf
  | amend sub groups => exact Laws.FieldTests.amend_ok sub groups wf
  | suspend sub | resume sub | withdraw sub | meterRead sub => exact if_neg (Laws.FieldTests.sub_ok wf)
  | cancel | query | periodClose | status => rfl

/-- Settles O12: the request of a well-formed command is well-formed, and passes by `fieldRefusal_of_wf`. -/
theorem wellFormedCommandsPassTheFieldTests : Obligations.WellFormedCommandsPassTheFieldTests := by
  intro i wf q brings
  refine fieldRefusal_of_wf ?_
  simpa only [Instr.wf, brings] using wf

/-! ### Routing (R86, R87) -/

/-- A request by subscriber number is routed by it. -/
theorem Stn.routing_of_sub (s : Stn) {q : Request} {sub : Nat} (h : requestSub q = some sub) :
    s.routing q = s.routeSub sub := by
  cases q <;> cases h <;> rfl

/-- With one entry for a number the route cache gives that entry (R88). -/
theorem Stn.cached?_of_mem {s : Stn} {sub : Nat} {m : Station} (mem : (sub, m) ∈ s.req.cache)
    (unique : (s.req.cache.map (·.1)).Nodup) : s.cached? sub = some m := by
  have found : s.req.cache.find? (fun e => decide (e.1 = sub)) = some (sub, m) := by
    generalize s.req.cache = cache at mem unique
    induction cache with
    | nil => cases mem
    | cons e rest ih =>
      rw [List.map_cons, List.nodup_cons] at unique
      obtain ⟨fresh, unique⟩ := unique
      obtain rfl | mem := List.mem_cons.1 mem
      · simp
      · have other : e.1 ≠ sub := fun same => fresh (List.mem_map.2 ⟨_, mem, same.symm⟩)
        rw [List.find?_cons_of_neg (by simpa using other)]
        exact ih mem unique
  simp [Stn.cached?, found]

theorem Stn.cached?_eq_none {s : Stn} {sub : Nat} (absent : ∀ e ∈ s.req.cache, e.1 ≠ sub) :
    s.cached? sub = none := by
  simpa [Stn.cached?] using absent

section
variable {s : Stn} {k : Station}

theorem Stn.routeReceipt_of_outside (out : inSet s.img.roster k = false) :
    s.routeReceipt k = .refuse .unknownReceipt := if_pos out

theorem Stn.routeReceipt_of_heard (inside : inSet s.img.roster k = true)
    (heard : k = s.self ∨ s.view k = .live ∨ s.view k = .reclaiming) : s.routeReceipt k = .to (.receipt k) k := by
  unfold Stn.routeReceipt
  rw [inside, if_neg nofun]
  split
  · rfl
  next other =>
    obtain own | live | reclaiming := heard
    · exact absurd own other
    · rw [live]
    · rw [reclaiming]

theorem Stn.routeReceipt_of_unheard (inside : inSet s.img.roster k = true)
    (unheard : ¬(k = s.self ∨ s.view k = .live ∨ s.view k = .reclaiming)) :
    s.routeReceipt k = .refuse .unknownReceipt := by
  simp only [not_or] at unheard
  obtain ⟨other, notLive, notReclaiming⟩ := unheard
  unfold Stn.routeReceipt
  rw [inside, if_neg nofun, if_neg other]
  split
  next live => exact absurd live notLive
  next reclaiming => exact absurd reclaiming notReclaiming
  next => rfl

end

/-! ### Lookup (R5) -/

section
variable {s : Stn} {sub : Nat} {h : Station}

theorem Stn.lookup_of_rec {r : Record} (found : s.rec? sub = some r) :
    s.lookup sub h = if r.returning then .notYet else .found := by
  simp [Stn.lookup, found]

theorem Stn.lookup_of_returned {b : StandbyRec} (absent : s.rec? sub = none) (found : s.standby? sub = some b)
    (mark : b.mark = .returned) : s.lookup sub h = .moved h := by
  simp only [Stn.lookup, absent, found, mark]

theorem Stn.lookup_of_unadopted {b : StandbyRec} (absent : s.rec? sub = none) (found : s.standby? sub = some b)
    (mark : b.mark = .unadopted) : s.lookup sub h = .noService := by
  simp only [Stn.lookup, absent, found, mark]

theorem Stn.lookup_of_plain {b : StandbyRec} (absent : s.rec? sub = none) (found : s.standby? sub = some b)
    (mark : b.mark = .plain) : s.lookup sub h = if s.returningFor h then .notYet else s.elsewhere h := by
  simp only [Stn.lookup, absent, found, mark]

theorem Stn.lookup_of_absent (active : s.rec? sub = none) (standby : s.standby? sub = none) :
    s.lookup sub h = if s.returningFor h then .notYet
      else if h = s.self then .absent
      else if s.custodian h = some s.self then if s.subs.standbyComplete then .absent else .noService
      else s.elsewhere h := by
  simp only [Stn.lookup, active, standby]

theorem Stn.elsewhere_of_other {m : Station} (held : s.custodian h = some m) (other : m ≠ s.self) :
    s.elsewhere h = .moved m := by
  simp [Stn.elsewhere, held, other]

theorem Stn.elsewhere_of_none (none : s.custodian h = none ∨ s.custodian h = some s.self) :
    s.elsewhere h = .noService := by
  obtain none | own := none <;> simp [Stn.elsewhere, *]

end

/-- Settles O13: routing by the home station and the cache, by the receipt's station, and the rows of R5. -/
theorem routingAndLookupOfARequest : Obligations.RoutingAndLookupOfARequest := by
  refine ⟨fun s q => ⟨fun sub bySub => ?_, fun k serial byReceipt => ?_⟩, ?_⟩
  · rw [s.routing_of_sub bySub]
    refine ⟨fun none => ?_, fun h m home cached unique => ?_, fun h m home absent held => ?_,
      fun h home absent none => ?_⟩
    · simp only [Stn.routeSub, none]
    · simp only [Stn.routeSub, home, Stn.cached?_of_mem cached unique]
    · simp only [Stn.routeSub, home, Stn.cached?_eq_none absent, held]
    · simp only [Stn.routeSub, home, Stn.cached?_eq_none absent, none]
  · have routed : s.routing q = s.routeReceipt k := by obtain rfl | rfl := byReceipt <;> rfl
    rw [routed]
    exact ⟨Stn.routeReceipt_of_outside, Stn.routeReceipt_of_heard, Stn.routeReceipt_of_unheard⟩
  intro s sub h walking
  have walks : s.returningFor h = true ↔ walking := decide_eq_true_iff
  refine ⟨fun r => Stn.lookup_of_rec, fun b absent found => ?_, fun active standby => ?_⟩
  · refine ⟨Stn.lookup_of_returned absent found, Stn.lookup_of_unadopted absent found, fun mark walk => ?_,
      fun m mark quiet held other => ?_, fun mark quiet none => ?_⟩
    · rw [Stn.lookup_of_plain absent found mark, if_pos (walks.2 walk)]
    · rw [Stn.lookup_of_plain absent found mark, if_neg (mt walks.1 quiet), Stn.elsewhere_of_other held other]
    · rw [Stn.lookup_of_plain absent found mark, if_neg (mt walks.1 quiet), Stn.elsewhere_of_none none]
  · have row := Stn.lookup_of_absent (h := h) active standby
    refine ⟨fun walk => ?_, fun quiet own => ?_, fun quiet other held => ?_, fun m quiet other held away => ?_,
      fun quiet other none => ?_⟩
    · rw [row, if_pos (walks.2 walk)]
    · rw [row, if_neg (mt walks.1 quiet), if_pos own]
    · rw [row, if_neg (mt walks.1 quiet), if_neg other, if_pos held]
    · have notHere : s.custodian h ≠ some s.self := by simpa [held] using away
      rw [row, if_neg (mt walks.1 quiet), if_neg other, if_neg notHere, Stn.elsewhere_of_other held away]
    · have notHere : s.custodian h ≠ some s.self := by simp [none]
      rw [row, if_neg (mt walks.1 quiet), if_neg other, if_neg notHere, Stn.elsewhere_of_none (.inl none)]

end Sys2Proof.Machine
end


section
/-!
SUPPORT. A change of one record, one message or one map entry in the vocabulary of the statements (`withRec`,
`withMsg`, `withEntry`), and the final outcome of a message that ends plainly (R114, R165).
-/

namespace Sys2Proof.Machine

/-! ### A table with one entry changed -/

theorem updWhere_decide {α : Type} {p : α → Prop} [DecidablePred p] (f : α → α) (l : List α) :
    updWhere (fun x => decide (p x)) f l = l.map fun x => if p x then f x else x := by
  simp [updWhere]

theorem Stn.updRec_eq_withRec (s : Stn) (sub : Nat) (f : Record → Record) :
    s.updRec sub f = { s with subs := s.subs.withRec sub f } := by
  rw [Stn.updRec, updWhere_decide]
  rfl

theorem Stn.updMsg_eq_withMsg (s : Stn) (serial : Serial) (f : Message → Message) :
    s.updMsg serial f = { s with store := s.store.withMsg serial f } := by
  rw [Stn.updMsg, updWhere_decide]
  rfl

theorem Stn.updEntry_eq_withEntry (s : Stn) (k : Station) (f : MapEntry → MapEntry) :
    s.updEntry k f = { s with cust := s.cust.withEntry k f } := by
  rw [Stn.updEntry, updWhere_decide]
  rfl

theorem Stn.updMeter_eq_withRec (s : Stn) (sub : Nat) (f : MeterFields → MeterFields) :
    s.updMeter sub f = { s with subs := s.subs.withRec sub fun r => { r with meter := f r.meter } } :=
  s.updRec_eq_withRec sub _

/-- Two changes of one record are one. -/
theorem Subscribers.withRec_withRec (t : Subscribers) (sub : Nat) {f g : Record → Record}
    (keeps : ∀ r, (f r).admin.sub = r.admin.sub) :
    (t.withRec sub f).withRec sub g = t.withRec sub fun r => g (f r) := by
  simp only [Subscribers.withRec, List.map_map]
  congr 1
  refine List.map_congr_left fun r _ => ?_
  by_cases same : r.admin.sub = sub <;> simp [same, keeps]

/-- Two changes of one message are one. -/
theorem Store.withMsg_withMsg (t : Store) (serial : Serial) {f g : Message → Message}
    (keeps : ∀ m, (f m).serial = m.serial) :
    (t.withMsg serial f).withMsg serial g = t.withMsg serial fun m => g (f m) := by
  simp only [Store.withMsg, List.map_map]
  congr 1
  refine List.map_congr_left fun m _ => ?_
  by_cases same : m.serial = serial <;> simp [same, keeps]

/-- The record that a number finds is the only one of that number. -/
theorem ActiveUnique.eq_of_mem {s : Stn} (unique : ActiveUnique s) {sub : Nat} {r x : Record}
    (found : s.rec? sub = some r) (mem : x ∈ s.subs.active) (same : x.admin.sub = sub) : x = r := by
  have number : r.admin.sub = sub := Stn.rec?_sub found
  exact List.inj_on_of_nodup_map unique mem (List.mem_of_find?_eq_some found) (same.trans number.symm)

/-- What a change does to records of the number is what it does to the one that is found. -/
theorem Subscribers.withRec_congr {s : Stn} (unique : ActiveUnique s) {sub : Nat} {r : Record}
    (found : s.rec? sub = some r) {f g : Record → Record} (same : f r = g r) :
    s.subs.withRec sub f = s.subs.withRec sub g := by
  simp only [Subscribers.withRec]
  congr 1
  refine List.map_congr_left fun x mem => ?_
  split
  next number => rw [unique.eq_of_mem found mem number, same]
  next => rfl

/-- A change that leaves the record found leaves the table. -/
theorem Subscribers.withRec_eq_self {s : Stn} (unique : ActiveUnique s) {sub : Nat} {r : Record}
    (found : s.rec? sub = some r) {f : Record → Record} (same : f r = r) : s.subs.withRec sub f = s.subs := by
  rw [Subscribers.withRec_congr unique found (g := id) same]
  simp [Subscribers.withRec]

theorem rec?_withRec {s : Stn} {sub : Nat} {f : Record → Record} {r : Record}
    (keeps : ∀ r, (f r).admin.sub = r.admin.sub) (found : s.rec? sub = some r) :
    ({ s with subs := s.subs.withRec sub f } : Stn).rec? sub = some (f r) := by
  rw [← Stn.updRec_eq_withRec, Stn.rec?_updRec _ _ _ fun x same => (keeps x).trans same, found]
  rfl

theorem msg?_withMsg {s : Stn} {serial : Serial} {f : Message → Message} {m : Message}
    (keeps : ∀ m, (f m).serial = m.serial) (found : s.msg? serial = some m) :
    ({ s with store := s.store.withMsg serial f } : Stn).msg? serial = some (f m) := by
  rw [← Stn.updMsg_eq_withMsg, Stn.msg?_updMsg _ _ _ fun x same => (keeps x).trans same, found]
  rfl

theorem Stn.msg?_serial {s : Stn} {serial : Serial} {m : Message} (found : s.msg? serial = some m) :
    m.serial = serial := by
  simpa using List.find?_some found

/-! ### The steps of a final outcome (R114) -/

theorem Stn.leaveFlight_eq_landed (s : Stn) (m : Message) : s.leaveFlight m = s.landed m := by
  unfold Stn.leaveFlight Stn.landed
  cases m.state with
  | claimed =>
    have claims := updWhere_decide (p := fun c : Claim => c.message = some m.serial) (fun c => { c with message := none })
      s.air.claims
    exact congrArg (fun l => ({ s with air.claims := l } : Stn)) claims
  | loaded | ready | waiting | awaitAck | paused | held => rfl

@[simp] theorem Stn.landed_frame (s : Stn) (m : Message) :
    (s.landed m).ctl = s.ctl ∧ (s.landed m).subs = s.subs ∧ (s.landed m).bill = s.bill ∧
      (s.landed m).meter = s.meter ∧ (s.landed m).store.messages = s.store.messages ∧
      (s.landed m).store.outcomes = s.store.outcomes ∧ (s.landed m).bus = s.bus ∧ (s.landed m).cust = s.cust := by
  unfold Stn.landed
  split <;> exact ⟨rfl, rfl, rfl, rfl, rfl, rfl, rfl, rfl⟩

theorem addOutcome_eq (l : List (Serial × Outcome)) (serial : Serial) (o : Outcome) :
    addOutcome l serial o = l.drop (l.length - 63) ++ [(serial, o)] := by
  unfold addOutcome
  split
  next => rfl
  next few =>
    have none : l.length - 63 = 0 := Nat.sub_eq_zero_of_le (Nat.lt_succ_iff.1 (Nat.not_le.1 few))
    rw [none, List.drop_zero]

theorem actualCharge_eq_charge (m : Message) (fee : Nat) (o : Outcome) :
    actualCharge fee m.origin m.reserved o m.transmissions = m.charge fee o := by
  unfold actualCharge Message.charge
  cases m.origin <;> cases o <;> simp [Nat.pos_iff_ne_zero]

theorem MeterFields.charged_of_below {m : MeterFields} {a : Nat} (below : m.current + a ≤ Config.unitLimit)
    (reserved : Nat) : m.charged reserved a =
      { m with reserved := m.reserved - reserved, current := m.current + a } := by
  simp [MeterFields.charged, addCapped, below]

theorem Stn.roll_of_not_due {s : Stn} {sub : Nat} {r : Record} (found : s.rec? sub = some r)
    (notDue : later s.bill.period r.meter.period = false) : s.roll sub = s := by
  simp [Stn.roll, found, notDue]

theorem Record.callsNotice_of_no_threshold {r : Record} (none : r.admin.threshold = none) :
    r.callsNotice = false := by
  unfold Record.callsNotice
  split
  next some => cases none.symm.trans some
  next => rfl

theorem Stn.noticeTest_of_not_called {s : Stn} {sub : Nat} {r : Record} (found : s.rec? sub = some r)
    (notCalled : r.callsNotice = false) : s.noticeTest sub = s := by
  simp [Stn.noticeTest, found, notCalled]

/-- A settlement without a roll and below the limit: the reservation is released and the charge applied, and then
the notice is tested (R165). -/
theorem Stn.settle_of_below {s : Stn} {sub : Nat} {r : Record} (unique : ActiveUnique s) (found : s.rec? sub = some r)
    (notDue : later s.bill.period r.meter.period = false) {origin : MsgOrigin} {reserved : Nat} {o : Outcome}
    {transmissions a : Nat} (charge : actualCharge (s.tariffOf r).fee origin reserved o transmissions = a)
    (below : r.meter.current + a ≤ Config.unitLimit) :
    s.settle sub origin reserved o transmissions = ({ s with
      subs := s.subs.withRec sub fun x => { x with
        meter := { x.meter with reserved := x.meter.reserved - reserved, current := x.meter.current + a } },
      meter.charged := s.meter.charged + units a } : Stn).noticeTest sub := by
  have charged : s.subs.withRec sub (fun x => { x with meter := x.meter.charged reserved a }) =
      s.subs.withRec sub fun x => { x with
        meter := { x.meter with reserved := x.meter.reserved - reserved, current := x.meter.current + a } } :=
    Subscribers.withRec_congr unique found (by rw [MeterFields.charged_of_below below])
  have noExcess : (addCapped Config.unitLimit r.meter.current a).2 = 0 := by simp [addCapped, below]
  unfold Stn.settle
  rw [Stn.roll_of_not_due found notDue]
  simp only [found, charge, Stn.updMeter_eq_withRec, charged, noExcess, Stn.writeOff, units, BitVec.add_zero]

theorem Stn.promoteHead_of_empty {s : Stn} {sub : Nat} {r : Record} (found : s.rec? sub = some r)
    (empty : r.queue = []) : s.promoteHead sub = s := by
  simp [Stn.promoteHead, found, empty]

/-- The station after a message has left flight, queue and store (R114 steps 1 to 3). -/
def Stn.gone (s : Stn) (m : Message) (o : Outcome) : Stn :=
  let t := s.landed m
  { t with
    subs := s.subs.withRec m.sub fun x => { x with queue := x.queue.filter (· ≠ m.serial) },
    store := { t.store with
      messages := s.store.messages.filter fun x => decide (x.serial ≠ m.serial),
      outcomes := s.store.outcomes.drop (s.store.outcomes.length - 63) ++ [(m.serial, o)] } }

theorem Stn.finalOutcome_eq_gone {s : Stn} {m : Message} (present : s.msg? m.serial = some m) (o : Outcome) :
    s.finalOutcome m.serial o =
      ((s.gone m o).settle m.sub m.origin m.reserved o m.transmissions).promoteHead m.sub := by
  simp only [Stn.finalOutcome, present, Stn.leaveFlight_eq_landed, Stn.updRec_eq_withRec, addOutcome_eq,
    Stn.landed_frame, Stn.gone]

theorem ActiveUnique.withRec {s : Stn} (unique : ActiveUnique s) (sub : Nat) {f : Record → Record}
    (keeps : ∀ r, (f r).admin.sub = r.admin.sub) : ActiveUnique { s with subs := s.subs.withRec sub f } := by
  rw [← Stn.updRec_eq_withRec]
  exact (congrArg List.Nodup (map_updWhere (fun r _ => keeps r) s.subs.active)).mpr unique

theorem Stn.gone_tariffOf (s : Stn) (m : Message) (o : Outcome) (r : Record) :
    (s.gone m o).tariffOf r = s.tariffOf r := by
  have same : (s.gone m o).ctl = s.ctl := by simp [Stn.gone]
  simp only [Stn.tariffOf, Stn.img, same]

theorem Stn.gone_bill (s : Stn) (m : Message) (o : Outcome) : (s.gone m o).bill = s.bill := by simp [Stn.gone]

theorem Stn.gone_meter (s : Stn) (m : Message) (o : Outcome) : (s.gone m o).meter = s.meter := by simp [Stn.gone]

/-- A final outcome of the only message of a queue, up to the notice test and what follows it (R114, R165). -/
theorem Stn.finalOutcome_of_endsAlone {s : Stn} {m : Message} {r : Record} {o : Outcome} (ends : EndsAlone s m r o) :
    s.finalOutcome m.serial o = ((s.ended m r o).noticeTest m.sub).promoteHead m.sub := by
  obtain ⟨unique, present, found, notDue, below, -⟩ := ends
  have left : (s.gone m o).rec? m.sub = some { r with queue := r.queue.filter (· ≠ m.serial) } :=
    rec?_withRec (s := s) (f := fun x => { x with queue := x.queue.filter (· ≠ m.serial) }) (fun _ => rfl) found
  have uniqueGone : ActiveUnique (s.gone m o) :=
    unique.withRec m.sub (f := fun x => { x with queue := x.queue.filter (· ≠ m.serial) }) fun _ => rfl
  have settled := Stn.settle_of_below uniqueGone left
    (by rw [Stn.gone_bill]; exact notDue)
    (by rw [Stn.gone_tariffOf]; exact actualCharge_eq_charge m _ o) below
  rw [Stn.finalOutcome_eq_gone present, settled, Stn.gone_meter]
  congr 2
  simp only [Stn.gone, Stn.ended, Stn.landed_frame]
  rw [Subscribers.withRec_withRec]
  exact fun _ => rfl

/-- The record of a message that has ended alone. -/
theorem Stn.rec?_ended {s : Stn} {m : Message} {r : Record} {o : Outcome} (ends : EndsAlone s m r o) :
    (s.ended m r o).rec? m.sub = some { r with
      queue := [],
      meter := { r.meter with
        reserved := r.meter.reserved - m.reserved, current := r.meter.current + m.charge (s.tariffOf r).fee o } } := by
  obtain ⟨-, -, found, -, -, alone⟩ := ends
  have changed := rec?_withRec (f := fun x => { x with
      queue := x.queue.filter (· ≠ m.serial),
      meter := { x.meter with
        reserved := x.meter.reserved - m.reserved
        current := x.meter.current + m.charge (s.tariffOf r).fee o } }) (fun _ => rfl) found
  have empty : r.queue.filter (· ≠ m.serial) = [] := by simp [alone]
  rw [empty] at changed
  exact changed

theorem Stn.finalOutcome_of_endsPlainly {s : Stn} {m : Message} {r : Record} {o : Outcome}
    (ends : EndsPlainly s m r o) : s.finalOutcome m.serial o = s.ended m r o := by
  obtain ⟨alone, none⟩ := ends
  have found := Stn.rec?_ended alone
  rw [Stn.finalOutcome_of_endsAlone alone,
    Stn.noticeTest_of_not_called found (Record.callsNotice_of_no_threshold none), Stn.promoteHead_of_empty found rfl]

end Sys2Proof.Machine
end


section
/-!
SUPPORT and RESULT. A request that a peer's FORWARD brings (R28, R93): what its command is in terms of the execution,
the results that leave the station, and a cancel or query (R95, R117).
-/

namespace Sys2Proof.Machine

/-! ### The command of a request -/

/-- The command of a request brings it to its requester's part. -/
theorem exec_of_request {i : Instr} {q : Request} {who : Requester} (brings : i.request? = some q)
    (by_ : i.requester? = some who) (s : State) : exec i s = .next { s with stn := s.stn.bring who q } := by
  cases i <;> cases brings <;> cases by_ <;> rfl

/-- A request that is local to a station is not forwarded (R87). -/
def isLocalRequest : Request → Bool
  | .periodClose | .status _ => true
  | _ => false

theorem isLocalRequest_of_sub {q : Request} {sub : Nat} (h : requestSub q = some sub) : isLocalRequest q = false := by
  cases q with
  | periodClose | status => cases h
  | _ => rfl

theorem admitted_operator {q : Request} (passes : fieldRefusal q = none) : admitted .operator q = .ok q := by
  have permitted : (requestKind q).permitted .operator = true := rfl
  simp only [admitted, permitted, if_true, passes]

theorem Stn.answerFor_ok (s : Stn) (k : Station) (tag : Tag) {q : Request} (forwarded : isLocalRequest q = false) :
    s.answerFor k tag (.ok q) = ((s.handAnswer k tag (s.execute q).2).execute q).1 := by
  cases q with
  | periodClose | status => cases forwarded
  | _ => rfl

theorem Stn.handAnswer_of_up {s : Stn} {k : Station} (up : (s.view k).down = false) (tag : Tag) (res : Result) :
    s.handAnswer k tag res = s.pushNote (answerNote k tag res) := by
  rw [Stn.handAnswer, up]
  rfl

section
variable {i : Instr} {q : Request} {s : State} {k : Station} {tag : Tag}

/-- A FORWARD that can be taken and answered is executed behind its ANSWER. -/
theorem exec_of_peer (brings : i.request? = some q) (by_ : i.requester? = some (.peer k tag))
    (may : MayAnswer s.stn k) (passes : fieldRefusal q = none) (forwarded : isLocalRequest q = false) :
    exec i s = .next { s with stn :=
      ((s.stn.pushNote (answerNote k tag (s.stn.execute q).2)).execute q).1.givePlaces s.stn } := by
  obtain ⟨closed, other, inside, free, up⟩ := may
  have taken : s.stn.bring (.peer k tag) q = (s.stn.answerFor k tag (.ok q)).givePlaces s.stn := by
    have may : s.stn.ctl.phase = .closed ∧ k ≠ s.stn.self ∧ inSet s.stn.img.roster k = true ∧
        s.stn.outboxFree = true := ⟨closed, other, inside, decide_eq_true free⟩
    rw [Stn.bring, if_pos may, admitted_operator passes]
  rw [exec_of_request brings by_, taken, Stn.answerFor_ok _ _ _ forwarded, Stn.handAnswer_of_up up]

/-- An execution that gives up no place of the outbox. -/
theorem exec_of_peer_executed (brings : i.request? = some q) (by_ : i.requester? = some (.peer k tag))
    (may : MayAnswer s.stn k) (passes : fieldRefusal q = none) (forwarded : isLocalRequest q = false) {res : Result} {t : Stn}
    (result : (s.stn.execute q).2 = res) (left : ((s.answered k tag res).stn.execute q).1 = t)
    (keeps : s.stn.bus.outbox.length ≤ t.bus.outbox.length) : exec i s = .next { s with stn := t } := by
  have pushed : (s.stn.pushNote (answerNote k tag res)).execute q = (s.answered k tag res).stn.execute q := rfl
  rw [exec_of_peer brings by_ may passes forwarded, result, pushed, left, Stn.givePlaces_of_le keeps]

/-- The station with another outbox. -/
def Stn.withOutbox (s : Stn) (outbox : List Note) : Stn := { s with bus.outbox := outbox }

/-- The request gives this result and leaves the station, whatever its outbox holds. -/
def Stn.Gives (s : Stn) (q : Request) (res : Result) : Prop :=
  ∀ outbox, (s.withOutbox outbox).execute q = (s.withOutbox outbox, res)

/-- A request with such a result changes nothing but the outbox, which its ANSWER enters. -/
theorem exec_of_gives (brings : i.request? = some q) (by_ : i.requester? = some (.peer k tag))
    (may : MayAnswer s.stn k) (passes : fieldRefusal q = none) (forwarded : isLocalRequest q = false) {res : Result}
    (gives : s.stn.Gives q res) : exec i s = .next (s.answered k tag res) := by
  have result : (s.stn.execute q).2 = res := congrArg Prod.snd (gives s.stn.bus.outbox)
  have left : ((s.answered k tag res).stn.execute q).1 = (s.answered k tag res).stn :=
    congrArg Prod.fst (gives (s.stn.bus.outbox ++ [answerNote k tag res]))
  refine (exec_of_peer_executed brings by_ may passes forwarded result left ?_).trans rfl
  simp [State.answered]

end

/-! ### A request by subscriber number (R93) -/

section
variable {s : Stn} {sub : Nat} {onFound : Record → Stn × Result} {onAbsent : Station → Stn × Result}

theorem Stn.serve_of_joining (joining : s.cust.state = .joining) : s.serve sub onFound onAbsent = (s, .notYet) := by
  simp only [Stn.serve, joining]

theorem Stn.serve_of_no_home (served : s.cust.state ≠ .joining) (none : s.homeOf sub = none) :
    s.serve sub onFound onAbsent = (s, refused .unknownSubscriber) := by
  unfold Stn.serve
  split
  next joining => exact absurd joining served
  next => simp only [none]

/-- What a lookup that does not find a record gives (R93). -/
def Lookup.result : Lookup → Result
  | .found | .notYet | .absent => .notYet
  | .moved m => .moved m
  | .noService => refused .noService

theorem Stn.serve_of_lookup (served : s.cust.state ≠ .joining) {h : Station} (home : s.homeOf sub = some h)
    (notFound : s.lookup sub h ≠ .found) (notAbsent : s.lookup sub h ≠ .absent) :
    s.serve sub onFound onAbsent = (s, (s.lookup sub h).result) := by
  unfold Stn.serve
  split
  next joining => exact absurd joining served
  next =>
    simp only [home]
    cases row : s.lookup sub h with
    | found => exact absurd row notFound
    | absent => exact absurd row notAbsent
    | notYet | moved m | noService => rfl

theorem Stn.serve_of_absent (served : s.cust.state ≠ .joining) {h : Station} (home : s.homeOf sub = some h)
    (absent : s.lookup sub h = .absent) :
    s.serve sub onFound onAbsent =
      if s.cust.state = .reclaiming ∧ h = s.self then (s, .notYet) else onAbsent h := by
  unfold Stn.serve
  split
  next joining => exact absurd joining served
  next => simp only [home, absent]

theorem Stn.serve_of_found {r : Record} (found : FoundHere s sub r) : s.serve sub onFound onAbsent = onFound r := by
  obtain ⟨served, ranged, present, notReturning⟩ := found
  obtain ⟨h, home⟩ := Option.isSome_iff_exists.1 ranged
  have row : s.lookup sub h = .found := by rw [Stn.lookup_of_rec present, notReturning]; rfl
  unfold Stn.serve
  split
  next joining => exact absurd joining served
  next => simp only [home, row, present]

end

/-- A request by subscriber number is served by it, and but for an enrol it is refused where no record is. -/
theorem Stn.execute_of_sub {q : Request} {sub : Nat} (bySub : requestSub q = some sub) (s : Stn) :
    ∃ onFound onAbsent, s.execute q = s.serve sub onFound onAbsent ∧
      ((∀ a b c d e f g n, q ≠ .enrol a b c d e f g n) → onAbsent = s.unknownSub) := by
  cases q with
  | enrol sub addr cls t p z quota threshold =>
    cases bySub
    exact ⟨_, _, rfl, fun other => (other _ addr cls t p z quota threshold rfl).elim⟩
  | submit | amend | suspend | resume | withdraw | meterRead =>
    cases bySub
    exact ⟨_, _, rfl, fun _ => rfl⟩
  | cancel | query | periodClose | status => cases bySub

section
variable {s : Stn} {q : Request} {sub : Nat}

theorem Stn.gives_of_joining (bySub : requestSub q = some sub) (joining : s.cust.state = .joining) :
    s.Gives q .notYet := by
  intro outbox
  obtain ⟨_, _, executed, -⟩ := Stn.execute_of_sub bySub (s.withOutbox outbox)
  exact executed.trans (Stn.serve_of_joining joining)

theorem Stn.gives_of_no_home (bySub : requestSub q = some sub) (served : s.cust.state ≠ .joining)
    (none : s.homeOf sub = none) : s.Gives q (refused .unknownSubscriber) := by
  intro outbox
  obtain ⟨_, _, executed, -⟩ := Stn.execute_of_sub bySub (s.withOutbox outbox)
  exact executed.trans (Stn.serve_of_no_home served none)

theorem Stn.gives_of_lookup (bySub : requestSub q = some sub) (served : s.cust.state ≠ .joining) {h : Station}
    (home : s.homeOf sub = some h) (notFound : s.lookup sub h ≠ .found) (notAbsent : s.lookup sub h ≠ .absent) :
    s.Gives q (s.lookup sub h).result := by
  intro outbox
  obtain ⟨_, _, executed, -⟩ := Stn.execute_of_sub bySub (s.withOutbox outbox)
  exact executed.trans (Stn.serve_of_lookup (s := s.withOutbox outbox) served home notFound notAbsent)

theorem Stn.gives_of_absent_reclaiming (bySub : requestSub q = some sub) (reclaiming : s.cust.state = .reclaiming)
    {h : Station} (home : s.homeOf sub = some h) (absent : s.lookup sub h = .absent) (own : h = s.self) :
    s.Gives q .notYet := by
  intro outbox
  obtain ⟨_, _, executed, -⟩ := Stn.execute_of_sub bySub (s.withOutbox outbox)
  have served : s.cust.state ≠ .joining := by rw [reclaiming]; nofun
  exact executed.trans ((Stn.serve_of_absent (s := s.withOutbox outbox) served home absent).trans (if_pos ⟨reclaiming, own⟩))

theorem Stn.gives_of_absent (bySub : requestSub q = some sub) (served : s.cust.state ≠ .joining) {h : Station}
    (home : s.homeOf sub = some h) (absent : s.lookup sub h = .absent)
    (complete : ¬(s.cust.state = .reclaiming ∧ h = s.self))
    (notEnrol : ∀ a b c d e f g n, q ≠ .enrol a b c d e f g n) : s.Gives q (refused .unknownSubscriber) := by
  intro outbox
  obtain ⟨_, _, executed, unknown⟩ := Stn.execute_of_sub bySub (s.withOutbox outbox)
  rw [unknown notEnrol] at executed
  exact executed.trans ((Stn.serve_of_absent (s := s.withOutbox outbox) served home absent).trans (if_neg complete))

end

theorem refused_unknownSubscriber : refused .unknownSubscriber = .reply (str "X/UNKNOWN SUBSCRIBER") := by decide

theorem refused_noService : refused .noService = .reply (str "X/NO SERVICE") := by decide

theorem refused_unknownReceipt : refused .unknownReceipt = .reply (str "X/UNKNOWN RECEIPT") := by decide

/-- Settles O19: each row of R93 gives its result and leaves the station, so that the ANSWER alone is handed. -/
theorem peerRequestsWithoutARecordAreAnswered : Obligations.PeerRequestsWithoutARecordAreAnswered := by
  intro i q s k tag sub brings by_ bySub wf may gives served
  have answers {res : Result} (h : s.stn.Gives q res) : gives res :=
    exec_of_gives brings by_ may (fieldRefusal_of_wf wf) (isLocalRequest_of_sub bySub) h
  refine ⟨fun joining => ?_, fun serves none => ?_, fun h serves home => ⟨fun row => ?_, fun m row => ?_, fun row => ?_,
    fun row reclaiming own => ?_, fun row complete notEnrol => ?_⟩⟩
  · exact answers (Stn.gives_of_joining bySub joining)
  · exact refused_unknownSubscriber ▸ answers (Stn.gives_of_no_home bySub serves none)
  · have looked := Stn.gives_of_lookup bySub serves home (by rw [row]; nofun) (by rw [row]; nofun)
    rw [row] at looked
    exact answers looked
  · have looked := Stn.gives_of_lookup bySub serves home (by rw [row]; nofun) (by rw [row]; nofun)
    rw [row] at looked
    exact answers looked
  · have looked := Stn.gives_of_lookup bySub serves home (by rw [row]; nofun) (by rw [row]; nofun)
    rw [row] at looked
    exact refused_noService ▸ answers looked
  · exact answers (Stn.gives_of_absent_reclaiming bySub reclaiming home row own)
  · exact refused_unknownSubscriber ▸ answers (Stn.gives_of_absent bySub serves home row complete notEnrol)

end Sys2Proof.Machine
end


section
/-!
RESULT. A cancel or query that a peer's FORWARD brings (R95, R117).
-/

namespace Sys2Proof.Machine

theorem str_slash : str "/" = [slash] := by decide

theorem replyD_eq (k : Station) (serial : Serial) (word : List Byte) :
    replyD k serial word = str "D/" ++ receiptText k serial ++ str "/" ++ word := by
  simp [replyD, str_slash]

theorem replyD_cancelled (k : Station) (serial : Serial) :
    replyD k serial Outcome.cancelled.text = str "D/" ++ receiptText k serial ++ str "/CANCELLED" := by
  have word : slash :: Outcome.cancelled.text = str "/CANCELLED" := by decide
  rw [replyD, word]

section
variable {s : Stn} {serial : Serial}

theorem Stn.serveReceipt_of_served (served : s.cust.state ≠ .joining) (f : Stn × Result) : s.serveReceipt f = f := by
  unfold Stn.serveReceipt
  split
  next joining => exact absurd joining served
  next => rfl

theorem Stn.serveReceipt_of_joining (joining : s.cust.state = .joining) (f : Stn × Result) :
    s.serveReceipt f = (s, .notYet) := by
  simp only [Stn.serveReceipt, joining]

/-! ### Cancel (R117) -/

theorem Stn.cancel_of_committed {m : Message} (found : s.msg? serial = some m) (committed : s.committed m = true)
    (free : m.pending = none) : s.cancel serial =
      ({ s with store := s.store.withMsg serial fun m => { m with pending := some .cancel } }, .cancelled) := by
  simp only [Stn.cancel, found, committed, if_true, free, Stn.updMsg_eq_withMsg]

theorem Stn.cancel_of_cancelled {m : Message} (found : s.msg? serial = some m) (committed : s.committed m = true)
    (pending : m.pending = some .cancel) : s.cancel serial = (s, .cancelled) := by
  simp only [Stn.cancel, found, committed, if_true, pending]

theorem Stn.cancel_of_delivered {m : Message} (found : s.msg? serial = some m) (committed : s.committed m = true)
    (pending : m.pending = some .delivered) : s.cancel serial = (s, .tooLate .delivered) := by
  simp only [Stn.cancel, found, committed, if_true, pending]

theorem Stn.cancel_of_ends {m : Message} {r : Record} (ends : EndsPlainly s m r .cancelled)
    (free : s.committed m = false) : s.cancel m.serial = (s.ended m r .cancelled, .cancelled) := by
  have found : s.msg? m.serial = some m := ends.1.2.1
  simp only [Stn.cancel, found, free, Bool.false_eq_true, if_false, Stn.finalOutcome_of_endsPlainly ends]

theorem Stn.cancel_of_outcome {o : Outcome} (gone : s.msg? serial = none) (held : s.outcome? serial = some o) :
    s.cancel serial = (s, .tooLate o) := by
  simp only [Stn.cancel, gone, held]

theorem Stn.cancel_of_absent (gone : s.msg? serial = none) (none : s.outcome? serial = none) :
    s.cancel serial = (s, .absent) := by
  simp only [Stn.cancel, gone, none]

end

/-- The reply of a decision on a cancel (R95). -/
def CancelResult.result (h : Station) (serial : Serial) : CancelResult → Result
  | .cancelled => .reply (str "D/" ++ receiptText h serial ++ str "/CANCELLED")
  | .tooLate o => .reply (str "X/TOO LATE/" ++ o.text)
  | .absent => .reply (str "X/UNKNOWN RECEIPT")

theorem Stn.execute_cancel {s : Stn} (served : s.cust.state ≠ .joining) (h : Station) {serial : Serial} {t : Stn}
    {d : CancelResult} (decided : s.cancel serial = (t, d)) :
    s.execute (.cancel h serial) = (t, d.result h serial) := by
  have executed : s.execute (.cancel h serial) = s.cancelHere h serial := Stn.serveReceipt_of_served served _
  rw [executed, Stn.cancelHere, decided]
  cases d with
  | cancelled => exact congrArg (fun text => (t, Result.reply text)) (replyD_cancelled h serial)
  | tooLate o => rfl
  | absent => exact congrArg (t, ·) refused_unknownReceipt

/-- An end does not read the outbox. -/
theorem Stn.ended_withOutbox (s : Stn) (m : Message) (r : Record) (o : Outcome) (outbox : List Note) :
    (s.withOutbox outbox).ended m r o = (s.ended m r o).withOutbox outbox := by
  unfold Stn.ended Stn.landed Stn.withOutbox
  cases m.state <;> rfl

/-! ### Query (R95) -/

theorem Stn.execute_query {s : Stn} (served : s.cust.state ≠ .joining) (h : Station) (serial : Serial) :
    s.execute (.query h serial) = (s, s.queryResult h serial) := Stn.serveReceipt_of_served served _

theorem Stn.queryResult_of_message {s : Stn} {serial : Serial} {m : Message} (found : s.msg? serial = some m)
    (h : Station) :
    s.queryResult h serial = .reply (str "D/" ++ receiptText h serial ++ str "/" ++ m.state.text) := by
  simp only [Stn.queryResult, found, replyD_eq]

theorem Stn.queryResult_of_outcome {s : Stn} {serial : Serial} {o : Outcome} (gone : s.msg? serial = none)
    (held : s.outcome? serial = some o) (h : Station) :
    s.queryResult h serial = .reply (str "D/" ++ receiptText h serial ++ str "/" ++ o.text) := by
  simp only [Stn.queryResult, gone, held, replyD_eq]

theorem Stn.queryResult_of_absent {s : Stn} {serial : Serial} (gone : s.msg? serial = none)
    (none : s.outcome? serial = none) (h : Station) :
    s.queryResult h serial = .reply (str "X/UNKNOWN RECEIPT") := by
  simp only [Stn.queryResult, gone, none, refused_unknownReceipt]

/-! ### The commands -/

section
variable {s : State} {k : Station} {tag : Tag} {h : Station} {serial : Serial}

/-- A cancel that finds its message, with the station it leaves. -/
theorem exec_cancel_of_peer (may : MayAnswer s.stn k) (served : s.stn.cust.state ≠ .joining) {t : Stn}
    {d : CancelResult} (decided : ∀ outbox, (s.stn.withOutbox outbox).cancel serial = (t.withOutbox outbox, d))
    (outbox : t.bus.outbox = s.stn.bus.outbox) :
    exec (.cancel (.peer k tag) h serial) s =
      .next (({ s with stn := t } : State).answered k tag (d.result h serial)) := by
  have executed (outbox : List Note) := Stn.execute_cancel (s := s.stn.withOutbox outbox) served h (decided outbox)
  have result : (s.stn.execute (.cancel h serial)).2 = d.result h serial :=
    congrArg Prod.snd (executed s.stn.bus.outbox)
  have left := congrArg Prod.fst (executed (s.stn.bus.outbox ++ [answerNote k tag (d.result h serial)]))
  refine (exec_of_peer_executed rfl rfl may rfl rfl result left ?_).trans ?_
  · simp [Stn.withOutbox]
  · simp only [State.answered, Stn.withOutbox, outbox]

theorem exec_query_of_peer (may : MayAnswer s.stn k) (served : s.stn.cust.state ≠ .joining) {res : Result}
    (result : s.stn.queryResult h serial = res) :
    exec (.query (.peer k tag) h serial) s = .next (s.answered k tag res) :=
  exec_of_gives rfl rfl may rfl rfl fun outbox => by
    rw [← result]
    exact Stn.execute_query (s := s.stn.withOutbox outbox) served h serial

/-- No ANSWER enters the outbox for a peer viewed SILENT or FAILED. -/
theorem exec_query_of_down (down : (s.stn.view k).down = true) :
    exec (.query (.peer k tag) h serial) s = .next s := by
  have handed (res : Result) : s.stn.handAnswer k tag res = s.stn := if_pos down
  have executed : (s.stn.execute (.query h serial)).1 = s.stn := by
    cases joining : s.stn.cust.state with
    | joining => exact congrArg Prod.fst (Stn.serveReceipt_of_joining joining _)
    | reclaiming => exact congrArg Prod.fst (Stn.execute_query (by rw [joining]; nofun) h serial)
    | live => exact congrArg Prod.fst (Stn.execute_query (by rw [joining]; nofun) h serial)
  have taken : s.stn.answerFor k tag (.ok (.query h serial)) = s.stn := by
    rw [Stn.answerFor_ok _ _ _ rfl, handed, executed]
  have brought : s.stn.bring (.peer k tag) (.query h serial) = s.stn := by
    rw [Stn.bring]
    split
    · rw [admitted_operator rfl, taken]
      exact Stn.givePlaces_of_outbox_eq rfl
    · rfl
  rw [exec_of_request rfl rfl, brought]

end

/-- Settles O20: a cancel by the message, its commitment and its outcome; a query by the message's state or its
outcome; JOINING and a peer that is down. -/
theorem cancelAndQueryActByTheMessage : Obligations.CancelAndQueryActByTheMessage := by
  refine ⟨fun s k tag h serial may served => ?_, fun s k tag h serial => ?_⟩
  · intro receipt gives
    refine ⟨fun m found committed => ⟨fun free => ?_, fun cancel => ?_, fun delivered => ?_⟩,
      fun m r same ends free => ?_, fun o gone held => ?_, fun gone none => ?_⟩
    · exact exec_cancel_of_peer (d := .cancelled) may served
        (fun outbox => Stn.cancel_of_committed (s := s.stn.withOutbox outbox) found committed free) rfl
    · exact exec_cancel_of_peer (d := .cancelled) may served
        (fun outbox => Stn.cancel_of_cancelled (s := s.stn.withOutbox outbox) found committed cancel) rfl
    · have text : CancelResult.result h serial (.tooLate .delivered) = .reply (str "X/TOO LATE/DELIVERED") :=
        congrArg Result.reply (by decide : str "X/TOO LATE/" ++ Outcome.delivered.text = str "X/TOO LATE/DELIVERED")
      have answered := exec_cancel_of_peer (h := h) (tag := tag) (d := .tooLate .delivered) may served
        (fun outbox => Stn.cancel_of_delivered (s := s.stn.withOutbox outbox) found committed delivered) rfl
      rw [text] at answered
      exact answered
    · subst same
      refine exec_cancel_of_peer (d := .cancelled) may served (fun outbox => ?_) ?_
      · rw [← Stn.ended_withOutbox]
        exact Stn.cancel_of_ends (s := s.stn.withOutbox outbox) ends free
      · simp [Stn.ended]
    · exact exec_cancel_of_peer (d := .tooLate o) may served
        (fun outbox => Stn.cancel_of_outcome (s := s.stn.withOutbox outbox) gone held) rfl
    · exact exec_cancel_of_peer (d := .absent) may served
        (fun outbox => Stn.cancel_of_absent (s := s.stn.withOutbox outbox) gone none) rfl
  · intro gives word
    refine ⟨fun may served => ⟨fun m found => ?_, fun o gone held => ?_, fun gone none => ?_⟩,
      fun may joining => ⟨?_, ?_⟩, exec_query_of_down⟩
    · have answers {text : List Byte} (state : m.state.text = text) : gives (word text) :=
        exec_query_of_peer may served (state ▸ Stn.queryResult_of_message found h)
      refine ⟨fun state => ?_, fun state => ?_, fun state => ?_, fun state => ?_⟩
      · obtain state | state := state <;> exact answers (by rw [state]; rfl)
      · obtain state | state := state <;> exact answers (by rw [state]; rfl)
      · obtain state | state := state <;> exact answers (by rw [state]; rfl)
      · exact answers (by rw [state]; rfl)
    · exact exec_query_of_peer may served (Stn.queryResult_of_outcome gone held h)
    · exact exec_query_of_peer may served (Stn.queryResult_of_absent gone none h)
    · exact exec_of_gives (q := .query h serial) rfl rfl may rfl rfl fun outbox =>
        Stn.serveReceipt_of_joining (s := s.stn.withOutbox outbox) joining _
    · exact exec_of_gives (q := .cancel h serial) rfl rfl may rfl rfl fun outbox =>
        Stn.serveReceipt_of_joining (s := s.stn.withOutbox outbox) joining _

end Sys2Proof.Machine
end


section
/-!
SUPPORT and RESULT. The MIRROR note of an administrative change (R12, R24, R60), and an enrol that a peer's FORWARD
brings (R3, R7, R96).
-/

namespace Sys2Proof.Machine

/-! ### Entries that wait for an outbox place (R24, R90) -/

theorem isForwardOf_iff (tag : Tag) (n : Note) : isForwardOf tag n = true ↔ n.forwardTag? = some tag := by
  unfold isForwardOf Note.forwardTag?
  cases n.body <;> simp

theorem Stn.hasForward_iff {s : Stn} {tag : Tag} :
    s.hasForward tag = true ↔ ∃ n ∈ s.bus.outbox, n.forwardTag? = some tag := by
  simp [Stn.hasForward, isForwardOf_iff]

theorem Stn.waitsForPlace_iff {s : Stn} {e : PendEntry} :
    s.waitsForPlace e = true ↔ e.state = .sending ∧ ∀ n ∈ s.bus.outbox, n.forwardTag? ≠ some e.tag := by
  rw [Stn.waitsForPlace, Bool.and_eq_true, decide_eq_true_eq, Bool.not_eq_true', ← Bool.not_eq_true,
    Stn.hasForward_iff]
  simp

theorem Stn.offerOne_of_not_waiting {s : Stn} {e : PendEntry} (waits : s.waitsForPlace e = false) :
    s.offerOne e = s := by
  unfold Stn.offerOne
  cases e.target <;> simp [waits]

theorem foldl_offerOne_of_not_waiting {s : Stn} {l : List PendEntry} (waits : ∀ e ∈ l, s.waitsForPlace e = false) :
    l.foldl Stn.offerOne s = s := by
  induction l with
  | nil => rfl
  | cons e rest ih =>
    rw [List.foldl_cons, Stn.offerOne_of_not_waiting (waits e List.mem_cons_self)]
    exact ih fun x mem => waits x (List.mem_cons_of_mem _ mem)

theorem Stn.waitsForPlace_eq_false {s : Stn} {e : PendEntry}
    (noted : e.state = .sending → ∃ n ∈ s.bus.outbox, n.forwardTag? = some e.tag) : s.waitsForPlace e = false :=
  Bool.eq_false_iff.2 fun waits => by
    obtain ⟨sending, without⟩ := Stn.waitsForPlace_iff.1 waits
    obtain ⟨n, inside, held⟩ := noted sending
    exact without n inside held

/-- Where no entry waits, the offers leave the station. -/
theorem Stn.offerWaiting_of_none {s : Stn} (none : NoEntryWaits s) : s.offerWaiting = s :=
  foldl_offerOne_of_not_waiting fun e mem => Stn.waitsForPlace_eq_false (none e mem)

theorem Stn.givePlaces_of_none {s : Stn} (none : NoEntryWaits s) (before : Stn) : s.givePlaces before = s := by
  unfold Stn.givePlaces
  rw [Stn.offerWaiting_of_none none, ite_self]

/-- A MIRROR note is no FORWARD. -/
theorem Note.forwardTag?_of_isMirror {n : Note} (mirror : n.body.isMirror = true) : n.forwardTag? = none := by
  unfold NoteBody.isMirror at mirror
  unfold Note.forwardTag?
  split at mirror
  next h => rw [h]
  next h => rw [h]
  next h => rw [h]
  next => cases mirror

/-! ### The note of a change (R12) -/

section
variable {s : Stn} {body : NoteBody}

theorem Stn.handChange_of_down (down : (s.view s.buddy).down = true) : s.handChange body = s := if_pos down

theorem Stn.handChange_of_room (up : (s.view s.buddy).down = false) (room : s.bus.outbox.length < Config.outboxCap) :
    s.handChange body = s.pushNote (Note.fresh s.buddy body .here .none) := by
  have free : s.outboxFree = true := decide_eq_true room
  rw [Stn.handChange, up, if_neg nofun, if_pos free]

theorem Stn.handChange_of_full (up : (s.view s.buddy).down = false) (full : Config.outboxCap ≤ s.bus.outbox.length) :
    s.handChange body = s.mirrorToRestart := by
  have none : ¬s.outboxFree = true := by simpa [Stn.outboxFree] using full
  rw [Stn.handChange, up, if_neg nofun, if_neg none]

theorem Stn.mirrorToRestart_of_running {pos : Option Nat} {first ended : Bool}
    (running : s.subs.mirror = .running pos first ended) : s.mirrorToRestart =
      { s with bus.outbox := s.bus.outbox.filter (fun n => !n.body.isMirror), subs.mirror := .restartWait 16 } := by
  simp only [Stn.mirrorToRestart, running]
  rfl

theorem Stn.mirrorToRestart_of_not_running (quiet : ∀ pos first ended, s.subs.mirror ≠ .running pos first ended) :
    s.mirrorToRestart = { s with subs.mirror := .restartWait 16 } := by
  unfold Stn.mirrorToRestart
  split
  next pos first ended running => exact absurd running (quiet pos first ended)
  next => rfl

theorem Stn.handMirror_of_home {sub : Nat} {r : Record} (found : s.rec? sub = some r) (home : r.origin = .home) :
    s.handMirror sub = s.handChange (.mirror false r.admin r.nextTag) := by
  simp only [Stn.handMirror, found, home]

theorem Stn.handMirror_of_adopted {sub : Nat} {r : Record} (found : s.rec? sub = some r)
    (adopted : r.origin = .adopted) : s.handMirror sub = s := by
  simp only [Stn.handMirror, found, adopted]

end

theorem Stn.view_congr {s t : Stn} (ctl : t.ctl = s.ctl) (cust : t.cust = s.cust) (k : Station) :
    t.view k = s.view k := by
  have same : ({ s with ctl := t.ctl, cust := t.cust } : Stn).view k = s.view k := by rw [ctl, cust]
  exact same

/-- The request is answered with O/, and the note of its change is handed as R12 and R24 say: to a buddy that is
heard, where the outbox has a place; where it has none the mirror walk waits to restart. -/
def HandsChange (i : Instr) (s : State) (body : NoteBody) (t : Stn) : Prop :=
  ((s.stn.view s.stn.buddy).down = true → exec i s = .next { s with stn := t }) ∧
  ((s.stn.view s.stn.buddy).down = false →
    (s.stn.bus.outbox.length < 31 →
      exec i s = .next { s with stn := t.pushNote (Note.fresh s.stn.buddy body .here .none) }) ∧
    (s.stn.bus.outbox.length = 31 → (∀ pos first ended, s.stn.subs.mirror ≠ .running pos first ended) →
      exec i s = .next { s with stn := { t with subs.mirror := .restartWait 16 } }) ∧
    ∀ pos first ended, s.stn.bus.outbox.length = 31 → s.stn.subs.mirror = .running pos first ended →
      NoEntryWaits s.stn → exec i s = .next { s with stn := { t with
        subs.mirror := .restartWait 16, bus.outbox := t.bus.outbox.filter fun n => !n.body.isMirror } })


section
variable {i : Instr} {q : Request} {s : State} {k : Station} {tag : Tag} {body : NoteBody} {t : Stn}

/-- A request whose execution ends in the note of a change. -/
theorem handsChange_of_executed (brings : i.request? = some q) (by_ : i.requester? = some (.peer k tag))
    (may : MayAnswer s.stn k) (passes : fieldRefusal q = none) (forwarded : isLocalRequest q = false)
    (result : (s.stn.execute q).2 = .reply (str "O"))
    (left : ((s.answered k tag (.reply (str "O"))).stn.execute q).1 = t.handChange body)
    (bus : t.bus = (s.answered k tag (.reply (str "O"))).stn.bus) (cust : t.cust = s.stn.cust)
    (ctl : t.ctl = s.stn.ctl) (req : t.req = s.stn.req) (mirror : t.subs.mirror = s.stn.subs.mirror) :
    HandsChange i s body t := by
  have buddy : t.buddy = s.stn.buddy := by simp only [Stn.buddy, Stn.img, Stn.self, ctl]
  have view : t.view t.buddy = s.stn.view s.stn.buddy := by rw [buddy]; exact Stn.view_congr ctl cust _
  have upHere (up : (s.stn.view s.stn.buddy).down = false) : (t.view t.buddy).down = false := view ▸ up
  have outbox : t.bus.outbox = s.stn.bus.outbox ++ [answerNote k tag (.reply (str "O"))] := by rw [bus]; rfl
  have length : t.bus.outbox.length = s.stn.bus.outbox.length + 1 := by rw [outbox, List.length_append]; rfl
  have ran {u : Stn} (left' : t.handChange body = u) (keeps : s.stn.bus.outbox.length ≤ u.bus.outbox.length) :
      exec i s = .next { s with stn := u } :=
    exec_of_peer_executed brings by_ may passes forwarded result (left.trans left') keeps
  refine ⟨fun down => ?_, fun up => ⟨fun room => ?_, fun full quiet => ?_, fun pos first ended full running none => ?_⟩⟩
  · exact ran (Stn.handChange_of_down (view ▸ down)) (by omega)
  · have pushed := Stn.handChange_of_room (body := body) (upHere up) (by rw [length]; exact Nat.succ_lt_succ room)
    rw [buddy] at pushed
    exact ran pushed (by rw [Stn.pushNote_outbox, List.length_append, length]; omega)
  · refine ran ?_ (by simp [length])
    rw [Stn.handChange_of_full (upHere up) (by rw [length, full]; decide),
      Stn.mirrorToRestart_of_not_running fun pos first ended running => quiet pos first ended (mirror ▸ running)]
  · have aborted : t.handChange body =
        { t with subs.mirror := .restartWait 16, bus.outbox := t.bus.outbox.filter fun n => !n.body.isMirror } := by
      rw [Stn.handChange_of_full (upHere up) (by rw [length, full]; decide),
        Stn.mirrorToRestart_of_running (mirror.trans running)]
    have noneWaits : NoEntryWaits { t with
        subs.mirror := .restartWait 16, bus.outbox := t.bus.outbox.filter fun n => !n.body.isMirror } := by
      intro e mem sending
      obtain ⟨n, inside, held⟩ := none e (req ▸ mem) sending
      refine ⟨n, List.mem_filter.2 ⟨?_, ?_⟩, held⟩
      · rw [outbox]
        exact List.mem_append_left _ inside
      · rw [Bool.not_eq_true', ← Bool.not_eq_true]
        intro mirrors
        rw [Note.forwardTag?_of_isMirror mirrors] at held
        cases held
    have pushed : (s.stn.pushNote (answerNote k tag (.reply (str "O")))).execute q =
        (s.answered k tag (.reply (str "O"))).stn.execute q := rfl
    rw [exec_of_peer brings by_ may passes forwarded, result, pushed, left, aborted, Stn.givePlaces_of_none noneWaits]

end

/-! ### Enrol (R3, R7, R96) -/

theorem refused_existing : refused .existing = .reply (str "X/EXISTS") := by decide

theorem refused_tableFull : refused .tableFull = .reply (str "X/TABLE FULL") := by decide

theorem Stn.serve_enrol_of_absent {s : Stn} (served : s.cust.state ≠ .joining) {sub : Nat} {h : Station}
    (home : s.homeOf sub = some h) (absent : s.lookup sub h = .absent)
    (complete : ¬(s.cust.state = .reclaiming ∧ h = s.self)) {onFound : Record → Stn × Result}
    {onAbsent : Station → Stn × Result} : s.serve sub onFound onAbsent = onAbsent h :=
  (Stn.serve_of_absent served home absent).trans (if_neg complete)

theorem Stn.enrolAbsent_of_existing {s : Stn} {h : Station} {a : Admin}
    (taken : ∃ r ∈ s.subs.active, r.admin.addr = a.addr) : s.enrolAbsent h a = (s, refused .existing) := by
  refine if_pos ?_
  simpa [Stn.recAt?] using taken

theorem Stn.enrolAbsent_of_full {s : Stn} {h : Station} {a : Admin}
    (fresh : ∀ r ∈ s.subs.active, r.admin.addr ≠ a.addr) (full : Config.tableCap ≤ s.subs.active.length) :
    s.enrolAbsent h a = (s, refused .tableFull) := by
  have none : ¬(s.recAt? a.addr).isSome = true := by simpa [Stn.recAt?] using fresh
  rw [Stn.enrolAbsent, if_neg none, if_pos full]

/-- The record of an enrol (R3). -/
def Stn.enrolled (s : Stn) (h : Station) (a : Admin) : Record :=
  { admin := a, origin := if h = s.self then .home else .adopted, home := h, returning := false, nextTag := 0,
    queue := [], lastZone := none, meter := ⟨0, 0, 0, 0, s.bill.period, false, false, false⟩ }

theorem Stn.enrolAbsent_of_room {s : Stn} {h : Station} {a : Admin}
    (fresh : ∀ r ∈ s.subs.active, r.admin.addr ≠ a.addr) (room : s.subs.active.length < Config.tableCap) :
    s.enrolAbsent h a = ((s.insertRec (s.enrolled h a)).handMirror a.sub, .reply replyO) := by
  have none : ¬(s.recAt? a.addr).isSome = true := by simpa [Stn.recAt?] using fresh
  rw [Stn.enrolAbsent, if_neg none, if_neg (Nat.not_le.2 room)]
  rfl

/-- A record inserted under a number that none has is the one the number finds. -/
theorem Stn.rec?_insertRec {s : Stn} {r : Record} (absent : s.rec? r.admin.sub = none) :
    (s.insertRec r).rec? r.admin.sub = some r := by
  have others : ∀ x ∈ s.subs.active, x.admin.sub ≠ r.admin.sub := by simpa [Stn.rec?] using absent
  unfold Stn.rec?
  rw [Stn.insertRec_active]
  generalize s.subs.active = active at others
  induction active with
  | nil => simp [insertBy]
  | cons x rest ih =>
    unfold insertBy
    split
    · simp
    · rw [List.find?_cons_of_neg (by simpa using others x List.mem_cons_self)]
      exact ih fun y mem => others y (List.mem_cons_of_mem _ mem)

/-- Settles O21: EXISTS, TABLE FULL, and the new record with its MIRROR note where it is a HOME record. -/
theorem enrolCreatesARecord : Obligations.EnrolCreatesARecord := by
  intro s k tag sub addr cls t p z quota threshold h may served ranged zoned i a created placed
  have passes : fieldRefusal (.enrol sub addr cls t p z quota threshold) = none := by
    have inRange : ¬Config.subscriberLimit ≤ sub := Nat.not_le.2 ranged
    simp only [fieldRefusal, inRange, zoned, false_or, if_false]
  have answers {res : Result} (gives : s.stn.Gives (.enrol sub addr cls t p z quota threshold) res) :
      exec i s = .next (s.answered k tag res) := exec_of_gives rfl rfl may passes rfl gives
  refine ⟨fun r found => ?_, fun home absent complete => ?_⟩
  · rw [← refused_existing]
    exact answers fun outbox => Stn.serve_of_found (s := s.stn.withOutbox outbox) found
  have executed (outbox : List Note) :
      (s.stn.withOutbox outbox).execute (.enrol sub addr cls t p z quota threshold) =
        (s.stn.withOutbox outbox).enrolAbsent h a :=
    Stn.serve_enrol_of_absent (s := s.stn.withOutbox outbox) served home absent complete
  refine ⟨fun taken => ?_, fun fresh full => ?_, fun fresh room => ?_⟩
  · rw [← refused_existing]
    exact answers fun outbox =>
      (executed outbox).trans (Stn.enrolAbsent_of_existing (s := s.stn.withOutbox outbox) taken)
  · rw [← refused_tableFull]
    exact answers fun outbox =>
      (executed outbox).trans (Stn.enrolAbsent_of_full (s := s.stn.withOutbox outbox) fresh full)
  have inserted (outbox : List Note) : (s.stn.withOutbox outbox).execute (.enrol sub addr cls t p z quota threshold) =
      ((((s.stn.withOutbox outbox).insertRec (s.stn.enrolled h a)).handMirror sub), .reply replyO) :=
    (executed outbox).trans (Stn.enrolAbsent_of_room (s := s.stn.withOutbox outbox) fresh room)
  have result : (s.stn.execute (.enrol sub addr cls t p z quota threshold)).2 = .reply (str "O") :=
    congrArg Prod.snd (inserted s.stn.bus.outbox)
  have found (outbox : List Note) :
      ((s.stn.withOutbox outbox).insertRec (s.stn.enrolled h a)).rec? sub = some (s.stn.enrolled h a) :=
    Stn.rec?_insertRec (s := s.stn.withOutbox outbox) (Stn.rec?_of_lookup_absent absent)
  have left : ((s.answered k tag (.reply (str "O"))).stn.execute (.enrol sub addr cls t p z quota threshold)).1 =
      ((s.answered k tag (.reply (str "O"))).stn.insertRec (s.stn.enrolled h a)).handMirror sub :=
    congrArg Prod.fst (inserted (s.stn.bus.outbox ++ [answerNote k tag (.reply (str "O"))]))
  have foundHere := found (s.stn.bus.outbox ++ [answerNote k tag (.reply (str "O"))])
  refine ⟨fun away => ?_, forall_and.1 fun own => ?_⟩
  · have record : s.stn.enrolled h a = created .adopted := by rw [Stn.enrolled, if_neg away]
    rw [record] at foundHere left
    refine exec_of_peer_executed rfl rfl may passes rfl result (left.trans (Stn.handMirror_of_adopted foundHere rfl)) ?_
    simp [State.answered]
  · have record : s.stn.enrolled h a = created .home := by rw [Stn.enrolled, if_pos own]
    rw [record] at foundHere left
    have hands : HandsChange i s (.mirror false a 0) (placed .home).stn :=
      handsChange_of_executed rfl rfl may passes rfl result (left.trans (Stn.handMirror_of_home foundHere rfl))
        rfl rfl rfl rfl rfl
    obtain ⟨down, up⟩ := hands
    exact ⟨down, fun heard room => (up heard).1 room⟩

end Sys2Proof.Machine
end


section
/-!
RESULT. A suspend, resume or amend that a peer's FORWARD brings (R9 to R12, R96).
-/

namespace Sys2Proof.Machine

/-! ### The service state that a change gives (R9 to R11) -/

theorem Record.quotaMet_iff (r : Record) :
    r.quotaMet = true ↔ ∀ q, r.admin.quota = some q → r.meter.current + r.meter.reserved ≤ q.toNat := by
  unfold Record.quotaMet
  cases r.admin.quota <;> simp

theorem Record.resumed_of_met {r : Record} (met : r.admin.service = .active ∨ r.quotaMet = true) :
    r.resumed = .active := by
  unfold Record.resumed
  obtain active | met := met
  · rw [active]
  · cases r.admin.service <;> simp [met]

theorem Record.resumed_of_not_met {r : Record} (inactive : r.admin.service ≠ .active) (unmet : ¬r.quotaMet = true) :
    r.resumed = .barred := by
  unfold Record.resumed
  cases service : r.admin.service with
  | active => exact absurd service inactive
  | suspended | barred => exact if_neg unmet

/-- What no amend touches: the number, the origin and the mirror tag of a record. -/
def Record.fixed (r : Record) : Nat × Origin × Tag := (r.admin.sub, r.origin, r.nextTag)

theorem applyGroup_fixed (r : Record) (g : Group) : (applyGroup r g).fixed = r.fixed := by cases g <;> rfl

theorem applyGroup_service (r : Record) (g : Group) : (applyGroup r g).admin.service = r.admin.service := by
  cases g <;> rfl

theorem foldl_applyGroup_fixed (groups : List Group) (r : Record) : (groups.foldl applyGroup r).fixed = r.fixed := by
  induction groups generalizing r with
  | nil => rfl
  | cons g rest ih => rw [List.foldl_cons, ih, applyGroup_fixed]

theorem foldl_applyGroup_service (groups : List Group) (r : Record) :
    (groups.foldl applyGroup r).admin.service = r.admin.service := by
  induction groups generalizing r with
  | nil => rfl
  | cons g rest ih => rw [List.foldl_cons, ih, applyGroup_service]

theorem Record.amended_fixed (r : Record) (groups : List Group) : (r.amended groups).fixed = r.fixed := by
  rw [← foldl_applyGroup_fixed groups r, Record.amended, Record.amendTest]
  split <;> rfl

section
variable {r : Record} {groups : List Group}

theorem Record.amended_of_suspended (suspended : r.admin.service = .suspended) :
    r.amended groups = groups.foldl applyGroup r := by
  simp only [Record.amended, Record.amendTest, foldl_applyGroup_service, suspended]

theorem Record.amended_of_not_suspended (running : r.admin.service ≠ .suspended) :
    r.amended groups = { groups.foldl applyGroup r with
      admin.service := if (groups.foldl applyGroup r).quotaMet then .active else .barred } := by
  unfold Record.amended Record.amendTest
  split
  next suspended =>
    rw [foldl_applyGroup_service] at suspended
    exact absurd suspended running
  next => rfl

theorem Record.amendNotes_iff : r.amendNotes groups = true ↔
    (∃ g ∈ groups, g ≠ .clearLimit) ∨ (r.amended groups).admin.service ≠ r.admin.service := by
  simp [Record.amendNotes]

end

theorem fieldRefusal_of_ranged {q : Request} {sub : Nat} (ranged : sub < 10000000)
    (plain : q = .suspend sub ∨ q = .resume sub ∨ q = .withdraw sub ∨ q = .meterRead sub) : fieldRefusal q = none := by
  have inRange : ¬Config.subscriberLimit ≤ sub := Nat.not_le.2 ranged
  obtain rfl | rfl | rfl | rfl := plain <;> exact if_neg inRange

theorem fieldRefusal_amend {sub : Nat} {groups : List Group} (ranged : sub < 10000000) (some : 1 ≤ groups.length)
    (few : groups.length ≤ 8) (zoned : .zones 0 ∉ groups) : fieldRefusal (.amend sub groups) = none := by
  have inRange : ¬Config.subscriberLimit ≤ sub := Nat.not_le.2 ranged
  have nonempty : groups ≠ [] := List.ne_nil_of_length_pos some
  have zoned' : Group.zones 0#8 ∉ groups := zoned
  simp [fieldRefusal, inRange, nonempty, few, zoned']

/-! ### The execution of a change -/

section
variable {i : Instr} {q : Request} {s : State} {k : Station} {tag : Tag} {sub : Nat} {r : Record}

/-- The station with its ANSWER in the outbox and the record changed. -/
def State.changed (s : State) (k : Station) (tag : Tag) (sub : Nat) (f : Record → Record) : State :=
  { s.answered k tag (.reply (str "O")) with stn.subs := s.stn.subs.withRec sub f }

/-- A change of the record that hands no note. -/
theorem exec_of_plain_change (brings : i.request? = some q) (by_ : i.requester? = some (.peer k tag))
    (may : MayAnswer s.stn k) (passes : fieldRefusal q = none) (forwarded : isLocalRequest q = false)
    {f : Record → Record}
    (executed : ∀ outbox, (s.stn.withOutbox outbox).execute q =
      ((s.stn.withOutbox outbox).updRec sub f, .reply replyO)) : exec i s = .next (s.changed k tag sub f) := by
  have result : (s.stn.execute q).2 = .reply (str "O") := congrArg Prod.snd (executed s.stn.bus.outbox)
  have left : ((s.answered k tag (.reply (str "O"))).stn.execute q).1 = (s.changed k tag sub f).stn :=
    (congrArg Prod.fst (executed (s.stn.bus.outbox ++ [answerNote k tag (.reply (str "O"))]))).trans
      (Stn.updRec_eq_withRec _ _ _)
  refine exec_of_peer_executed brings by_ may passes forwarded result left ?_
  simp [State.answered]

/-- A change of an ADOPTED record. -/
theorem exec_of_adopted_change (brings : i.request? = some q) (by_ : i.requester? = some (.peer k tag))
    (may : MayAnswer s.stn k) (passes : fieldRefusal q = none) (forwarded : isLocalRequest q = false)
    (found : s.stn.rec? sub = some r) {f : Record → Record} (keeps : ∀ x, (f x).admin.sub = x.admin.sub)
    (adopted : (f r).origin = .adopted)
    (executed : ∀ outbox, (s.stn.withOutbox outbox).execute q =
      (((s.stn.withOutbox outbox).updRec sub f).handMirror sub, .reply replyO)) :
    exec i s = .next (s.changed k tag sub f) := by
  refine exec_of_plain_change brings by_ may passes forwarded fun outbox => (executed outbox).trans ?_
  have there : ((s.stn.withOutbox outbox).updRec sub f).rec? sub = some (f r) := by
    rw [Stn.updRec_eq_withRec]
    exact rec?_withRec (s := s.stn.withOutbox outbox) keeps found
  rw [Stn.handMirror_of_adopted there adopted]

/-- A change of a HOME record. -/
theorem handsChange_of_home_change (brings : i.request? = some q) (by_ : i.requester? = some (.peer k tag))
    (may : MayAnswer s.stn k) (passes : fieldRefusal q = none) (forwarded : isLocalRequest q = false)
    (unique : ActiveUnique s.stn) (found : s.stn.rec? sub = some r) {f : Record → Record}
    (keeps : ∀ x, (f x).admin.sub = x.admin.sub) (home : (f r).origin = .home)
    (executed : ∀ outbox, (s.stn.withOutbox outbox).execute q =
      (((s.stn.withOutbox outbox).updRec sub f).handMirror sub, .reply replyO)) :
    HandsChange i s (.mirror false (f r).admin (f r).nextTag) (s.changed k tag sub fun _ => f r).stn := by
  have result : (s.stn.execute q).2 = .reply (str "O") := congrArg Prod.snd (executed s.stn.bus.outbox)
  have there : (s.changed k tag sub f).stn.rec? sub = some (f r) :=
    rec?_withRec (s := (s.answered k tag (.reply (str "O"))).stn) keeps found
  have same : s.changed k tag sub f = s.changed k tag sub fun _ => f r := by
    rw [State.changed, Subscribers.withRec_congr unique found (g := fun _ => f r) rfl]
    rfl
  have left : ((s.answered k tag (.reply (str "O"))).stn.execute q).1 =
      (s.changed k tag sub fun _ => f r).stn.handChange (.mirror false (f r).admin (f r).nextTag) := by
    refine (congrArg Prod.fst (executed (s.stn.bus.outbox ++ [answerNote k tag (.reply (str "O"))]))).trans ?_
    rw [Stn.updRec_eq_withRec, ← same]
    exact Stn.handMirror_of_home there home
  exact handsChange_of_executed brings by_ may passes forwarded result left rfl rfl rfl rfl rfl

/-- A request answered with O/ that leaves the record. -/
theorem exec_of_no_change (brings : i.request? = some q) (by_ : i.requester? = some (.peer k tag))
    (may : MayAnswer s.stn k) (passes : fieldRefusal q = none) (forwarded : isLocalRequest q = false)
    (unique : ActiveUnique s.stn) (found : s.stn.rec? sub = some r)
    (gives : s.stn.Gives q (.reply replyO)) {f : Record → Record} (same : f r = r) :
    exec i s = .next (s.changed k tag sub f) := by
  rw [exec_of_gives brings by_ may passes forwarded gives, State.changed, Subscribers.withRec_eq_self unique found same]
  rfl

end

/-! ### Suspend, resume and amend of a record found here -/

section
variable {s : Stn} {sub : Nat} {r : Record}

/-- The change of a record's service state. -/
def withService (v : Service) (x : Record) : Record := { x with admin := { x.admin with service := v } }

theorem Stn.gives_moveService {q : Request} {v : Service} (service : r.admin.service = v)
    (executed : ∀ outbox, (s.withOutbox outbox).execute q = ((s.withOutbox outbox).moveService r v, .reply replyO)) :
    s.Gives q (.reply replyO) := fun outbox => by
  rw [executed, Stn.moveService, if_pos service]

theorem Stn.moveService_of_ne (found : s.rec? sub = some r) {v : Service} (service : r.admin.service ≠ v) :
    s.moveService r v = (s.updRec sub (withService v)).handMirror sub := by
  rw [Stn.moveService, if_neg service, Stn.rec?_sub found]
  rfl

theorem Stn.execute_suspend (found : FoundHere s sub r) :
    s.execute (.suspend sub) = (s.moveService r .suspended, .reply replyO) := Stn.serve_of_found found

theorem Stn.execute_resume (found : FoundHere s sub r) :
    s.execute (.resume sub) = (s.moveService r r.resumed, .reply replyO) := Stn.serve_of_found found

theorem Stn.execute_amend_noted (found : FoundHere s sub r) {groups : List Group} (notes : r.amendNotes groups = true) :
    s.execute (.amend sub groups) = ((s.updRec sub (·.amended groups)).handMirror sub, .reply replyO) := by
  refine (Stn.serve_of_found found).trans ?_
  rw [Stn.amendFound, if_pos notes, Stn.rec?_sub found.2.2.1]

theorem Stn.execute_amend_silent (found : FoundHere s sub r) {groups : List Group}
    (notes : ¬r.amendNotes groups = true) :
    s.execute (.amend sub groups) = (s.updRec sub (·.amended groups), .reply replyO) := by
  refine (Stn.serve_of_found found).trans ?_
  rw [Stn.amendFound, if_neg notes, Stn.rec?_sub found.2.2.1]

end

/-- A change of an ADOPTED record is one change of the table. -/
theorem changesAnAdoptedRecord (s : State) (k : Station) (tag : Tag) (sub : Nat) (r : Record) (groups : List Group)
    (may : MayAnswer s.stn k) (found : FoundHere s.stn sub r) (ranged : sub < 10000000) (adopted : r.origin = .adopted)
    (unique : ActiveUnique s.stn) :
    exec (.suspend (.peer k tag) sub) s = .next (s.changed k tag sub (withService .suspended)) ∧
    exec (.resume (.peer k tag) sub) s = .next (s.changed k tag sub (withService r.resumed)) ∧
    (1 ≤ groups.length → groups.length ≤ 8 → .zones 0 ∉ groups →
      exec (.amend (.peer k tag) sub groups) s = .next (s.changed k tag sub fun _ => r.amended groups)) := by
  have record : s.stn.rec? sub = some r := found.2.2.1
  have sets {i : Instr} {q : Request} {v : Service} (brings : i.request? = some q)
      (by_ : i.requester? = some (.peer k tag)) (passes : fieldRefusal q = none) (forwarded : isLocalRequest q = false)
      (executed : ∀ outbox, (s.stn.withOutbox outbox).execute q =
        ((s.stn.withOutbox outbox).moveService r v, .reply replyO)) :
      exec i s = .next (s.changed k tag sub (withService v)) := by
    by_cases service : r.admin.service = v
    · refine exec_of_no_change brings by_ may passes forwarded unique record (Stn.gives_moveService service executed) ?_
      rw [← service]
      rfl
    · refine exec_of_adopted_change (f := withService v) brings by_ may passes forwarded record (fun _ => rfl) adopted
        fun outbox => ?_
      rw [executed, Stn.moveService_of_ne (s := s.stn.withOutbox outbox) record service]
  refine ⟨?_, ?_, fun some few zoned => ?_⟩
  · exact sets rfl rfl (fieldRefusal_of_ranged ranged (.inl rfl)) rfl
      fun outbox => Stn.execute_suspend (s := s.stn.withOutbox outbox) found
  · exact sets rfl rfl (fieldRefusal_of_ranged ranged (.inr (.inl rfl))) rfl
      fun outbox => Stn.execute_resume (s := s.stn.withOutbox outbox) found
  have passes := fieldRefusal_amend ranged some few zoned
  have keeps (x : Record) : (x.amended groups).admin.sub = x.admin.sub := congrArg (·.1) (x.amended_fixed groups)
  have same : s.changed k tag sub (·.amended groups) = s.changed k tag sub fun _ => r.amended groups := by
    rw [State.changed, Subscribers.withRec_congr unique record (g := fun _ => r.amended groups) rfl]
    rfl
  rw [← same]
  by_cases notes : r.amendNotes groups = true
  · exact exec_of_adopted_change rfl rfl may passes rfl record keeps
      ((congrArg (·.2.1) (r.amended_fixed groups)).trans adopted)
      fun outbox => Stn.execute_amend_noted (s := s.stn.withOutbox outbox) found notes
  · exact exec_of_plain_change rfl rfl may passes rfl
      fun outbox => Stn.execute_amend_silent (s := s.stn.withOutbox outbox) found notes

/-- Settles O22: for an ADOPTED record one change of the table, for a HOME record its MIRROR note as well. -/
theorem serviceStateAndAmendOfARecord : Obligations.ServiceStateAndAmendOfARecord := by
  refine ⟨fun s k tag sub r groups may found ranged adopted unique => ?_,
    fun s k tag sub r may found ranged home unique => ?_⟩
  · intro met after service
    obtain ⟨suspends, resumes, amends⟩ := changesAnAdoptedRecord s k tag sub r groups may found ranged adopted unique
    refine ⟨suspends, fun active => ?_, fun inactive unmet => ?_, fun some few zoned => ?_⟩
    · rw [Record.resumed_of_met (active.imp_right r.quotaMet_iff.2)] at resumes
      exact resumes
    · rw [Record.resumed_of_not_met inactive (mt r.quotaMet_iff.1 unmet)] at resumes
      exact resumes
    intro g
    have amended := amends some few zoned
    refine ⟨fun suspended => ?_, fun running metHere => ?_, fun running unmet => ?_⟩
    · rw [Record.amended_of_suspended suspended] at amended
      exact amended
    · rw [Record.amended_of_not_suspended running, if_pos (g.quotaMet_iff.2 metHere)] at amended
      exact amended
    · rw [Record.amended_of_not_suspended running, if_neg (mt g.quotaMet_iff.1 unmet)] at amended
      exact amended
  intro met service after restarts changes suspend resume
  have record : s.stn.rec? sub = some r := found.2.2.1
  have passesSuspend := fieldRefusal_of_ranged ranged (.inl rfl)
  have passesResume := fieldRefusal_of_ranged ranged (.inr (.inl rfl))
  have moves {i : Instr} {q : Request} {v : Service} (brings : i.request? = some q)
      (by_ : i.requester? = some (.peer k tag)) (passes : fieldRefusal q = none) (forwarded : isLocalRequest q = false)
      (changed : r.admin.service ≠ v)
      (executed : ∀ outbox, (s.stn.withOutbox outbox).execute q =
        ((s.stn.withOutbox outbox).moveService r v, .reply replyO)) : changes i (service v r) :=
    handsChange_of_home_change (f := withService v) brings by_ may passes forwarded unique record (fun _ => rfl) home
      fun outbox => by
        rw [executed, Stn.moveService_of_ne (s := s.stn.withOutbox outbox) record changed]
  have stays {i : Instr} {q : Request} (brings : i.request? = some q)
      (by_ : i.requester? = some (.peer k tag)) (passes : fieldRefusal q = none) (forwarded : isLocalRequest q = false)
      (executed : ∀ outbox, (s.stn.withOutbox outbox).execute q =
        ((s.stn.withOutbox outbox).moveService r r.admin.service, .reply replyO)) : exec i s = .next (after r) :=
    exec_of_no_change (f := fun _ => r) brings by_ may passes forwarded unique record
      (Stn.gives_moveService rfl executed) rfl
  have suspends (outbox : List Note) := Stn.execute_suspend (s := s.stn.withOutbox outbox) found
  have resumes {v : Service} (resumed : r.resumed = v) (outbox : List Note) :
      (s.stn.withOutbox outbox).execute (.resume sub) = ((s.stn.withOutbox outbox).moveService r v, .reply replyO) :=
    resumed ▸ Stn.execute_resume (s := s.stn.withOutbox outbox) found
  have unmet {x : Record} (h : ¬met x) : ¬x.quotaMet = true := mt x.quotaMet_iff.1 h
  refine ⟨fun changed => ?_, fun same => ?_, fun inactive metHere => ?_, fun suspended unmetHere => ?_,
    fun barred unmetHere => ?_, fun active => ?_, fun groups x some few zoned => ?_⟩
  · exact moves rfl rfl passesSuspend rfl changed suspends
  · exact stays rfl rfl passesSuspend rfl (same ▸ suspends)
  · exact moves rfl rfl passesResume rfl inactive
      (resumes (Record.resumed_of_met (.inr (r.quotaMet_iff.2 metHere))))
  · exact moves rfl rfl passesResume rfl (by rw [suspended]; nofun)
      (resumes (Record.resumed_of_not_met (by rw [suspended]; nofun) (unmet unmetHere)))
  · exact stays rfl rfl passesResume rfl
      (resumes ((Record.resumed_of_not_met (by rw [barred]; nofun) (unmet unmetHere)).trans barred.symm))
  · exact stays rfl rfl passesResume rfl (resumes ((Record.resumed_of_met (.inl active)).trans active.symm))
  intro g given amend
  have amended : r.amended groups = x := by
    obtain ⟨suspended, rfl⟩ | ⟨running, ⟨metHere, rfl⟩ | ⟨unmetHere, rfl⟩⟩ := given
    · exact Record.amended_of_suspended suspended
    · rw [Record.amended_of_not_suspended running, if_pos (g.quotaMet_iff.2 metHere)]
    · rw [Record.amended_of_not_suspended running, if_neg (unmet unmetHere)]
  have passes := fieldRefusal_amend ranged some few zoned
  have keeps (y : Record) : (y.amended groups).admin.sub = y.admin.sub := congrArg (·.1) (y.amended_fixed groups)
  have homeStill : (r.amended groups).origin = .home := (congrArg (·.2.1) (r.amended_fixed groups)).trans home
  refine ⟨fun noted => ?_, fun alone same => ?_⟩
  · have notes : r.amendNotes groups = true := Record.amendNotes_iff.2 (amended ▸ noted)
    have hands := handsChange_of_home_change (i := amend) rfl rfl may passes rfl unique record keeps homeStill
      fun outbox => Stn.execute_amend_noted (s := s.stn.withOutbox outbox) found notes
    rw [amended] at hands
    exact hands
  · have silent : ¬r.amendNotes groups = true := by
      rw [Record.amendNotes_iff, amended]
      rintro (⟨y, mem, other⟩ | differs)
      · exact other (alone y mem)
      · exact differs same
    have changed := exec_of_plain_change (i := amend) rfl rfl may passes rfl
      fun outbox => Stn.execute_amend_silent (s := s.stn.withOutbox outbox) found silent
    rw [State.changed, Subscribers.withRec_congr unique record (g := fun _ => x) amended] at changed
    exact changed

end Sys2Proof.Machine
end


section
/-!
RESULT. A meter read or withdraw that a peer's FORWARD brings (R8, R12, R97, R182 to R184).
-/

namespace Sys2Proof.Machine

/-! ### Meter read (R97, R205) -/

theorem replyV_eq (quota : Option (BitVec 32)) (m : MeterFields) :
    replyV quota m = str "V/" ++ dec m.current ++ str "/" ++ dec m.reserved ++ str "/" ++ quotaText quota ++
      str "/" ++ dec m.carry ++ str "/" ++ dec m.period.toNat ++ str "/" ++ (if m.limit then str "1" else str "0") := by
  simp [replyV, joinFields, bitText, str_slash]

/-! ### The block of one entry (R182, R183) -/

theorem fitsScale_single (j : Nat) (e : FormEntry) : fitsScale j [e] = decide (e.total / 16 ^ j ≤ 65535) := by
  simp [fitsScale]

/-- The scale of a block is the least that carries its totals, or 3. -/
theorem scaleOf_single {e : FormEntry} {scale : Nat} (small : scale ≤ 3)
    (tooLow : ∀ j < scale, 65535 < e.total / 16 ^ j) (fits : scale = 3 ∨ e.total / 16 ^ scale ≤ 65535) :
    scaleOf [e] = scale := by
  have low {j : Nat} (h : j < scale) : fitsScale j [e] = false := by
    simpa [fitsScale_single] using tooLow j h
  have fit (h : scale ≠ 3) : fitsScale scale [e] = true := by
    simpa [fitsScale_single] using fits.resolve_left h
  unfold scaleOf
  interval_cases scale
  · rw [fit (by decide)]
    rfl
  · rw [low (j := 0) (by decide), fit (by decide)]
    rfl
  · rw [low (j := 0) (by decide), low (j := 1) (by decide), fit (by decide)]
    rfl
  · rw [low (j := 0) (by decide), low (j := 1) (by decide), low (j := 2) (by decide)]
    rfl

/-- The remainder of an entry without a record is written off. -/
theorem Stn.settleEntry_of_absent {s : Stn} {e : FormEntry} (absent : s.rec? e.sub = none) (scale : Nat) :
    Stn.settleEntry scale s e = { s with
      meter := { s.meter with
        billed := s.meter.billed + units (fieldOf scale e.total * 16 ^ scale),
        unmetered := s.meter.unmetered + units (remainderOf scale e.total) },
      bill.entriesLimited :=
        if isLimited scale e.total then satInc s.bill.entriesLimited else s.bill.entriesLimited } := by
  simp only [Stn.settleEntry, absent]
  rfl

/-- The block number of a block of period p (R183). -/
theorem Stn.numberBlock_eq (s : Stn) (p : Period) : s.numberBlock p =
    (s.bill.nextNumber p, { s with bill := { s.bill with counted := some p, counter := s.bill.nextNumber p + 1 } }) := by
  unfold Stn.numberBlock Billing.nextNumber
  split
  next counted => rw [← counted]
  next => rfl

theorem Stn.formBlock_of_absent {s : Stn} {e : FormEntry} (absent : s.rec? e.sub = none) (p : Period) {scale : Nat}
    (least : scaleOf [e] = scale) : s.formBlock [e] p = { s with
      meter := { s.meter with
        billed := s.meter.billed + units (fieldOf scale e.total * 16 ^ scale),
        unmetered := s.meter.unmetered + units (remainderOf scale e.total) },
      bill := { s.bill with
        counted := some p, counter := s.bill.nextNumber p + 1,
        entriesLimited :=
          if isLimited scale e.total then satInc s.bill.entriesLimited else s.bill.entriesLimited,
        queue := s.bill.queue ++ [
          { station := s.self, period := p, number := s.bill.nextNumber p, scale := scale,
            entries := [e.toBlock scale] }] } } := by
  simp only [Stn.formBlock, least, List.foldl_cons, List.foldl_nil, Stn.settleEntry_of_absent absent,
    Stn.numberBlock_eq, List.map_cons, List.map_nil]
  rfl

theorem Stn.handChange_active (s : Stn) (body : NoteBody) : (s.handChange body).subs.active = s.subs.active := by
  unfold Stn.handChange Stn.mirrorToRestart
  repeat' split
  all_goals rfl

/-- The note of a change does not look at meter and billing. -/
theorem Stn.handChange_with_units (s : Stn) (body : NoteBody) (m : Meters) (b : Billing) :
    ({ s with meter := m, bill := b } : Stn).handChange body = { s.handChange body with meter := m, bill := b } := by
  by_cases down : (s.view s.buddy).down = true
  · rw [Stn.handChange_of_down down]
    exact Stn.handChange_of_down down
  have up : (s.view s.buddy).down = false := Bool.eq_false_iff.2 down
  by_cases room : s.bus.outbox.length < Config.outboxCap
  · rw [Stn.handChange_of_room up room]
    exact Stn.handChange_of_room (s := { s with meter := m, bill := b }) up room
  have full := Nat.not_lt.1 room
  rw [Stn.handChange_of_full up full]
  refine (Stn.handChange_of_full (s := { s with meter := m, bill := b }) up full).trans ?_
  cases walk : s.subs.mirror <;> simp only [Stn.mirrorToRestart, walk]

/-! ### Withdraw (R8, R184) -/

theorem refused_subscriberBusy : refused .subscriberBusy = .reply (str "X/SUBSCRIBER BUSY") := by decide

theorem refused_drainBusy : refused .drainBusy = .reply (str "X/DRAIN BUSY") := by decide

theorem refused_billingBusy : refused .billingBusy = .reply (str "X/BILLING BUSY") := by decide

theorem Stn.draining_iff (s : Stn) : s.draining = true ↔ s.subs.drain ≠ .idle := by
  unfold Stn.draining
  cases s.subs.drain <;> simp

section
variable {s : Stn} {r : Record}

theorem Stn.withdraw_of_queue (busy : r.queue ≠ []) : s.withdraw r = .error .subscriberBusy := if_pos busy

theorem Stn.withdraw_of_draining (empty : r.queue = []) (draining : s.draining = true) :
    s.withdraw r = .error .drainBusy := by
  rw [Stn.withdraw, if_neg (not_not.2 empty), if_pos draining]

theorem Stn.withdraw_of_no_room (empty : r.queue = []) (quiet : ¬s.draining = true)
    (full : Config.billingCap ≤ s.bill.queue.length) : s.withdraw r = .error .billingBusy := by
  have none : s.billingRoom = false := decide_eq_false (Nat.not_lt.2 full)
  rw [Stn.withdraw, if_neg (not_not.2 empty), if_neg quiet, if_pos none]

/-- The final entry of a record that is withdrawn (R184). -/
def Record.finalEntry (r : Record) : FormEntry :=
  { sub := r.admin.sub, total := r.meter.total, adopted := decide (r.origin = .adopted), final := true }

/-- The station without the record, its FINAL block in the billing queue. -/
def Stn.withdrawn (s : Stn) (r : Record) (scale : Nat) : Stn :=
  let e := r.finalEntry
  { s.removeRec r.admin.sub with
    meter := { s.meter with
      billed := s.meter.billed + units (fieldOf scale e.total * 16 ^ scale),
      unmetered := s.meter.unmetered + units (remainderOf scale e.total) },
    bill := { s.bill with
      counted := some s.bill.period, counter := s.bill.nextNumber s.bill.period + 1,
      entriesLimited :=
        if isLimited scale e.total then satInc s.bill.entriesLimited else s.bill.entriesLimited,
      queue := s.bill.queue ++ [
        { station := s.self, period := s.bill.period, number := s.bill.nextNumber s.bill.period, scale := scale,
          entries := [e.toBlock scale] }] } }

/-- The last step of a withdraw: the note of a HOME record. -/
def Stn.withdrawNote (s : Stn) (r : Record) : Stn :=
  match r.origin with
  | .home => s.handChange (.mirrorRemove r.admin.sub)
  | .adopted => s

theorem Stn.rec?_removeRec (s : Stn) (sub : Nat) : (s.removeRec sub).rec? sub = none := by
  simp [Stn.rec?]

theorem Stn.withdraw_of_free (empty : r.queue = []) (quiet : ¬s.draining = true)
    (room : s.bill.queue.length < Config.billingCap) {scale : Nat} (least : scaleOf [r.finalEntry] = scale) :
    s.withdraw r = .ok ((s.withdrawn r scale).withdrawNote r) := by
  have free : ¬s.billingRoom = false := by simpa [Stn.billingRoom] using room
  have formed : s.withdraw r =
      .ok (((s.removeRec r.admin.sub).withdrawNote r).formBlock [r.finalEntry] s.bill.period) := by
    rw [Stn.withdraw, if_neg (not_not.2 empty), if_neg quiet, if_neg free]
    rfl
  have gone := s.rec?_removeRec r.admin.sub
  rw [formed]
  congr 1
  cases origin : r.origin with
  | adopted =>
    simp only [Stn.withdrawNote, origin]
    exact Stn.formBlock_of_absent gone _ least
  | home =>
    have still : ((s.removeRec r.admin.sub).handChange (.mirrorRemove r.admin.sub)).rec? r.admin.sub = none := by
      rw [Stn.rec?, Stn.handChange_active]
      exact gone
    simp only [Stn.withdrawNote, origin]
    refine (Stn.formBlock_of_absent still _ least).trans ?_
    refine Eq.trans ?_ (Stn.handChange_with_units (s.removeRec r.admin.sub) (.mirrorRemove r.admin.sub)
      (s.withdrawn r scale).meter (s.withdrawn r scale).bill).symm
    simp only [Stn.handChange_frame, Stn.removeRec_frame, Stn.self, Stn.withdrawn]

end

/-- Settles O23: the meter fields of the record; the refusals of a withdraw, and its FINAL block with the MIRROR
REMOVE of a HOME record. -/
theorem meterReadAndWithdrawOfARecord : Obligations.MeterReadAndWithdrawOfARecord := by
  refine ⟨fun s k tag sub r may found ranged => ?_, fun s k tag sub r may found ranged unique => ?_⟩
  · have passes := fieldRefusal_of_ranged ranged (.inr (.inr (.inr rfl)))
    have read := replyV_eq r.admin.quota r.meter
    refine (exec_of_gives (i := .meterRead (.peer k tag) sub) rfl rfl may passes rfl fun outbox =>
      Stn.serve_of_found (s := s.stn.withOutbox outbox) found).trans ?_
    rw [read]
    cases quota : r.admin.quota <;> rfl
  obtain rfl : r.admin.sub = sub := Stn.rec?_sub found.2.2.1
  intro i total
  have passes := fieldRefusal_of_ranged ranged (.inr (.inr (.inl rfl)))
  have executed (outbox : List Note) : (s.stn.withOutbox outbox).execute (.withdraw r.admin.sub) =
      (s.stn.withOutbox outbox).withdrawFound r := Stn.serve_of_found (s := s.stn.withOutbox outbox) found
  have refuses {w : Word} (withdraws : ∀ outbox, (s.stn.withOutbox outbox).withdraw r = .error w) :
      exec i s = .next (s.answered k tag (refused w)) :=
    exec_of_gives rfl rfl may passes rfl fun outbox => (executed outbox).trans (by rw [Stn.withdrawFound, withdraws])
  refine ⟨fun busy => ?_, fun empty draining => ?_, fun empty idle full => ?_,
    fun scale empty idle room small tooLow fits => ?_⟩
  · rw [← refused_subscriberBusy]
    exact refuses fun outbox => Stn.withdraw_of_queue busy
  · rw [← refused_drainBusy]
    exact refuses fun outbox => Stn.withdraw_of_draining empty (s.stn.draining_iff.2 draining)
  · rw [← refused_billingBusy]
    exact refuses fun outbox => Stn.withdraw_of_no_room (s := s.stn.withOutbox outbox) empty
      (mt s.stn.draining_iff.1 (not_not.2 idle)) full
  intro field limited number done answered mirror
  have least : scaleOf [r.finalEntry] = scale := scaleOf_single small tooLow fits
  have withdrawn (outbox : List Note) : (s.stn.withOutbox outbox).execute (.withdraw r.admin.sub) =
      (((s.stn.withOutbox outbox).withdrawn r scale).withdrawNote r, .reply replyO) := by
    rw [executed, Stn.withdrawFound, Stn.withdraw_of_free (s := s.stn.withOutbox outbox) empty
      (mt s.stn.draining_iff.1 (not_not.2 idle)) room least]
  have result : (s.stn.execute (.withdraw r.admin.sub)).2 = .reply (str "O") := congrArg Prod.snd (withdrawn s.stn.bus.outbox)
  have left : ((s.answered k tag (.reply (str "O"))).stn.execute (.withdraw r.admin.sub)).1 =
      ((s.answered k tag (.reply (str "O"))).stn.withdrawn r scale).withdrawNote r :=
    congrArg Prod.fst (withdrawn (s.stn.bus.outbox ++ [answerNote k tag (.reply (str "O"))]))
  have form : ({ s with stn := (s.answered k tag (.reply (str "O"))).stn.withdrawn r scale } : State) =
      done mirror answered := rfl
  refine ⟨fun silent => ?_, fun home up => ?_⟩
  · rw [← form]
    refine exec_of_peer_executed rfl rfl may passes rfl result (left.trans ?_) ?_
    · unfold Stn.withdrawNote
      split
      next home =>
        have down := silent.resolve_left (by rw [home]; nofun)
        exact Stn.handChange_of_down (s := (s.answered k tag (.reply (str "O"))).stn.withdrawn r scale) down
      next => rfl
    · simp [Stn.withdrawn, State.answered]
  have noted : ((s.answered k tag (.reply (str "O"))).stn.withdrawn r scale).withdrawNote r =
      ((s.answered k tag (.reply (str "O"))).stn.withdrawn r scale).handChange (.mirrorRemove r.admin.sub) := by
    simp only [Stn.withdrawNote, home]
  exact (handsChange_of_executed rfl rfl may passes rfl result (left.trans noted) rfl rfl rfl rfl rfl).2 up

end Sys2Proof.Machine
end


section
/-!
SUPPORT and RESULT. The finish of a request, the offer of one waiting entry, and the limits of a pending entry (R24,
R90 to R92, R100).
-/

namespace Sys2Proof.Machine

/-! ### The finish of a request (R74, R100) -/

/-- Where no line waits for a pending entry, the end of an event leaves the station (R69). -/
theorem Stn.settled_of_no_line {s : Stn} (none : s.intake.waiting = []) : s.settled = s := by
  rw [Stn.settled, none]
  rfl

/-- The station after the request of entry e has been finished, as `State.finished` says. -/
def Stn.finished (s : Stn) (e : PendEntry) (text : List Byte) : Stn :=
  (State.finished { stn := s, pending := [] } e text).stn

theorem Line.judge_of_fits {x : Line} {c : CtxNo} {gen : BitVec 8} (same : (x.ctx c).gen = gen)
    (room : x.replies.length < Config.replyCap) : x.judge c gen = .accepted := by
  have free : x.replyRoom = true := decide_eq_true room
  rw [Line.judge, if_neg (not_not.2 same), if_pos free]

theorem Stn.offer_of_fits {s : Stn} {e : PendEntry} (fits : ReplyFits s e) (text : List Byte) :
    s.offer e.line e.ctx e.gen text = s.updLine e.line fun x => x.enqueue e.ctx e.gen text := by
  obtain ⟨same, room⟩ := fits
  simp only [Stn.offer, Line.judge_of_fits same room]

theorem Stn.finish_of_fits {s : Stn} {e : PendEntry} (live : s.pend? e.tag = some e) (fits : ReplyFits s e)
    (text : List Byte) : s.finish e.tag text =
      { s.finished e text with req.holdOrder := s.req.holdOrder.filter (· ≠ e.tag) } := by
  have judged := Line.judge_of_fits fits.1 fits.2
  simp only [Stn.finish, live, judged, Stn.offer_of_fits fits]
  rfl

theorem Stn.pend?_tag {s : Stn} {tag : Tag} {e : PendEntry} (live : s.pend? tag = some e) : e.tag = tag := by
  simpa using List.find?_some live

theorem Stn.pend?_updPend {s : Stn} {tag : Tag} {e : PendEntry} (live : s.pend? tag = some e)
    {f : PendEntry → PendEntry} (keeps : ∀ x, (f x).tag = x.tag) : (s.updPend tag f).pend? tag = some (f e) := by
  rw [Stn.pend?, Stn.updPend, find?_updWhere _ _ (fun x same => by simpa [keeps] using same)]
  exact congrArg (Option.map f) live

/-- Two changes of one entry are one. -/
theorem Stn.updPend_updPend (s : Stn) (tag : Tag) {f g : PendEntry → PendEntry} (keeps : ∀ x, (f x).tag = x.tag) :
    (s.updPend tag f).updPend tag g = s.updPend tag fun x => g (f x) := by
  simp only [Stn.updPend, updWhere_decide, List.map_map]
  congr 2
  refine List.map_congr_left fun p _ => ?_
  by_cases same : p.tag = tag <;> simp [same, keeps]

/-- The entry that a tag finds is the only one of that tag. -/
theorem Stn.pend?_unique {s : Stn} {tag : Tag} {e p : PendEntry} (unique : (s.req.pend.map (·.tag)).Nodup)
    (live : s.pend? tag = some e) (mem : p ∈ s.req.pend) (same : p.tag = tag) : p = e :=
  List.inj_on_of_nodup_map unique mem (List.mem_of_find?_eq_some live) (same.trans (Stn.pend?_tag live).symm)

theorem Stn.updPend_eq_map {s : Stn} {tag : Tag} {e : PendEntry} (unique : (s.req.pend.map (·.tag)).Nodup)
    (live : s.pend? tag = some e) (f : PendEntry → PendEntry) :
    s.updPend tag f = { s with req.pend := s.req.pend.map fun p => if p.tag = tag then f e else p } := by
  have entries : (s.req.pend.map fun p => if p.tag = tag then f p else p) =
      s.req.pend.map fun p => if p.tag = tag then f e else p := by
    refine List.map_congr_left fun p mem => ?_
    split
    next same => rw [Stn.pend?_unique unique live mem same]
    next => rfl
  rw [Stn.updPend, updWhere_decide, entries]

/-- A change of the entry that is finished leaves no trace. -/
theorem filter_updPend (s : Stn) (tag : Tag) {f : PendEntry → PendEntry} (keeps : ∀ x, (f x).tag = x.tag) :
    ((s.updPend tag f).req.pend.filter fun p => decide (p.tag ≠ tag)) =
      s.req.pend.filter fun p => decide (p.tag ≠ tag) := by
  rw [Stn.updPend, updWhere_decide]
  generalize s.req.pend = entries
  induction entries with
  | nil => rfl
  | cons p rest ih => by_cases same : p.tag = tag <;> simp_all

/-- The reply of a changed entry is the reply of the entry. -/
theorem Stn.finish_updPend_of_fits {s : Stn} {e : PendEntry} (live : s.pend? e.tag = some e) (fits : ReplyFits s e)
    (none : s.req.holdOrder = []) {f : PendEntry → PendEntry}
    (keeps : ∀ x, (f x).tag = x.tag ∧ (f x).line = x.line ∧ (f x).ctx = x.ctx ∧ (f x).gen = x.gen) (text : List Byte) :
    (s.updPend e.tag f).finish e.tag text = s.finished e text := by
  have changed := Stn.pend?_updPend live fun x => (keeps x).1
  obtain ⟨tag, line, ctx, gen⟩ := keeps e
  have live' : (s.updPend e.tag f).pend? (f e).tag = some (f e) := by rw [tag]; exact changed
  have fits' : ReplyFits (s.updPend e.tag f) (f e) := by rw [ReplyFits, line, ctx, gen]; exact fits
  have finished := Stn.finish_of_fits live' fits' text
  have filtered := filter_updPend s e.tag fun x => (keeps x).1
  have order : (s.updPend e.tag f).req.holdOrder = [] := none
  rw [tag] at finished
  rw [finished, order]
  simp only [Stn.finished, State.finished, tag, line, ctx, gen, State.withLine, filtered, List.filter_nil]
  simp only [Stn.updPend, ← none]
  rfl

/-! ### The offer of one waiting entry (R24, R90) -/

theorem Stn.offerOne_of_room {s : Stn} {e : PendEntry} {m : Station} (target : e.target = some m)
    (waits : s.waitsForPlace e = true) (room : s.bus.outbox.length < 32) :
    s.offerOne e = s.pushNote (s.forwardNote e.tag e.text e.route m) := by
  have free : s.outboxFree = true := decide_eq_true room
  simp only [Stn.offerOne, target, waits, free, Bool.and_self, if_true]
  rfl

theorem Stn.offerOne_of_full {s : Stn} {e : PendEntry} (full : 32 ≤ s.bus.outbox.length) : s.offerOne e = s := by
  have none : s.outboxFree = false := decide_eq_false (Nat.not_lt.2 full)
  unfold Stn.offerOne
  split
  · rw [none, Bool.and_false, if_neg nofun]
  · rfl

/-- One entry alone waits, and takes the place that is free. -/
theorem Stn.offerWaiting_of_split {s : Stn} {w : PendEntry} {m : Station} {older younger : List PendEntry}
    (split : s.req.pend = older ++ w :: younger) (sending : w.state = .sending) (target : w.target = some m)
    (without : ∀ n ∈ s.bus.outbox, n.forwardTag? ≠ some w.tag) (room : s.bus.outbox.length < 32)
    (noted : ∀ p ∈ older ++ younger, p.state = .sending → ∃ n ∈ s.bus.outbox, n.forwardTag? = some p.tag) :
    s.offerWaiting = s.pushNote (s.forwardNote w.tag w.text w.route m) := by
  have waits : s.waitsForPlace w = true := Stn.waitsForPlace_iff.2 ⟨sending, without⟩
  rw [Stn.offerWaiting, split, List.foldl_append, List.foldl_cons,
    foldl_offerOne_of_not_waiting fun p inside => Stn.waitsForPlace_eq_false (noted p (List.mem_append_left _ inside)),
    Stn.offerOne_of_room target waits room]
  refine foldl_offerOne_of_not_waiting fun p inside => Stn.waitsForPlace_eq_false fun sends => ?_
  obtain ⟨n, there, held⟩ := noted p (List.mem_append_right _ inside) sends
  exact ⟨n, List.mem_append_left _ there, held⟩

theorem Stn.offerWaiting_of_one {s : Stn} {w : PendEntry} {m : Station} (unique : (s.req.pend.map (·.tag)).Nodup)
    (mem : w ∈ s.req.pend) (sending : w.state = .sending) (target : w.target = some m)
    (without : ∀ n ∈ s.bus.outbox, n.forwardTag? ≠ some w.tag) (room : s.bus.outbox.length < 32)
    (others : ∀ p ∈ s.req.pend, p.state = .sending → p.tag ≠ w.tag → ∃ n ∈ s.bus.outbox, n.forwardTag? = some p.tag) :
    s.offerWaiting = s.pushNote (s.forwardNote w.tag w.text w.route m) := by
  obtain ⟨older, younger, split⟩ := List.append_of_mem mem
  rw [split] at unique others
  rw [List.map_append, List.map_cons, List.nodup_middle, List.nodup_cons] at unique
  have apart : ∀ p ∈ older ++ younger, p.tag ≠ w.tag := fun p inside same =>
    unique.1 (by rw [← List.map_append]; exact List.mem_map.2 ⟨p, inside, same⟩)
  exact Stn.offerWaiting_of_split split sending target without room fun p inside sends =>
    others p (List.perm_middle.mem_iff.2 (List.mem_cons_of_mem _ inside)) sends (apart p inside)

/-! ### The limits (R92) -/

theorem PendEntry.count_fields (e : PendEntry) :
    e.count.tag = e.tag ∧ e.count.line = e.line ∧ e.count.ctx = e.ctx ∧ e.count.gen = e.gen := by
  unfold PendEntry.count
  split <;> exact ⟨rfl, rfl, rfl, rfl⟩

theorem PendEntry.count_of_waits {e : PendEntry} (here : e.state ≠ .localHere) (holds : ∀ text, e.state ≠ .holding text) :
    e.count = { e with rounds := e.rounds + 1, wait := e.wait + 1 } := by
  unfold PendEntry.count
  split
  next text holding => exact absurd holding (holds text)
  next localHere => exact absurd localHere here
  next => rfl

theorem PendEntry.count_rounds {e : PendEntry} (holds : ∀ text, e.state ≠ .holding text) :
    e.count.rounds = e.rounds + 1 ∧ e.count.state = e.state := by
  unfold PendEntry.count
  split
  next text holding => exact absurd holding (holds text)
  next localHere => exact ⟨rfl, rfl⟩
  next => exact ⟨rfl, rfl⟩

theorem isHolding_eq_false {x : PendState} (holds : ∀ text, x ≠ .holding text) : x.isHolding = false := by
  cases x with
  | holding text => exact absurd rfl (holds text)
  | localHere | sending | awaiting | deferred => rfl

theorem refusal_retry : refusal .retry = str "X/RETRY" := by decide

/-- The notes that a FORWARD's drop leaves. -/
theorem Stn.dropForward_eq (s : Stn) (tag : Tag) :
    s.dropForward tag = { s with bus.outbox := s.bus.outbox.filter fun n => decide (n.forwardTag? ≠ some tag) } := by
  have same : (fun n => !isForwardOf tag n) = fun n : Note => decide (n.forwardTag? ≠ some tag) := by
    funext n
    rw [Bool.eq_iff_iff, Bool.not_eq_true', ← Bool.not_eq_true, isForwardOf_iff, decide_eq_true_eq]
  rw [Stn.dropForward, same]

section
variable {s : Stn} {e : PendEntry}

/-- The overall limit of an entry whose line has room. -/
theorem Stn.judgeEntry_of_overall (live : s.pend? e.tag = some e) (none : s.req.holdOrder = []) (fits : ReplyFits s e)
    (last : e.rounds = 23) (holds : ∀ text, e.state ≠ .holding text) :
    (s.updPend e.tag PendEntry.count).judgeEntry e.tag =
      Stn.givePlaces { s.finished e (str "X/RETRY") with
        bus.outbox := s.bus.outbox.filter fun n => decide (n.forwardTag? ≠ some e.tag) } s := by
  have counted := Stn.pend?_updPend live fun x => x.count_fields.1
  obtain ⟨rounds, state⟩ := PendEntry.count_rounds holds
  have judged : e.count.state.isHolding = false := isHolding_eq_false (state ▸ holds)
  have limit : Config.overallRounds ≤ e.count.rounds := by rw [rounds, last]; decide
  simp only [Stn.judgeEntry, counted, judged, limit, Bool.false_eq_true, if_false, if_true]
  have finished := Stn.finish_updPend_of_fits (s := s.dropForward e.tag) live fits none PendEntry.count_fields
    (refusal .retry)
  have dropped : (s.updPend e.tag PendEntry.count).dropForward e.tag =
    (s.dropForward e.tag).updPend e.tag PendEntry.count := rfl
  rw [Stn.overallLimit, dropped, finished, refusal_retry, Stn.dropForward_eq]
  rfl

/-- The ANSWER limit of an entry whose line has room. -/
theorem Stn.judgeEntry_of_answer (live : s.pend? e.tag = some e) (none : s.req.holdOrder = []) (fits : ReplyFits s e)
    (below : e.rounds < 23) (awaiting : e.state = .awaiting) (last : e.wait = 11) :
    (s.updPend e.tag PendEntry.count).judgeEntry e.tag = s.finished e (str "X/RETRY") := by
  have counted := Stn.pend?_updPend live fun x => x.count_fields.1
  have count := PendEntry.count_of_waits (e := e) (by rw [awaiting]; nofun) (by rw [awaiting]; nofun)
  rw [count] at counted
  have notOverall : ¬Config.overallRounds ≤ e.rounds + 1 := Nat.not_le.2 (Nat.succ_lt_succ below)
  have limit : Config.answerRounds ≤ e.wait + 1 := by rw [last]; decide
  have judged : PendState.awaiting.isHolding = false := rfl
  simp only [Stn.judgeEntry, counted, awaiting, judged, notOverall, limit, true_and, Bool.false_eq_true, if_false, if_true]
  rw [Stn.finish_updPend_of_fits live fits none PendEntry.count_fields, refusal_retry]

/-- The last count of a deferral: the entry is routed afresh. -/
theorem Stn.judgeEntry_of_deferral (live : s.pend? e.tag = some e) (below : e.rounds < 23)
    (deferred : e.state = .deferred) (last : e.wait = 3) :
    (s.updPend e.tag PendEntry.count).judgeEntry e.tag = (s.updPend e.tag PendEntry.count).routeEntry e.tag := by
  have counted := Stn.pend?_updPend live fun x => x.count_fields.1
  have count := PendEntry.count_of_waits (e := e) (by rw [deferred]; nofun) (by rw [deferred]; nofun)
  rw [count] at counted
  have notOverall : ¬Config.overallRounds ≤ e.rounds + 1 := Nat.not_le.2 (Nat.succ_lt_succ below)
  have limit : Config.deferralRounds ≤ e.wait + 1 := by rw [last]; decide
  have judged : PendState.deferred.isHolding = false := rfl
  simp only [Stn.judgeEntry, counted, deferred, judged, notOverall, limit, reduceCtorEq, false_and, true_and,
    Bool.false_eq_true, if_false, if_true]

/-- The routing of an entry to another station: it is SENDING, and the entries that wait offer their FORWARDs. -/
theorem Stn.routeEntry_of_away {q : Request} {route : Route} {m : Station} (live : s.pend? e.tag = some e)
    (request : e.request = some q) (routed : s.routing q = .to route m) (away : m ≠ s.self) :
    s.routeEntry e.tag = (s.updPend e.tag fun x =>
      { x with route := route, target := some m, state := .sending, wait := 0 }).offerWaiting := by
  have bound : (s.pend? e.tag).bind (·.request) = some q := by rw [live]; exact request
  simp only [Stn.routeEntry, bound, routed, if_neg away]
  rw [Stn.updPend_updPend]
  exact fun _ => rfl

/-- The entry at the end of a deferral, routed afresh to station m. -/
def PendEntry.rerouted (e : PendEntry) (route : Route) (m : Station) : PendEntry :=
  { e with rounds := e.rounds + 1, wait := 0, state := .sending, route := route, target := some m }

/-- The station with that entry. -/
def Stn.rerouted (s : Stn) (e : PendEntry) (route : Route) (m : Station) : Stn :=
  { s with req.pend := s.req.pend.map fun p => if p.tag = e.tag then e.rerouted route m else p }

theorem Stn.routeEntry_of_deferral {q : Request} {route : Route} {m : Station} (live : s.pend? e.tag = some e)
    (unique : (s.req.pend.map (·.tag)).Nodup) (deferred : e.state = .deferred) (request : e.request = some q)
    (routed : s.routing q = .to route m) (away : m ≠ s.self) :
    (s.updPend e.tag PendEntry.count).routeEntry e.tag = (s.rerouted e route m).offerWaiting := by
  have count := PendEntry.count_of_waits (e := e) (by rw [deferred]; nofun) (by rw [deferred]; nofun)
  have counted := Stn.pend?_updPend live fun x => x.count_fields.1
  have went := Stn.routeEntry_of_away (s := s.updPend e.tag PendEntry.count) (e := e.count) (route := route)
    (by rw [e.count_fields.1]; exact counted) (by rw [count]; exact request) (by cases q <;> exact routed) away
  have changed := Stn.updPend_eq_map unique live fun x =>
    { x.count with route := route, target := some m, state := .sending, wait := 0 }
  rw [e.count_fields.1, Stn.updPend_updPend _ _ fun x => x.count_fields.1, changed, count] at went
  exact went

/-- The entry routed afresh offers its FORWARD, which enters the free place. -/
theorem Stn.offerWaiting_rerouted {route : Route} {m : Station} (live : s.pend? e.tag = some e)
    (unique : (s.req.pend.map (·.tag)).Nodup) (noneWaits : NoEntryWaits s)
    (without : ∀ n ∈ s.bus.outbox, n.forwardTag? ≠ some e.tag) (room : s.bus.outbox.length < 32) :
    (s.rerouted e route m).offerWaiting = (s.rerouted e route m).pushNote (s.forwardNote e.tag e.text route m) := by
  have tags : ((s.rerouted e route m).req.pend.map (·.tag)).Nodup := by
    have same : (s.rerouted e route m).req.pend.map (·.tag) = s.req.pend.map (·.tag) := by
      simp only [Stn.rerouted, List.map_map]
      refine List.map_congr_left fun p _ => ?_
      by_cases this : p.tag = e.tag <;> simp [this, PendEntry.rerouted]
    rw [same]
    exact unique
  have inside : e.rerouted route m ∈ (s.rerouted e route m).req.pend :=
    List.mem_map.2 ⟨e, List.mem_of_find?_eq_some live, if_pos rfl⟩
  refine Stn.offerWaiting_of_one tags inside rfl rfl without room fun p mem sends other => ?_
  obtain ⟨x, there, rfl⟩ := List.mem_map.1 mem
  by_cases this : x.tag = e.tag
  · rw [if_pos this] at other
    exact absurd rfl other
  · rw [if_neg this] at sends ⊢
    exact noneWaits x there sends

end

/-- Settles O24: the last count of an entry, by what `judgeEntry` makes of it, and the offers of waiting entries. -/
theorem pendingEntriesMeetTheirLimits : Obligations.PendingEntriesMeetTheirLimits := by
  refine ⟨fun s e live quiet unique none fits => ?_,
    fun s e q route m live quiet unique noneWaits without deferred last below request routed away room => ?_,
    fun s older younger e m split notSending apart sending target without => ?_⟩
  · intro rest finished
    refine ⟨fun last holds => ?_, fun below awaiting last => ?_⟩
    · have ran : exec (.requestOverallLimit e.tag) s =
          .next { s with stn := Stn.givePlaces (finished rest).stn s.stn } := by
        have due : e.state.isHolding = false ∧ Config.overallRounds ≤ e.rounds + 1 :=
          ⟨isHolding_eq_false holds, by rw [last]; decide⟩
        have judged := Stn.judgeEntry_of_overall live none fits last holds
        have left : (Stn.givePlaces (finished rest).stn s.stn).intake.waiting = [] := by
          rw [(Stn.givePlaces_frame _ _).2.1]
          exact quiet
        show execRequestOverallLimit e.tag s = _
        simp only [execRequestOverallLimit, live, if_pos due, judged]
        exact congrArg (fun t => Host.Outcome.next { s with stn := t }) (Stn.settled_of_no_line left)
      have kept {p : PendEntry} (mem : p ∈ (finished rest).stn.req.pend) : p ∈ s.stn.req.pend ∧ p.tag ≠ e.tag := by
        obtain ⟨inside, other⟩ := List.mem_filter.1 mem
        exact ⟨inside, of_decide_eq_true other⟩
      have noteKept {p : PendEntry} (other : p.tag ≠ e.tag) (noted : ∃ n ∈ s.stn.bus.outbox, n.forwardTag? = some p.tag) :
          ∃ n ∈ rest, n.forwardTag? = some p.tag := by
        obtain ⟨n, inside, held⟩ := noted
        exact ⟨n, List.mem_filter.2 ⟨inside, by simpa [held] using other⟩, held⟩
      refine ⟨fun noneWaits => ?_, fun w m inside sending target apart without full dropped others => ?_⟩
      · have still : NoEntryWaits (finished rest).stn := fun p mem sends => by
          obtain ⟨inside, other⟩ := kept mem
          exact noteKept other (noneWaits p inside sends)
        rw [ran, Stn.givePlaces_of_none still]
        rfl
      · have fewer : rest.length < s.stn.bus.outbox.length := by
          obtain ⟨n, there, held⟩ := dropped
          exact List.length_filter_lt_length_iff_exists.2 ⟨n, there, by simp [held]⟩
        have offered : (finished rest).stn.offerWaiting =
            (finished rest).stn.pushNote ((finished rest).stn.forwardNote w.tag w.text w.route m) := by
          refine Stn.offerWaiting_of_one ?_ ?_ sending target (fun n there => ?_) (full ▸ fewer) fun p mem sends other => ?_
          · exact unique.sublist (List.filter_sublist.map _)
          · exact List.mem_filter.2 ⟨inside, decide_eq_true apart⟩
          · exact without n (List.mem_of_mem_filter there)
          · obtain ⟨inside, notThis⟩ := kept mem
            exact noteKept notThis (others p inside sends other)
        rw [ran, Stn.givePlaces, if_pos (show (finished rest).stn.bus.outbox.length < _ from fewer), offered]
        rfl
    · have due : e.state = .awaiting ∧ Config.answerRounds ≤ e.wait + 1 := ⟨awaiting, by rw [last]; decide⟩
      have judged := Stn.judgeEntry_of_answer live none fits below awaiting last
      show execAnswerLimit e.tag s = _
      simp only [execAnswerLimit, live, if_pos due, judged]
      rw [Stn.settled_of_no_line (s := s.stn.finished e (str "X/RETRY")) quiet]
      rfl
  · have due : e.state = .deferred ∧ Config.deferralRounds ≤ e.wait + 1 := ⟨deferred, by rw [last]; decide⟩
    have judged := Stn.judgeEntry_of_deferral live below deferred last
    have routedAway := Stn.routeEntry_of_deferral live unique deferred request routed away
    have offered := Stn.offerWaiting_rerouted live unique noneWaits without (route := route) (m := m) room
    show execDeferralEnd e.tag s = _
    have left : ((s.stn.rerouted e route m).pushNote (s.stn.forwardNote e.tag e.text route m)).intake.waiting = [] := quiet
    simp only [execDeferralEnd, live, if_pos due, judged, routedAway, offered]
    rw [Stn.settled_of_no_line left]
    rfl
  · have found : s.stn.req.pend.find? s.stn.waitsForPlace = some e := by
      rw [split, List.find?_append, List.find?_cons_of_pos (Stn.waitsForPlace_iff.2 ⟨sending, without⟩),
        List.find?_eq_none.2 fun p inside waits => notSending p inside (Stn.waitsForPlace_iff.1 waits).1]
      rfl
    have reoffered : exec .forwardReoffer s = .next { s with stn := s.stn.offerOne e } := by
      show execForwardReoffer s = _
      rw [execForwardReoffer, Stn.reoffer, found]
    refine ⟨fun room => ?_, fun full => ?_⟩
    · rw [reoffered, Stn.offerOne_of_room target (Stn.waitsForPlace_iff.2 ⟨sending, without⟩) room]
      rfl
    · rw [reoffered, Stn.offerOne_of_full full]

end Sys2Proof.Machine
end


section
/-!
SUPPORT and RESULT. A station with one line replaced, and the replies of a line: transmission, a stopped refusal and
the held replies (R73 to R75, R101).
-/

namespace Sys2Proof.Machine

/-! ### A station with one line replaced -/

/-- The station with line l replaced. -/
def Stn.setLine (s : Stn) (l : LineNo) (y : Line) : Stn := { s with intake.lines := s.intake.lines.set l.val y l.isLt }

theorem Stn.updLine_eq_setLine (s : Stn) (l : LineNo) (f : Line → Line) : s.updLine l f = s.setLine l (f (s.line l)) :=
  rfl

@[simp] theorem Stn.line_setLine (s : Stn) (l : LineNo) (y : Line) : (s.setLine l y).line l = y := get_set _ _ _

@[simp] theorem Stn.setLine_setLine (s : Stn) (l : LineNo) (x y : Line) :
    (s.setLine l x).setLine l y = s.setLine l y := by
  simp [Stn.setLine]

@[simp] theorem Stn.setLine_line (s : Stn) (l : LineNo) : s.setLine l (s.line l) = s := by
  have same : s.intake.lines.set l.val (s.line l) l.isLt = s.intake.lines := Vector.set_getElem_self _
  rw [Stn.setLine, same]

theorem State.withLine_eq_setLine (s : State) (l : LineNo) (y : Line) :
    s.withLine l y = { s with stn := s.stn.setLine l y } := rfl

/-! ### Places of a reply queue (R74, R101) -/

section
variable {s : Stn} {l : LineNo}

theorem Stn.refusalWaits_of_empty (empty : (s.line l).fifo = []) : s.refusalWaits l = false := by
  simp [Stn.refusalWaits, Line.atTerminator, empty]

/-- Where no terminator stands at the oldest end, the freed place goes to the held replies. -/
theorem Stn.replyPlaceFreed_of_empty (empty : (s.line l).fifo = []) (room : (s.line l).replies.length < Config.replyCap) :
    s.replyPlaceFreed l = Stn.offerHeld s.req.holdOrder l s := by
  have free : (s.line l).replyRoom = true := decide_eq_true room
  simp only [Stn.replyPlaceFreed, Stn.refusalWaits_of_empty empty, Bool.false_and, Bool.false_eq_true, if_false, free,
    if_true]

/-- Nothing waits for a place. -/
theorem Stn.replyPlaceFreed_of_none (empty : (s.line l).fifo = []) (none : s.req.holdOrder = []) :
    s.replyPlaceFreed l = s := by
  simp only [Stn.replyPlaceFreed, Stn.refusalWaits_of_empty empty, Bool.false_and, Bool.false_eq_true, if_false, none,
    Stn.offerHeld, ite_self]

theorem Line.refuseNow_eq (y : Line) (c : CtxNo) (w : Word) (counted : Bool) : y.refuseNow c w counted =
    { y.withCtx c { y.ctx c with state := .idle, buffer := [] } with
      replies := y.replies ++ [⟨c, (y.ctx c).gen, refusal w⟩],
      damagedEntries := if counted then satInc y.damagedEntries else y.damagedEntries } := rfl

/-- A refusal leaves its context IDLE, so a loss behind it damages nothing. -/
theorem Stn.takeRefusal_of_refuse {lost : Bool} {rest : List FifoEntry} {c : CtxNo} {w : Word} {counted : Bool}
    (head : (s.line l).fifo = ⟨0x0D, false, lost⟩ :: rest) (current : (s.line l).current = some c)
    (refuses : (s.line l).atEnd s.offline = .refuse c w counted) :
    s.takeRefusal l = s.setLine l (((s.line l).took rest).refuseNow c w counted) := by
  have settled : ∀ d, (((s.line l).took rest).refuseNow c w counted).current = some d →
      ((((s.line l).took rest).refuseNow c w counted).ctx d).state ≠ .collecting := by
    intro d is
    obtain rfl : c = d := Option.some.inj (current.symm.trans is)
    have idle : ((((s.line l).took rest).refuseNow c w counted).ctx c).state = .idle :=
      congrArg Context.state (Line.ctx_withCtx _ _ _)
    rw [idle]
    nofun
  simp only [Stn.takeRefusal, refuses, Stn.updLine_eq_setLine, Line.takeHead_cons head]
  rw [Line.afterLoss_eq_self settled]

/-- A refusal that has waited takes the place. -/
theorem Stn.replyPlaceFreed_of_refusal {lost : Bool} {rest : List FifoEntry} {c : CtxNo} {w : Word} {counted : Bool}
    (head : (s.line l).fifo = ⟨0x0D, false, lost⟩ :: rest) (current : (s.line l).current = some c)
    (refuses : (s.line l).atEnd s.offline = .refuse c w counted) (last : (s.line l).replies.length = 7) :
    s.replyPlaceFreed l = s.setLine l (((s.line l).took rest).refuseNow c w counted) := by
  have waits : s.refusalWaits l = true := by
    simp [Stn.refusalWaits, Line.atTerminator, head, terminatorByte, refuses]
  have free : (s.line l).replyRoom = true := by rw [Line.replyRoom, last]; rfl
  have full : (((s.line l).took rest).refuseNow c w counted).replyRoom = false := by
    have length : (((s.line l).took rest).refuseNow c w counted).replies.length = 8 := by
      rw [Line.refuseNow_eq, List.length_append]
      exact congrArg (· + 1) last
    rw [Line.replyRoom, length]
    rfl
  simp only [Stn.replyPlaceFreed, waits, free, Bool.and_self, if_true, Stn.takeRefusal_of_refuse head current refuses,
    Stn.line_setLine, full, Bool.false_eq_true, if_false]

/-! ### The one held reply of a line (R101) -/

/-- The pending request table without entry e and without its held reply. -/
def Requests.freed (t : Requests) (e : PendEntry) : Requests :=
  { t with pend := t.pend.filter (fun p => decide (p.tag ≠ e.tag)), holdOrder := [] }

variable {e : PendEntry} {text : List Byte}

theorem Stn.offerHeld_of_fits (one : s.req.holdOrder = [e.tag]) (live : s.pend? e.tag = some e)
    (holds : e.state = .holding text) (fits : ReplyFits s e) :
    Stn.offerHeld s.req.holdOrder e.line s =
      { s.setLine e.line ((s.line e.line).enqueue e.ctx e.gen text) with req := s.req.freed e } := by
  rw [one]
  simp only [Stn.offerHeld, live, holds, if_true, Line.judge_of_fits fits.1 fits.2, Stn.offer_of_fits fits]
  simp only [Stn.freePend, Requests.freed, Stn.updLine_eq_setLine, Stn.setLine, one]
  simp

theorem Stn.offerHeld_of_changed (one : s.req.holdOrder = [e.tag]) (live : s.pend? e.tag = some e)
    (holds : e.state = .holding text) (changed : ((s.line e.line).ctx e.ctx).gen ≠ e.gen) :
    Stn.offerHeld s.req.holdOrder e.line s = { s with req := s.req.freed e } := by
  have judged : (s.line e.line).judge e.ctx e.gen = .discarded := if_pos changed
  rw [one]
  simp only [Stn.offerHeld, live, holds, if_true, judged, Stn.offer]
  simp only [Stn.freePend, Requests.freed, one]
  simp

end

/-! ### Transmission (R75) -/

theorem dropWhile_of_dropped {α : Type} {p : α → Bool} {dropped rest : List α} {r : α}
    (out : ∀ d ∈ dropped, p d = true) (stays : p r = false) : (dropped ++ r :: rest).dropWhile p = r :: rest := by
  rw [List.dropWhile_append_of_pos out, List.dropWhile_cons_of_neg (by simpa using stays)]

theorem Line.current?_eq (x : Line) (r : LineReply) : (!x.current? r) = decide ((x.ctx r.ctx).gen ≠ r.gen) := by
  simp [Line.current?]

theorem Line.startReply_of_current {x : Line} {dropped rest : List LineReply} {r : LineReply} (p : Parity)
    (queue : x.replies = dropped ++ r :: rest) (gone : ∀ d ∈ dropped, (x.ctx d.ctx).gen ≠ d.gen)
    (current : (x.ctx r.ctx).gen = r.gen) :
    x.startReply p = { x with replies := r :: rest, sending := some (r.chars p) } := by
  have left : x.replies.dropWhile (fun r => !x.current? r) = r :: rest := by
    rw [queue]
    exact dropWhile_of_dropped (fun d mem => by rw [Line.current?_eq]; exact decide_eq_true (gone d mem))
      (by rw [Line.current?_eq]; exact decide_eq_false (not_not.2 current))
  rw [Line.startReply, left]
  rfl

theorem Line.startReply_of_none {x : Line} (p : Parity) (idle : x.sending = none)
    (gone : ∀ d ∈ x.replies, (x.ctx d.ctx).gen ≠ d.gen) : x.startReply p = { x with replies := [] } := by
  have left : x.replies.dropWhile (fun r => !x.current? r) = [] :=
    List.dropWhile_eq_nil_iff.2 fun d mem => by rw [Line.current?_eq]; exact decide_eq_true (gone d mem)
  rw [Line.startReply, left, idle]
  rfl

section
variable {s : Stn} {l : LineNo}

/-- The station once the transmitter has begun, where nothing waits for the places it frees. -/
theorem Stn.transmit_of_idle (up : s.linesUp = true) (none : s.req.holdOrder = []) (quiet : s.intake.waiting = [])
    (empty : (s.line l).fifo = []) (idle : (s.line l).sending = .none) :
    s.transmit l = s.setLine l ((s.line l).startReply (s.lineSettings l).parity) := by
  have free : decide ((s.line l).sending = .none) = true := decide_eq_true idle
  have empty' : ((s.setLine l ((s.line l).startReply (s.lineSettings l).parity)).line l).fifo = [] := by
    rw [Stn.line_setLine]
    exact empty
  simp only [Stn.transmit, up, free, Bool.and_self, if_true, Stn.updLine_eq_setLine,
    Stn.replyPlaceFreed_of_none empty' none]
  rw [Stn.settled_of_no_line (s := s.setLine l _) quiet, ite_self]

theorem Stn.transmit_of_busy {cs : List LineChar} (busy : (s.line l).sending = some cs) : s.transmit l = s := by
  simp [Stn.transmit, busy]

/-- The line without the reply that has been sent. -/
def Line.sent (x : Line) : Line := { x with replies := x.replies.drop 1, sending := none }

theorem Stn.replyDone_of_busy {cs : List LineChar} (busy : (s.line l).sending = some cs) :
    s.replyDone l = ((s.setLine l (s.line l).sent).replyPlaceFreed l).settled := by
  have sending : ¬(s.line l).sending = none := by rw [busy]; nofun
  rw [Stn.replyDone, if_neg sending]
  rfl

end

theorem Line.atEnd_of_damaged {x : Line} {c : CtxNo} (current : x.current = some c)
    (damaged : (x.ctx c).state = .damaged .damaged) : x.atEnd false = .refuse c .damaged true := by
  simp [Line.atEnd, current, damaged]

theorem refusal_damaged : refusal .damaged = str "X/DAMAGED" := by decide

/-- Settles O10: the transmitter's replies, the place that goes to a stopped refusal, and the one held reply. -/
theorem repliesLeaveInTurnAndHeldOnesFollow : Obligations.RepliesLeaveInTurnAndHeldOnesFollow := by
  refine ⟨fun s l up none quiet empty => ?_, fun s l lost rest c cs closed quiet head current damaged busy full => ?_,
    fun s e text one live holds quiet empty => ?_⟩
  · intro x char
    refine ⟨fun idle => ⟨fun dropped r rest queue gone now => ?_, fun gone => ?_⟩, fun cs busy => ⟨?_, ?_⟩⟩
    · have begun := Stn.transmit_of_idle up none quiet empty idle
      rw [Line.startReply_of_current _ queue gone now] at begun
      exact congrArg (fun t => Host.Outcome.next { s with stn := t }) begun
    · have begun := Stn.transmit_of_idle up none quiet empty idle
      rw [Line.startReply_of_none _ idle gone] at begun
      exact congrArg (fun t => Host.Outcome.next { s with stn := t }) begun
    · exact congrArg (fun t => Host.Outcome.next { s with stn := t }) (Stn.transmit_of_busy busy)
    · have empty' : ((s.stn.setLine l (s.stn.line l).sent).line l).fifo = [] := by
        rw [Stn.line_setLine]
        exact empty
      have sent := Stn.replyDone_of_busy busy
      rw [Stn.replyPlaceFreed_of_none empty' none, Stn.settled_of_no_line (s := s.stn.setLine l _) quiet] at sent
      exact congrArg (fun t => Host.Outcome.next { s with stn := t }) sent
  · have sent := Stn.replyDone_of_busy busy
    have offline : s.stn.offline = false := by simp [Stn.offline, closed]
    have last : (s.stn.line l).sent.replies.length = 7 := by rw [Line.sent, List.length_drop, full]
    have freed := Stn.replyPlaceFreed_of_refusal (s := s.stn.setLine l (s.stn.line l).sent) (l := l) (lost := lost)
      (rest := rest) (c := c) (w := .damaged) (counted := true) (by rw [Stn.line_setLine]; exact head)
      (by rw [Stn.line_setLine]; exact current)
      (by rw [Stn.line_setLine]; exact (congrArg _ offline).trans (Line.atEnd_of_damaged current damaged))
      (by rw [Stn.line_setLine]; exact last)
    rw [freed, Stn.line_setLine, Stn.setLine_setLine, Stn.settled_of_no_line (s := s.stn.setLine l _) quiet,
      Line.refuseNow_eq, refusal_damaged] at sent
    exact congrArg (fun t => Host.Outcome.next { s with stn := t }) sent
  · intro x freed
    have waits := Stn.refusalWaits_of_empty empty
    have offers {t : Stn} (room : x.replies.length < 8) (offered : Stn.offerHeld s.stn.req.holdOrder e.line s.stn = t)
        (left : t.intake.waiting = []) : exec (.heldReplyOffer e.line) s = .next { s with stn := t } := by
      have free : x.replyRoom = true := decide_eq_true room
      show execHeldReplyOffer e.line s = _
      simp only [execHeldReplyOffer, show (s.stn.line e.line).replyRoom = true from free, waits, Bool.not_false,
        Bool.and_self, if_true, offered, Stn.settled_of_no_line left]
    refine ⟨fun cs full busy same => ?_, fun room same => ?_, fun room changed => ?_, fun full => ?_⟩
    · have sent := Stn.replyDone_of_busy busy
      have last : (s.stn.line e.line).sent.replies.length = 7 := by rw [Line.sent, List.length_drop, full]
      have fits : ReplyFits (s.stn.setLine e.line (s.stn.line e.line).sent) e := by
        rw [ReplyFits, Stn.line_setLine, last]
        exact ⟨same, by decide⟩
      have freedPlace := Stn.replyPlaceFreed_of_empty (s := s.stn.setLine e.line (s.stn.line e.line).sent) (l := e.line)
        (by rw [Stn.line_setLine]; exact empty) (by rw [Stn.line_setLine, last]; decide)
      have offered := Stn.offerHeld_of_fits (s := s.stn.setLine e.line (s.stn.line e.line).sent) one live holds fits
      rw [freedPlace, offered, Stn.setLine_setLine, Stn.line_setLine] at sent
      refine congrArg (fun t => Host.Outcome.next { s with stn := t }) (sent.trans ?_)
      exact Stn.settled_of_no_line quiet
    · exact offers room (Stn.offerHeld_of_fits one live holds ⟨same, room⟩) quiet
    · exact offers room (Stn.offerHeld_of_changed one live holds changed) quiet
    · have none : (s.stn.line e.line).replyRoom = false := decide_eq_false (Nat.not_lt.2 full)
      show execHeldReplyOffer e.line s = _
      simp only [execHeldReplyOffer, none, Bool.false_and, Bool.false_eq_true, if_false]

end Sys2Proof.Machine
end


section
/-!
SUPPORT and RESULT. The hand-off of a closed entry by a terminator or by a request given by its fields (R69, R73, R82,
R83), and what a terminator does (R68, R73).
-/

namespace Sys2Proof.Machine

/-! ### The end of an entry that is handed over (R69, R73) -/

/-- The line with the context of its closed entry AWAITING (R73). -/
def Line.awaits (y : Line) (c : CtxNo) : Line := y.withCtx c { y.ctx c with state := .awaiting, buffer := [] }

theorem Line.awaits_ctx (y : Line) (c : CtxNo) : (y.awaits c).ctx c = { y.ctx c with state := .awaiting, buffer := [] } :=
  Line.ctx_withCtx _ _ _

section
variable {s : State} {l : LineNo} {c : CtxNo} {i : Instr} {text : List Byte} {parsed : Except Word Request} {y : Line}

/-- The line that is left has the contexts, the current context and the replies of the line. -/
theorem HandsOver.line_left (hands : HandsOver i s.stn l c text parsed y) :
    y.ctxs = (s.stn.line l).ctxs ∧ y.replies = (s.stn.line l).replies ∧ y.current = some c := by
  obtain ⟨current, -, ⟨q, -, -, -, -, rfl⟩ | ⟨lost, rest, -, -, -, -, rfl⟩⟩ := hands
  · exact ⟨rfl, rfl, current⟩
  · exact ⟨rfl, rfl, current⟩

theorem MayHandOver.pendFree {s : Stn} (may : MayHandOver s) : s.pendFree = true := decide_eq_true may.2.1

theorem Line.atEnd_of_collecting {x : Line} (current : x.current = some c) (collecting : (x.ctx c).state = .collecting)
    (offline : Bool) : x.atEnd offline = if offline then .refuse c .offline false else .handOver c := by
  simp only [Line.atEnd, current, collecting]

theorem Stn.linesUp_of_closed {s : Stn} (closed : s.ctl.phase = .closed) : s.linesUp = true := by
  simp [Stn.linesUp, closed]

theorem Stn.offline_of_closed {s : Stn} (closed : s.ctl.phase = .closed) : s.offline = false := by
  simp [Stn.offline, closed]

/-- Either way of bringing a closed entry ends in its hand-off, with its context AWAITING. -/
theorem exec_of_handsOver (hands : HandsOver i s.stn l c text parsed y) (may : MayHandOver s.stn) :
    exec i s = .next { s with stn := ((s.stn.setLine l (y.awaits c)).handOff l c text parsed).settled } := by
  have free := may.pendFree
  have closed := may.1
  obtain ⟨current, collecting, ⟨q, brings, by_, rfl, rfl, rfl⟩ | ⟨lost, rest, rfl, head, rfl, rfl, rfl⟩⟩ := hands
  · have collects : s.stn.collecting l c = true := decide_eq_true ⟨current, collecting⟩
    have taken : s.stn.bring (.context l c) q = s.stn.bringByContext l c q := rfl
    rw [exec_of_request brings by_, taken, Stn.bringByContext, if_pos ⟨closed, collects, free⟩]
    rfl
  · have reached : (s.stn.line l).atTerminator = true := by simp [Line.atTerminator, head, terminatorByte]
    have over_ : (s.stn.line l).atEnd s.stn.offline = .handOver c := by
      rw [Stn.offline_of_closed closed, Line.atEnd_of_collecting current collecting]
      rfl
    have settled : ∀ d, (((s.stn.line l).took rest).awaits c).current = some d →
        ((((s.stn.line l).took rest).awaits c).ctx d).state ≠ .collecting := by
      intro d is
      obtain rfl : c = d := Option.some.inj (current.symm.trans is)
      rw [Line.awaits_ctx]
      nofun
    have left : s.stn.updLine l (fun x => x.takeHead fun y => y.updCtx c fun k =>
        { k with state := .awaiting, buffer := [] }) = s.stn.setLine l (((s.stn.line l).took rest).awaits c) := by
      rw [Stn.updLine_eq_setLine, Line.takeHead_cons head]
      exact congrArg (s.stn.setLine l) (Line.afterLoss_eq_self settled lost)
    show execTerminator l s = _
    simp only [execTerminator, Stn.meetTerminator, Stn.linesUp_of_closed closed, reached, Bool.and_self, if_true, over_,
      free, Stn.takeHandOver, left]

end

/-! ### The entry handed over (R82, R83) -/

section
variable {u : Stn} {l : LineNo} {c : CtxNo}

/-- The pending entry as the hand-off makes it, before the parse is looked at. -/
def Stn.parsedEntry (u : Stn) (l : LineNo) (c : CtxNo) (text : List Byte) (parsed : Except Word Request) : PendEntry :=
  { line := l, ctx := c, gen := ((u.line l).ctx c).gen, role := (u.lineSettings l).role, text := text,
    request := parsed.toOption, tag := u.nextTag, route := .here, target := none, state := .localHere,
    deferrals := 0, rounds := 0, wait := 0 }

theorem Stn.handOff_error (text : List Byte) (w : Word) :
    (u.setLine l ((u.line l).awaits c)).handOff l c text (.error w) =
      (u.handed l c (u.parsedEntry l c text (.error w))).finish u.nextTag (refusal w) := by
  have gen : (((u.setLine l ((u.line l).awaits c)).line l).ctx c).gen = ((u.line l).ctx c).gen := by
    rw [Stn.line_setLine, Line.awaits_ctx]
  simp only [Stn.handOff, gen]
  rfl

theorem Stn.handOff_ok (text : List Byte) (q : Request) :
    (u.setLine l ((u.line l).awaits c)).handOff l c text (.ok q) =
      (u.handed l c (u.parsedEntry l c text (.ok q))).routeEntry u.nextTag := by
  have gen : (((u.setLine l ((u.line l).awaits c)).line l).ctx c).gen = ((u.line l).ctx c).gen := by
    rw [Stn.line_setLine, Line.awaits_ctx]
  simp only [Stn.handOff, gen]
  rfl

/-- A tag that the hand-off takes is held by no live entry (R83). -/
theorem Stn.nextTag_fresh (room : u.req.pend.length < 16) : ∀ p ∈ u.req.pend, p.tag ≠ u.nextTag := by
  obtain ⟨n, found, -, free⟩ := firstFree_isFree (fuel := Config.pendingCap + 1) (used := u.req.pend.map (·.tag))
    (by rw [List.length_map]; exact Nat.lt_succ_of_lt room) (by decide) u.req.tagCounter
  intro p mem same
  rw [Stn.nextTag, found] at same
  exact free (same ▸ List.mem_map.2 ⟨p, mem, rfl⟩)

theorem Stn.pend?_handed {e : PendEntry} (fresh : ∀ p ∈ u.req.pend, p.tag ≠ e.tag) :
    (u.handed l c e).pend? e.tag = some e := by
  have older : u.req.pend.find? (fun p => decide (p.tag = e.tag)) = none := by simpa using fresh
  simp [Stn.pend?, Stn.handed, List.find?_append, older]

theorem Stn.updPend_handed {e : PendEntry} (fresh : ∀ p ∈ u.req.pend, p.tag ≠ e.tag) (f : PendEntry → PendEntry) :
    (u.handed l c e).updPend e.tag f = u.handed l c (f e) := by
  have older : u.req.pend.map (fun p => if p.tag = e.tag then f p else p) = u.req.pend := by
    conv_rhs => rw [← List.map_id u.req.pend]
    exact List.map_congr_left fun p mem => if_neg (fresh p mem)
  simp only [Stn.updPend, Stn.handed, updWhere_decide, List.map_append, older, List.map_cons, if_true, List.map_nil]

/-- The reply of the entry just handed over: it has come and gone but for its request tag. -/
theorem Stn.finish_handed {n : Stn} {e : PendEntry} (req : n.req = (u.handed l c e).req)
    (fresh : ∀ p ∈ u.req.pend, p.tag ≠ e.tag) (held : ∀ t ∈ u.req.holdOrder, ∃ p ∈ u.req.pend, p.tag = t)
    (fits : ReplyFits n e) (text : List Byte) :
    n.finish e.tag text = { n.setLine e.line ((n.line e.line).enqueue e.ctx e.gen text) with
      req.pend := u.req.pend } := by
  have live : n.pend? e.tag = some e := by
    rw [Stn.pend?, req]
    exact Stn.pend?_handed fresh
  have entries : n.req.pend.filter (fun p => decide (p.tag ≠ e.tag)) = u.req.pend := by
    rw [req]
    simp only [Stn.handed, List.filter_append]
    rw [List.filter_eq_self.2 fun p mem => decide_eq_true (fresh p mem)]
    simp
  have order : n.req.holdOrder.filter (· ≠ e.tag) = n.req.holdOrder := by
    refine List.filter_eq_self.2 fun t mem => decide_eq_true fun same => ?_
    rw [req] at mem
    obtain ⟨p, inside, tag⟩ := held t mem
    exact fresh p inside (tag.trans same)
  rw [Stn.finish_of_fits live fits, order]
  simp only [Stn.finished, State.finished, State.withLine, entries]
  rfl

end

/-! ### What an execution leaves of the lines (R99) -/

theorem Stn.serve_intake {s : Stn} {sub : Nat} {onFound : Record → Stn × Result} {onAbsent : Station → Stn × Result}
    (found : ∀ r, (onFound r).1.intake = s.intake) (absent : ∀ h, (onAbsent h).1.intake = s.intake) :
    (s.serve sub onFound onAbsent).1.intake = s.intake := by
  unfold Stn.serve
  repeat' split
  all_goals simp only [found, absent]

/-- An execution leaves the lines, but that a status request may clear their counts. -/
theorem Stn.execute_intake (s : Stn) {q : Request} (notClear : q ≠ .status true) : (s.execute q).1.intake = s.intake := by
  cases q with
  | submit sub p body =>
    refine Stn.serve_intake (fun r => ?_) fun h => rfl
    unfold Stn.submitFound
    dsimp only
    repeat' split
    all_goals simp
  | cancel k n =>
    simp only [Stn.execute, Stn.serveReceipt, Stn.cancelHere]
    split <;> simp
  | query k n =>
    simp only [Stn.execute, Stn.serveReceipt]
    split <;> rfl
  | enrol sub a k t p z q n =>
    refine Stn.serve_intake (fun r => rfl) fun h => ?_
    unfold Stn.enrolAbsent
    dsimp only
    repeat' split
    all_goals simp
  | amend sub gs =>
    refine Stn.serve_intake (fun r => ?_) fun h => rfl
    unfold Stn.amendFound
    dsimp only
    split <;> simp
  | suspend sub => exact Stn.serve_intake (fun r => by simp [Stn.suspendFound]) fun h => rfl
  | resume sub => exact Stn.serve_intake (fun r => by simp [Stn.resumeFound]) fun h => rfl
  | withdraw sub =>
    refine Stn.serve_intake (fun r => ?_) fun h => rfl
    unfold Stn.withdrawFound
    split
    next made =>
      obtain ⟨-, intake, -⟩ := Stn.withdraw_frame made
      exact intake
    next => rfl
  | meterRead sub => exact Stn.serve_intake (fun r => rfl) fun h => rfl
  | periodClose =>
    simp only [Stn.execute]
    split
    next made =>
      obtain ⟨-, intake, -⟩ := Stn.periodClose_frame made
      exact intake
    next => rfl
  | status clear =>
    cases clear with
    | true => exact absurd rfl notClear
    | false => rfl

/-- Contexts and replies of a line, and the waiting order, stand as they were before the execution. -/
theorem Stn.execute_line (s : Stn) (q : Request) (l : LineNo) :
    ((s.execute q).1.line l).ctxs = (s.line l).ctxs ∧ ((s.execute q).1.line l).replies = (s.line l).replies ∧
      (s.execute q).1.intake.waiting = s.intake.waiting := by
  by_cases clear : q = .status true
  · subst clear
    have line : (s.execute (.status true)).1.line l = (s.line l).clearCounts := get_map _ _ _
    rw [line]
    exact ⟨rfl, rfl, rfl⟩
  · simp only [Stn.line, s.execute_intake clear, and_self]

end Sys2Proof.Machine
end


section
/-!
RESULT. What a terminator does (R68, R73), and a closed entry that is refused, forwarded, kept or executed (R83, R86,
R89, R90).
-/

namespace Sys2Proof.Machine

/-! ### The reply in the event of the hand-off (R74, R100) -/

theorem Line.enqueue_awaits (y : Line) (c : CtxNo) (gen : BitVec 8) (text : List Byte) :
    (y.awaits c).enqueue c gen text =
      { y.withCtx c { y.ctx c with state := .idle, buffer := [] } with replies := y.replies ++ [⟨c, gen, text⟩] } := by
  simp only [Line.enqueue, Line.updCtx_eq_withCtx, Line.awaits_ctx]
  simp only [Line.awaits, Line.withCtx_withCtx]
  rfl

section
variable {s : State} {l : LineNo} {c : CtxNo} {i : Instr} {text : List Byte} {y : Line}

theorem Stn.setLine_awaits (s : Stn) (l : LineNo) (c : CtxNo) (y : Line) :
    s.setLine l (y.awaits c) = (s.setLine l y).setLine l (((s.setLine l y).line l).awaits c) := by
  rw [Stn.line_setLine, Stn.setLine_setLine]

theorem Stn.line_handed (u : Stn) (l : LineNo) (c : CtxNo) (e : PendEntry) :
    (u.handed l c e).line l = (u.line l).awaits c := get_set _ _ _

theorem MayHandOver.fresh {s : Stn} (may : MayHandOver s) : ∀ p ∈ s.req.pend, p.tag ≠ s.nextTag :=
  Stn.nextTag_fresh may.2.1

/-- The reply of an entry that has just been handed over. -/
theorem Stn.finish_handed_of_room (may : MayHandOver s.stn) (room : y.replies.length < 8) {e : PendEntry}
    (line : e.line = l) (ctx : e.ctx = c) (gen : e.gen = (y.ctx c).gen) (tag : e.tag = s.stn.nextTag) (text : List Byte) :
    ((s.stn.setLine l y).handed l c e).finish e.tag text = ((s.withLine l y).replied l c text).stn := by
  subst line ctx
  have after : ((s.stn.setLine e.line y).handed e.line e.ctx e).line e.line = y.awaits e.ctx := by
    rw [Stn.line_handed, Stn.line_setLine]
  have fits : ReplyFits ((s.stn.setLine e.line y).handed e.line e.ctx e) e := by
    rw [ReplyFits, after, Line.awaits_ctx]
    exact ⟨gen.symm, room⟩
  rw [Stn.finish_handed (u := s.stn.setLine e.line y) rfl (tag ▸ may.fresh) may.2.2.2 fits, after, Line.enqueue_awaits,
    gen]
  have line : (s.withLine e.line y).stn.line e.line = y := Stn.line_setLine _ _ _
  simp only [State.replied, line]
  simp [Stn.setLine, Stn.handed, State.withLine, Stn.nextTag]

/-! ### The routing of an entry (R86, R87, R89, R90) -/

theorem next_settled {t u : Stn} {pending : List Instr} (left : t = u) (quiet : u.intake.waiting = []) :
    (Host.Outcome.next { stn := t.settled, pending := pending } : Host.Outcome State Fault Refusal) =
      .next { stn := u, pending := pending } := by
  rw [left, Stn.settled_of_no_line quiet]

theorem Stn.parsedEntry_gen (s : Stn) (l : LineNo) (c : CtxNo) (text : List Byte) (parsed : Except Word Request)
    (y : Line) : ((s.setLine l y).parsedEntry l c text parsed).gen = (y.ctx c).gen := by
  rw [Stn.parsedEntry, Stn.line_setLine]

/-- A closed entry that the parse refuses. -/
theorem exec_of_handsOver_error {w : Word} (hands : HandsOver i s.stn l c text (.error w) y) (may : MayHandOver s.stn)
    (room : y.replies.length < 8) : exec i s = .next ((s.withLine l y).replied l c (refusal w)) := by
  rw [exec_of_handsOver hands may, Stn.setLine_awaits, Stn.handOff_error]
  have finished := Stn.finish_handed_of_room may room (e := (s.stn.setLine l y).parsedEntry l c text (.error w)) rfl rfl
    (Stn.parsedEntry_gen ..) rfl (refusal w)
  exact next_settled finished may.2.2.1

/-- The station with the closed entry handed over, and its entry in the pending request table. -/
def Stn.kept (s : Stn) (l : LineNo) (c : CtxNo) (text : List Byte) (q : Request) (y : Line) (route : Route) (m : Station)
    (state : PendState) : Stn :=
  (s.setLine l y).handed l c ((s.setLine l y).handedEntry l c text q route m state)

variable {q : Request}

/-- The entry as the parse leaves it. -/
def Stn.brought (s : Stn) (l : LineNo) (c : CtxNo) (text : List Byte) (q : Request) (y : Line) : Stn :=
  (s.setLine l y).handed l c ((s.setLine l y).parsedEntry l c text (.ok q))

theorem exec_of_handsOver_ok (hands : HandsOver i s.stn l c text (.ok q) y) (may : MayHandOver s.stn) :
    exec i s = .next { s with stn := ((s.stn.brought l c text q y).routeEntry s.stn.nextTag).settled } := by
  rw [exec_of_handsOver hands may, Stn.setLine_awaits, Stn.handOff_ok]
  rfl

theorem Stn.brought_pend? {s : Stn} (may : MayHandOver s) : (s.brought l c text q y).pend? s.nextTag =
    some ((s.setLine l y).parsedEntry l c text (.ok q)) :=
  Stn.pend?_handed (u := s.setLine l y) may.fresh

theorem Stn.updPend_brought {s : Stn} (may : MayHandOver s) (f : PendEntry → PendEntry) :
    (s.brought l c text q y).updPend s.nextTag f =
      (s.setLine l y).handed l c (f ((s.setLine l y).parsedEntry l c text (.ok q))) :=
  Stn.updPend_handed (u := s.setLine l y) (e := (s.setLine l y).parsedEntry l c text (.ok q)) may.fresh f

theorem Stn.routing_brought (s : Stn) : (s.brought l c text q y).routing q = s.routing q := by cases q <;> rfl

theorem Stn.routeEntry_of_refuse {s : Stn} (may : MayHandOver s) {w : Word} (refused : s.routing q = .refuse w) :
    (s.brought l c text q y).routeEntry s.nextTag = (s.brought l c text q y).finish s.nextTag (refusal w) := by
  have bound : ((s.brought l c text q y).pend? s.nextTag).bind (·.request) = some q := by
    rw [Stn.brought_pend? may]
    rfl
  simp only [Stn.routeEntry, bound, Stn.routing_brought, refused]

theorem Stn.routeEntry_of_elsewhere {s : Stn} (may : MayHandOver s) {route : Route} {m : Station}
    (routed : s.routing q = .to route m) (away : m ≠ s.self) :
    (s.brought l c text q y).routeEntry s.nextTag = (s.kept l c text q y route m .sending).offerWaiting := by
  have went := Stn.routeEntry_of_away (e := (s.setLine l y).parsedEntry l c text (.ok q))
    (Stn.brought_pend? (l := l) (c := c) (text := text) (q := q) (y := y) may) rfl
    (s.routing_brought.trans routed) away
  exact went.trans (congrArg Stn.offerWaiting (Stn.updPend_brought may _))

theorem Stn.routeEntry_of_here {s : Stn} (may : MayHandOver s) {route : Route} (routed : s.routing q = .to route s.self) :
    (s.brought l c text q y).routeEntry s.nextTag =
      (s.kept l c text q y route s.self .localHere).runLocal .atOnce s.nextTag := by
  have bound : ((s.brought l c text q y).pend? s.nextTag).bind (·.request) = some q := by
    rw [Stn.brought_pend? may]
    rfl
  have own : s.self = (s.brought l c text q y).self := rfl
  simp only [Stn.routeEntry, bound, Stn.routing_brought, routed, if_pos own]
  exact congrArg (Stn.runLocal .atOnce · s.nextTag) (Stn.updPend_brought may _)

theorem Stn.kept_pend? {s : Stn} (may : MayHandOver s) {route : Route} {m : Station} {state : PendState} :
    (s.kept l c text q y route m state).pend? s.nextTag =
      some ((s.setLine l y).handedEntry l c text q route m state) :=
  Stn.pend?_handed (u := s.setLine l y) may.fresh

/-- A LOCAL entry waits until JOINING ends. -/
theorem Stn.runLocal_of_joining {s : Stn} (may : MayHandOver s) {route : Route} (joining : s.cust.state = .joining)
    (notStatus : isStatus q = false) :
    (s.kept l c text q y route s.self .localHere).runLocal .atOnce s.nextTag =
      s.kept l c text q y route s.self .localHere := by
  have bound : ((s.kept l c text q y route s.self .localHere).pend? s.nextTag).bind (·.request) = some q := by
    rw [Stn.kept_pend? may]
    rfl
  have waits : (s.kept l c text q y route s.self .localHere).cust.state = .joining ∧ isStatus q = false :=
    ⟨joining, notStatus⟩
  simp only [Stn.runLocal, bound, if_pos waits]
  exact Stn.updPend_handed (u := s.setLine l y) (e := (s.setLine l y).handedEntry l c text q route s.self .localHere)
    may.fresh _

/-- An entry executed here in its own event. -/
theorem Stn.runLocal_of_reply {s n : Stn} (may : MayHandOver s) {route : Route}
    (serves : s.cust.state ≠ .joining ∨ isStatus q = true) {reply : List Byte}
    (executed : (s.kept l c text q y route s.self .localHere).execute q = (n, .reply reply)) :
    (s.kept l c text q y route s.self .localHere).runLocal .atOnce s.nextTag =
      (n.finish s.nextTag reply).givePlaces s := by
  have bound : ((s.kept l c text q y route s.self .localHere).pend? s.nextTag).bind (·.request) = some q := by
    rw [Stn.kept_pend? may]
    rfl
  have runs : ¬((s.kept l c text q y route s.self .localHere).cust.state = .joining ∧ isStatus q = false) := by
    rintro ⟨joining, notStatus⟩
    obtain serves | status := serves
    · exact serves joining
    · exact absurd (status.symm.trans notStatus) nofun
  simp only [Stn.runLocal, bound, if_neg runs, executed]
  rfl

end

theorem isStatus_iff (q : Request) : isStatus q = true ↔ ∃ clear, q = .status clear := by
  cases q <;> simp [isStatus]

/-- Every offer meets a full outbox. -/
theorem Stn.offerWaiting_of_full {s : Stn} (full : 32 ≤ s.bus.outbox.length) : s.offerWaiting = s := by
  unfold Stn.offerWaiting
  generalize s.req.pend = entries
  induction entries with
  | nil => rfl
  | cons e rest ih => rw [List.foldl_cons, Stn.offerOne_of_full full, ih]

/-- Settles O15: the four ways an entry can go but its execution, and the rows that bring nothing. -/
theorem contextRequestsAreRefusedForwardedOrKept : Obligations.ContextRequestsAreRefusedForwardedOrKept := by
  refine ⟨fun i q s l c entered parsed y hands may => ?_, fun i s l c brings by_ idle => ?_⟩
  · intro t kept
    refine ⟨fun w room refused => ?_, fun route m ok routed away room none fresh => ?_,
      fun route m ok routed away full => ?_, fun route ok routed joining notStatus => ?_⟩
    · obtain rfl | ⟨rfl, refused⟩ := refused
      · exact exec_of_handsOver_error hands may room
      · rw [exec_of_handsOver_ok hands may, Stn.routeEntry_of_refuse may refused]
        have finished := Stn.finish_handed_of_room may room
          (e := (s.stn.setLine l y).parsedEntry l c entered (.ok q)) rfl rfl
          (Stn.parsedEntry_gen ..) rfl (refusal w)
        exact next_settled finished may.2.2.1
    · subst ok
      rw [exec_of_handsOver_ok hands may, Stn.routeEntry_of_elsewhere may routed away]
      have offered : (s.stn.kept l c entered q y route m .sending).offerWaiting = _ :=
        Stn.offerWaiting_of_split (younger := []) (w := (s.stn.setLine l y).handedEntry l c entered q route m .sending)
          rfl rfl rfl fresh room fun p inside => none p (by rw [List.append_nil] at inside; exact inside)
      exact next_settled offered may.2.2.1
    · subst ok
      rw [exec_of_handsOver_ok hands may, Stn.routeEntry_of_elsewhere may routed away]
      exact next_settled (Stn.offerWaiting_of_full full) may.2.2.1
    · subst ok
      have plain : isStatus q = false := Bool.eq_false_iff.2 fun status => by
        obtain ⟨clear, is⟩ := (isStatus_iff q).1 status
        exact notStatus clear is
      rw [exec_of_handsOver_ok hands may, Stn.routeEntry_of_here may routed, Stn.runLocal_of_joining may joining plain]
      exact next_settled rfl may.2.2.1
  · obtain ⟨q, brings⟩ := brings
    rw [exec_of_request brings by_]
    refine congrArg (fun t => Host.Outcome.next { s with stn := t }) (if_neg fun ready => ?_)
    obtain ⟨closed, collects, free⟩ := ready
    obtain ⟨current, collecting⟩ := of_decide_eq_true collects
    obtain full | notClosed | other | notCollecting := idle
    · exact absurd (of_decide_eq_true free) (Nat.not_lt.2 full)
    · exact notClosed closed
    · exact other current
    · exact notCollecting collecting

/-! ### The execution of an entry in its own event (R90) -/

/-- The station that the execution of the entry just handed over leaves, with the reply in the line's queue. -/
def Stn.replyIn (n : Stn) (s : Stn) (l : LineNo) (c : CtxNo) (y : Line) (text : List Byte) : Stn :=
  { n with
    intake.lines := n.intake.lines.set l.val
      { (n.line l).withCtx c { y.ctx c with state := .idle, buffer := [] } with
        replies := y.replies ++ [⟨c, (y.ctx c).gen, text⟩] } l.isLt,
    req.pend := s.req.pend }

section
variable {s : State} {l : LineNo} {c : CtxNo} {i : Instr} {text : List Byte} {y : Line} {q : Request} {route : Route}
  {n : Stn}

theorem Stn.finish_executed {s : Stn} (may : MayHandOver s) (room : y.replies.length < 8) {result : Result}
    (executed : (s.kept l c text q y route s.self .localHere).execute q = (n, result)) (reply : List Byte) :
    n.finish s.nextTag reply = n.replyIn s l c y reply := by
  have left : n = ((s.kept l c text q y route s.self .localHere).execute q).1 := by rw [executed]
  have before : (s.kept l c text q y route s.self .localHere).line l = y.awaits c := by
    rw [Stn.kept, Stn.line_handed, Stn.line_setLine]
  have req : n.req = (s.kept l c text q y route s.self .localHere).req := by simp [left]
  obtain ⟨ctxs, replies, -⟩ := Stn.execute_line (s.kept l c text q y route s.self .localHere) q l
  rw [before, ← left] at ctxs replies
  have ctx : (n.line l).ctx c = { y.ctx c with state := .awaiting, buffer := [] } := by
    rw [← Line.awaits_ctx, Line.ctx, Line.ctx, ctxs]
  have gen : ((s.setLine l y).handedEntry l c text q route s.self .localHere).gen = (y.ctx c).gen := by
    rw [Stn.handedEntry, Stn.line_setLine]
  have fits : ReplyFits n ((s.setLine l y).handedEntry l c text q route s.self .localHere) := by
    refine ⟨?_, ?_⟩
    · have same : ((n.line l).ctx c).gen = (y.ctx c).gen := by rw [ctx]
      exact same.trans gen.symm
    · exact (congrArg List.length replies).trans_lt room
  have finished := Stn.finish_handed (u := s.setLine l y) req may.fresh may.2.2.2 fits reply
  refine finished.trans ?_
  have queued : (n.line l).enqueue c (y.ctx c).gen reply =
      { (n.line l).withCtx c { y.ctx c with state := .idle, buffer := [] } with
        replies := y.replies ++ [⟨c, (y.ctx c).gen, reply⟩] } := by
    have queue : (n.line l).replies = y.replies := replies
    simp only [Line.enqueue, Line.updCtx_eq_withCtx, ctx]
    simp only [Line.withCtx, queue]
  rw [gen]
  simp only [Stn.handedEntry, queued]
  rfl

/-- A request of a context that is executed here. -/
theorem exec_of_handsOver_here (hands : HandsOver i s.stn l c text (.ok q) y) (may : MayHandOver s.stn)
    (serves : s.stn.cust.state ≠ .joining ∨ ∃ clear, q = .status clear) (routed : s.stn.routing q = .to route s.stn.self)
    (room : y.replies.length < 8) {reply : List Byte}
    (executed : (s.stn.kept l c text q y route s.stn.self .localHere).execute q = (n, .reply reply)) :
    exec i s = .next { s with stn := (n.replyIn s.stn l c y reply).givePlaces s.stn } := by
  have waiting : n.intake.waiting = [] := by
    obtain ⟨-, -, waiting⟩ := Stn.execute_line (s.stn.kept l c text q y route s.stn.self .localHere) q l
    rw [executed] at waiting
    exact waiting.trans may.2.2.1
  have left : ((n.replyIn s.stn l c y reply).givePlaces s.stn).intake.waiting = [] := by
    rw [(Stn.givePlaces_frame _ _).2.1]
    exact waiting
  rw [exec_of_handsOver_ok hands may, Stn.routeEntry_of_here may routed,
    Stn.runLocal_of_reply may (serves.imp_right (isStatus_iff q).2) executed, Stn.finish_executed may room executed]
  exact next_settled rfl left

end

/-- Settles O14: what the execution leaves, with the reply in the line's queue and the entry gone. -/
theorem contextRequestsAreExecutedHere : Obligations.ContextRequestsAreExecutedHere := by
  intro i q s l c entered y route n text hands may serves routed room u executed answered
  exact exec_of_handsOver_here hands may serves routed room executed

/-! ### What a terminator does (R68, R73) -/

theorem Line.atEnd_of_none {x : Line} (none : x.current = none) (offline : Bool) : x.atEnd offline = .discard true := by
  simp only [Line.atEnd, none]

section
variable {x : Line} {c : CtxNo}

theorem Line.atEnd_of_idle (current : x.current = some c) (idle : (x.ctx c).state = .idle) (offline : Bool) :
    x.atEnd offline = .discard false := by
  simp only [Line.atEnd, current, idle]

theorem Line.atEnd_of_awaiting (current : x.current = some c) (awaiting : (x.ctx c).state = .awaiting) (offline : Bool) :
    x.atEnd offline = .discard true := by
  simp only [Line.atEnd, current, awaiting]

theorem Line.atEnd_of_tooLong (current : x.current = some c) (tooLong : (x.ctx c).state = .damaged .tooLong) :
    x.atEnd false = .refuse c .tooLong true := by
  simp [Line.atEnd, current, tooLong]

theorem Line.atEnd_of_offline (current : x.current = some c)
    (entry : (x.ctx c).state = .collecting ∨ ∃ w, (x.ctx c).state = .damaged w) :
    x.atEnd true = .refuse c .offline false := by
  obtain collecting | ⟨w, damaged⟩ := entry
  · simp [Line.atEnd, current, collecting]
  · simp [Line.atEnd, current, damaged]

theorem Line.atEnd_refuses_of_damaged (current : x.current = some c) {w : Damage} (damaged : (x.ctx c).state = .damaged w)
    (offline : Bool) : ∃ word counted, x.atEnd offline = .refuse c word counted := by
  cases offline <;> simp [Line.atEnd, current, damaged]

end

section
variable {s : State} {l : LineNo} {lost : Bool} {rest : List FifoEntry} {c : CtxNo}

theorem Line.atTerminator_of_head {x : Line} (head : x.fifo = ⟨0x0D, false, lost⟩ :: rest) : x.atTerminator = true := by
  simp [Line.atTerminator, head, terminatorByte]

/-- An immediate refusal, where the reply queue has a place. -/
theorem exec_terminator_of_refuse {w : Word} {counted : Bool} (up : s.stn.linesUp = true)
    (head : (s.stn.line l).fifo = ⟨0x0D, false, lost⟩ :: rest) (current : (s.stn.line l).current = some c)
    (refuses : (s.stn.line l).atEnd s.stn.offline = .refuse c w counted) (room : (s.stn.line l).replies.length < 8) :
    exec (.terminator l) s = .next (s.withLine l (((s.stn.line l).took rest).refuseNow c w counted)) := by
  have free : (s.stn.line l).replyRoom = true := decide_eq_true room
  have met : s.stn.meetTerminator l = s.stn.setLine l (((s.stn.line l).took rest).refuseNow c w counted) := by
    simp only [Stn.meetTerminator, up, Line.atTerminator_of_head head, Bool.and_self, if_true, refuses, free,
      Stn.takeRefusal_of_refuse head current refuses]
  exact congrArg (fun t => Host.Outcome.next { s with stn := t }) met

/-- A refusal stops the line where the queue has no place. -/
theorem exec_terminator_of_full {w : Word} {counted : Bool}
    (refuses : (s.stn.line l).atEnd s.stn.offline = .refuse c w counted) (full : 8 ≤ (s.stn.line l).replies.length) :
    exec (.terminator l) s = .next s := by
  have none : (s.stn.line l).replyRoom = false := decide_eq_false (Nat.not_lt.2 full)
  have met : s.stn.meetTerminator l = s.stn := by
    simp only [Stn.meetTerminator, refuses, none, Bool.false_eq_true, if_false, ite_self]
  exact congrArg (fun t => Host.Outcome.next { s with stn := t }) met

/-- A closed entry stops the line where no pending entry is free. -/
theorem exec_terminator_of_waiting (up : s.stn.linesUp = true) (head : (s.stn.line l).fifo = ⟨0x0D, false, lost⟩ :: rest)
    (closes : (s.stn.line l).atEnd s.stn.offline = .handOver c) (full : 16 ≤ s.stn.req.pend.length) :
    exec (.terminator l) s = .next { s with stn.intake.waiting := joinWaiting s.stn.intake.waiting l } := by
  have none : s.stn.pendFree = false := decide_eq_false (Nat.not_lt.2 full)
  have met : s.stn.meetTerminator l =
      { s.stn with intake.waiting := joinWaiting s.stn.intake.waiting l } := by
    simp only [Stn.meetTerminator, up, Line.atTerminator_of_head head, Bool.and_self, if_true, closes, none,
      Bool.false_eq_true, if_false]
  exact congrArg (fun t => Host.Outcome.next { s with stn := t }) met

end

theorem refusal_tooLong : refusal .tooLong = str "X/TOO LONG" := by decide

theorem refusal_offline : refusal .offline = str "X/OFFLINE" := by decide

/-- Settles O9: by what the terminator calls for; an entry that the parse refuses, by its hand-off. -/
theorem terminatorsDiscardRefuseOrStop : Obligations.TerminatorsDiscardRefuseOrStop := by
  refine ⟨fun s l lost rest up head => ?_, fun s l lost rest c w may head current collecting refuses room => ?_⟩
  · intro y refuse
    refine ⟨fun none => ?_, fun c current => ?_⟩
    · rw [exec_terminator_of_discard up head (Line.atEnd_of_none none _), if_pos rfl]
      have kept := Line.afterLoss_eq_self (x := y.orphan) (fun d is => absurd (none.symm.trans is) nofun) lost
      exact congrArg (fun x => Host.Outcome.next (s.withLine l x)) kept
    intro k
    have offline (closed : s.stn.ctl.phase = .closed) : s.stn.offline = false := Stn.offline_of_closed closed
    have settled {state : CtxState} (is : k.state = state) (other : state ≠ .collecting) (d : CtxNo)
        (here : y.current = some d) : (y.ctx d).state ≠ .collecting := by
      obtain rfl : c = d := Option.some.inj (current.symm.trans here)
      exact is ▸ other
    refine ⟨fun idle => ?_, fun awaiting => ?_, fun closed room damaged => ?_, fun closed room tooLong => ?_,
      fun refused room entry => ?_, fun full damaged => ?_, fun closed full collecting => ?_⟩
    · rw [exec_terminator_of_discard up head (Line.atEnd_of_idle current idle _), if_neg nofun]
      have kept := Line.afterLoss_eq_self (x := y) (settled idle nofun) lost
      exact congrArg (fun x => Host.Outcome.next (s.withLine l x)) kept
    · rw [exec_terminator_of_discard up head (Line.atEnd_of_awaiting current awaiting _), if_pos rfl]
      have kept := Line.afterLoss_eq_self (x := y.orphan) (settled awaiting nofun) lost
      exact congrArg (fun x => Host.Outcome.next (s.withLine l x)) kept
    · have refuses := Line.atEnd_of_damaged current damaged
      rw [exec_terminator_of_refuse up head current ((congrArg _ (offline closed)).trans refuses) room, Line.refuseNow_eq,
        refusal_damaged]
      rfl
    · have refuses := Line.atEnd_of_tooLong current tooLong
      rw [exec_terminator_of_refuse up head current ((congrArg _ (offline closed)).trans refuses) room, Line.refuseNow_eq,
        refusal_tooLong]
      rfl
    · have offline : s.stn.offline = true := decide_eq_true refused
      have refuses := Line.atEnd_of_offline current entry
      rw [exec_terminator_of_refuse up head current ((congrArg _ offline).trans refuses) room, Line.refuseNow_eq,
        refusal_offline]
      rfl
    · obtain ⟨w, damaged⟩ := damaged
      obtain ⟨word, counted, refuses⟩ := Line.atEnd_refuses_of_damaged current damaged s.stn.offline
      exact exec_terminator_of_full refuses full
    · have closes := Line.atEnd_of_collecting current collecting s.stn.offline
      rw [offline closed] at closes
      rw [exec_terminator_of_waiting up head ((congrArg _ (offline closed)).trans closes) full]
      simp only [joinWaiting, List.contains_iff_mem]
  · exact exec_of_handsOver_error
      ⟨current, collecting, .inr ⟨lost, rest, rfl, head, rfl, refuses.symm, rfl⟩⟩ may room

end Sys2Proof.Machine
end


section
/-!
RESULT. A period close and a status request of a call context (R98, R99, R176, R205).
-/

namespace Sys2Proof.Machine

/-! ### Numbers and fields of a reply (R205) -/

theorem decRev_step (fuel n : Nat) :
    decRev (fuel + 1) n = decChar (n % 10) :: if n < 10 then [] else decRev fuel (n / 10) := rfl

/-- One more digit of fuel changes nothing for a number that has no such digit. -/
theorem decRev_succ {fuel n : Nat} (some : 0 < fuel) (small : n < 10 ^ fuel) : decRev (fuel + 1) n = decRev fuel n := by
  induction fuel generalizing n with
  | zero => cases some
  | succ f ih =>
    rw [decRev_step (f + 1) n, decRev_step f n]
    by_cases digit : n < 10
    · rw [if_pos digit, if_pos digit]
    · have rest : n / 10 < 10 ^ f := by rw [pow_succ] at small; omega
      have more : 0 < f := Nat.pos_of_ne_zero fun zero => by subst zero; omega
      rw [if_neg digit, if_neg digit, ih more rest]

theorem dec_of_digit {n : Nat} (digit : n < 10) : dec n = [decChar n] := by
  simp [dec, decRev, digit, Nat.mod_eq_of_lt digit]

/-- A number is its digits: those of the number without its last digit, and that digit. -/
theorem dec_of_more {n : Nat} (more : 10 ≤ n) (small : n < 2 ^ 48) : dec n = dec (n / 10) ++ dec (n % 10) := by
  have last : n % 10 < 10 := Nat.mod_lt _ (by decide)
  have rest : n / 10 < 10 ^ 19 := by omega
  have digits : decRev 20 n = decChar (n % 10) :: decRev 19 (n / 10) := by
    rw [decRev, if_neg (Nat.not_lt.2 more)]
  rw [dec_of_digit last, dec, digits, List.reverse_cons, dec, decRev_succ (by decide) rest]

/-- Fields joined by `/`, in the vocabulary of the library. -/
theorem joinFields_eq_intercalate (l : List (List Byte)) : joinFields l = (str "/").intercalate l := by
  rw [str_slash]
  induction l with
  | nil => rfl
  | cons f rest ih =>
    cases rest with
    | nil => simp [joinFields]
    | cons g more =>
      rw [joinFields, ih]
      · simp [List.intercalate]
      · exact nofun

theorem hexChar_eq (k : Station) : hexChar k.val = (str "0123456789ABCDEF").getD k.val 0 := by
  revert k
  decide

/-! ### The status reply (R99, R205) -/

theorem Stn.lines_toList (s : Stn) : s.intake.lines.toList = (List.finRange 4).map s.line := by
  refine List.ext_getElem (by simp) fun k h _ => ?_
  simp [Stn.line, Vector.get]

/-- The counts of the lines, line by line. -/
theorem Stn.counts_eq (s : Stn) : s.counts =
    ((List.finRange 4).flatMap fun l => [(s.line l).overrun, (s.line l).parityFraming, (s.line l).damagedEntries,
      (s.line l).orphans]) ++
    [s.bus.damaged, s.bus.foreign, s.bus.resent, s.bus.failed, s.bus.lateAnswers,
     s.air.claimsLost, s.air.forfeits, s.air.framesAbstained,
     s.ret.badChecks, s.ret.suppressed, s.ret.foreign, s.ret.stale, s.ret.late,
     s.bill.blocksSent, s.bill.entriesLimited] := by
  rw [Stn.counts, Stn.lines_toList, List.flatMap_map]

/-- The counts of a line (R79). -/
def Line.counted (x : Line) : List Count := [x.overrun, x.parityFraming, x.damagedEntries, x.orphans]

/-- The status reply looks at no other field of a line than its counts. -/
theorem Stn.statusText_with_lines (s : Stn) {intake : Intake} {req : Requests}
    (lines : ∀ l, (({ s with intake := intake, req := req } : Stn).line l).counted = (s.line l).counted) :
    ({ s with intake := intake, req := req } : Stn).statusText = s.statusText := by
  have counts : ({ s with intake := intake, req := req } : Stn).counts = s.counts := by
    rw [Stn.counts_eq, Stn.counts_eq]
    congr 1
    exact List.flatMap_congr fun l _ => lines l
  rw [Stn.statusText, counts]
  rfl

theorem Stn.draining_eq (s : Stn) : s.draining = decide (s.subs.drain ≠ .idle) := by
  rw [Bool.eq_iff_iff, s.draining_iff, decide_eq_true_eq]

/-- The status reply field by field. -/
theorem Stn.statusText_eq (s : Stn) : s.statusText = str "T/" ++ (str "/").intercalate
    ([[hexChar s.self.val], s.cust.state.text, dec s.air.frame.toNat, dec s.bill.period.toNat,
      bitText (decide (s.subs.drain ≠ .idle)), bitText s.subs.standbyComplete] ++
     s.roster.map s.mapField ++ s.counts.map (fun c => dec c.toNat) ++ s.totals.map fun t => dec t.toNat) := by
  rw [Stn.statusText, joinFields_eq_intercalate, s.draining_eq]
  rfl

/-! ### The close of a period (R98, R176) -/

theorem Stn.peerHoldsClose_iff (s : Stn) : s.peerHoldsClose = true ↔
    ∃ k ∈ s.roster, k ≠ s.self ∧ s.view k = .live ∧
      ∃ p drains, s.bill.peers.get k = some (p, drains) ∧ (drains = true ∨ p ≠ s.bill.period) := by
  rw [Stn.peerHoldsClose, List.any_eq_true]
  refine exists_congr fun k => and_congr_right fun _ => ?_
  cases peer : s.bill.peers.get k with
  | none => simp
  | some e =>
    obtain ⟨p, drains⟩ := e
    simp [and_assoc]

theorem Stn.periodClose_of_free {s : Stn} (idle : s.subs.drain = .idle) (free : s.subs.grant ≠ .ret)
    (none : ¬s.peerHoldsClose = true) : s.periodClose = .ok (s.startDrain (s.bill.period + 1)) := by
  refine if_neg ?_
  rintro (draining | returns | behind)
  · exact s.draining_iff.1 draining idle
  · exact free returns
  · exact none behind

theorem Stn.periodClose_of_busy {s : Stn}
    (busy : s.subs.drain ≠ .idle ∨ s.subs.grant = .ret ∨ s.peerHoldsClose = true) :
    s.periodClose = .error .drainBusy := if_pos (busy.imp_left s.draining_iff.2)

/-! ### The reply of an execution that leaves lines and entries -/

section
variable {s : State} {l : LineNo} {c : CtxNo} {text reply : List Byte} {y : Line} {q : Request} {route : Route}

/-- The reply in the line's queue, where the execution leaves the lines and the pending request table. -/
theorem Stn.replyIn_of_same {n : Stn} (intake : n.intake = (s.stn.kept l c text q y route s.stn.self .localHere).intake)
    (req : n.req = (s.stn.kept l c text q y route s.stn.self .localHere).req) :
    n.replyIn s.stn l c y reply = { n with
      intake := ((s.withLine l y).replied l c reply).stn.intake,
      req := ((s.withLine l y).replied l c reply).stn.req } := by
  have line : n.line l = y.awaits c := by
    rw [Stn.line, intake]
    exact (Stn.line_handed _ _ _ _).trans (congrArg (·.awaits c) (Stn.line_setLine _ _ _))
  have left : (s.withLine l y).stn.line l = y := Stn.line_setLine _ _ _
  simp only [Stn.replyIn, line, intake, req, State.replied, left]
  simp [Line.awaits, Stn.kept, Stn.handed, Stn.setLine, State.withLine, Line.withCtx, Stn.nextTag]

variable {i : Instr}

/-- A request of a context whose execution leaves lines, pending request table and outbox. -/
theorem exec_of_handsOver_same {n : Stn} (hands : HandsOver i s.stn l c text (.ok q) y) (may : MayHandOver s.stn)
    (serves : s.stn.cust.state ≠ .joining ∨ ∃ clear, q = .status clear) (routed : s.stn.routing q = .to route s.stn.self)
    (room : y.replies.length < 8)
    (executed : (s.stn.kept l c text q y route s.stn.self .localHere).execute q = (n, .reply reply))
    (intake : n.intake = (s.stn.kept l c text q y route s.stn.self .localHere).intake)
    (req : n.req = (s.stn.kept l c text q y route s.stn.self .localHere).req) (outbox : n.bus.outbox = s.stn.bus.outbox) :
    exec i s = .next { s with stn := { n with
      intake := ((s.withLine l y).replied l c reply).stn.intake,
      req := ((s.withLine l y).replied l c reply).stn.req } } := by
  rw [exec_of_handsOver_here hands may serves routed room executed, Stn.replyIn_of_same intake req]
  refine congrArg (fun t => Host.Outcome.next { s with stn := t }) (Stn.givePlaces_of_outbox_eq ?_)
  exact outbox

/-- The counts are cleared behind the reply (R99). -/
theorem Stn.replyIn_clearCounts (n s : Stn) (l : LineNo) (c : CtxNo) (y : Line) (reply : List Byte) :
    n.clearCounts.replyIn s l c y reply = (n.replyIn s l c y reply).clearCounts := by
  have line : n.clearCounts.line l = (n.line l).clearCounts := get_map _ _ _
  rw [Stn.replyIn, line]
  simp only [Stn.replyIn, Stn.clearCounts, Vector.map_set]
  rfl

/-- The lines of a handed entry count what they counted. -/
theorem HandsOver.counted_kept (hands : HandsOver i s.stn l c text (.ok q) y) (k : LineNo) :
    ((s.stn.kept l c text q y route s.stn.self .localHere).line k).counted = (s.stn.line k).counted := by
  by_cases same : l = k
  · subst same
    have line : (s.stn.kept l c text q y route s.stn.self .localHere).line l = y.awaits c :=
      (Stn.line_handed _ _ _ _).trans (congrArg (·.awaits c) (Stn.line_setLine _ _ _))
    rw [line]
    obtain ⟨-, -, ⟨p, -, -, -, -, rfl⟩ | ⟨lost, rest, -, -, -, -, rfl⟩⟩ := hands <;> rfl
  · have line : (s.stn.kept l c text q y route s.stn.self .localHere).line k = s.stn.line k :=
      (get_set_ne _ _ same).trans (get_set_ne _ _ same)
    rw [line]

end

theorem refusal_drainBusy : refusal .drainBusy = str "X/DRAIN BUSY" := by decide

/-- Settles O16: the close of a period and the status reply, executed in the event of their hand-off; the status
reply by `Stn.statusText_eq`, its numbers by `dec_of_digit` and `dec_of_more`. -/
theorem periodCloseAndStatusOfACallContext : Obligations.PeriodCloseAndStatusOfACallContext := by
  refine ⟨fun i s l c entered y hands may serves room => ?_, fun i s l c entered y clear hands may room => ?_,
    fun s => ?_, fun n => dec_of_digit, fun n => dec_of_more⟩
  · intro t peerBehind
    have behind : (s.stn.kept l c entered .periodClose y .here s.stn.self .localHere).peerHoldsClose = true ↔ peerBehind :=
      s.stn.peerHoldsClose_iff
    refine ⟨fun idle free none => ?_, fun busy => ?_⟩
    · have closes := Stn.periodClose_of_free (s := s.stn.kept l c entered .periodClose y .here s.stn.self .localHere)
        idle free (mt behind.1 none)
      have executed : (s.stn.kept l c entered .periodClose y .here s.stn.self .localHere).execute .periodClose =
          ((s.stn.kept l c entered .periodClose y .here s.stn.self .localHere).startDrain (s.stn.bill.period + 1),
            .reply (str "O")) := by
        simp only [Stn.execute, closes]
        rfl
      exact exec_of_handsOver_same hands may (.inl serves) rfl room executed rfl rfl rfl
    · have refuses := Stn.periodClose_of_busy (s := s.stn.kept l c entered .periodClose y .here s.stn.self .localHere)
        (busy.imp_right (Or.imp_right behind.2))
      have executed : (s.stn.kept l c entered .periodClose y .here s.stn.self .localHere).execute .periodClose =
          (s.stn.kept l c entered .periodClose y .here s.stn.self .localHere, .reply (str "X/DRAIN BUSY")) := by
        simp only [Stn.execute, refuses, refused, refusal_drainBusy]
      exact exec_of_handsOver_same (n := s.stn.kept l c entered .periodClose y .here s.stn.self .localHere) hands may
        (.inl serves) rfl room executed rfl rfl rfl
  · intro r
    have text : (s.stn.kept l c entered (.status clear) y .here s.stn.self .localHere).statusText = s.stn.statusText :=
      Stn.statusText_with_lines s.stn hands.counted_kept
    refine ⟨fun plain => ?_, fun clears => ?_⟩
    · subst plain
      have executed : (s.stn.kept l c entered (.status false) y .here s.stn.self .localHere).execute (.status false) =
          (s.stn.kept l c entered (.status false) y .here s.stn.self .localHere, .reply s.stn.statusText) := by
        rw [← text]
        rfl
      exact exec_of_handsOver_same (n := s.stn.kept l c entered (.status false) y .here s.stn.self .localHere) hands may
        (.inr ⟨false, rfl⟩) rfl room executed rfl rfl rfl
    · subst clears
      have executed : (s.stn.kept l c entered (.status true) y .here s.stn.self .localHere).execute (.status true) =
          ((s.stn.kept l c entered (.status true) y .here s.stn.self .localHere).clearCounts,
            .reply s.stn.statusText) := by
        rw [← text]
        rfl
      rw [exec_of_handsOver_here hands may (.inr ⟨true, rfl⟩) rfl room executed, Stn.replyIn_clearCounts,
        Stn.replyIn_of_same rfl rfl]
      exact congrArg (fun t => Host.Outcome.next { s with stn := t }) (Stn.givePlaces_of_outbox_eq rfl)
  · intro hex bit stationFields mapField counts totals
    have field (k : Station) : s.mapField k = mapField k := by
      have code (k : Station) : hexChar k.val = hex k := hexChar_eq k
      simp only [Stn.mapField, code, mapField]
      cases s.view k <;> cases s.custodian k <;> rfl
    have first : [[hexChar s.self.val], s.cust.state.text, dec s.air.frame.toNat, dec s.bill.period.toNat,
        bitText (decide (s.subs.drain ≠ .idle)), bitText s.subs.standbyComplete] = stationFields := by
      have code : hexChar s.self.val = hex s.self := hexChar_eq s.self
      simp only [code, stationFields]
      cases s.cust.state <;> rfl
    have fields : s.roster.map s.mapField = s.roster.map mapField := List.map_congr_left fun k _ => field k
    rw [s.statusText_eq, s.counts_eq, first, fields]
    rfl

end Sys2Proof.Machine
end


section
/-!
RESULT. A submit that a peer's FORWARD brings (R93, R94, R105, R106, R108, R163, R164).
-/

namespace Sys2Proof.Machine

/-! ### The tests of a submit (R94, R106, R163) -/

theorem decDigit?_isSome (b : Byte) : (decDigit? b).isSome = true ↔ 0x30 ≤ b.toNat ∧ b.toNat ≤ 0x39 := by
  simp [decDigit?]

theorem bodySuits_iff (cls : PagerClass) (body : List Byte) : bodySuits cls body = true ↔
    (cls = .numeric → body.length ≤ 20 ∧ ∀ b ∈ body, 0x30 ≤ b.toNat ∧ b.toNat ≤ 0x39) := by
  cases cls <;> simp [bodySuits, decDigit?_isSome]

theorem Record.check_of_active {r : Record} (active : r.admin.service = .active) (charge : Nat) :
    r.check charge = if ∃ q, r.admin.quota = some q ∧ q.toNat < r.meter.current + r.meter.reserved + charge
      then .quota else .admitted := by
  unfold Record.check
  rw [active]
  cases r.admin.quota <;> simp

theorem Stn.hasRoom_iff (s : Stn) (body : List Byte) : s.hasRoom body = true ↔
    s.store.messages.length < 512 ∧
      (segments body = 0 ∨ (s.store.messages.map (·.blocks.length)).sum + segments body ≤ 1024) := by
  rw [Stn.hasRoom, decide_eq_true_iff, Stn.freeEntries, Stn.freeBlocks]
  simp only [Config.entryCap, Config.blockCap]
  omega

theorem fieldRefusal_submit {sub : Nat} {p : Priority} {body : List Byte} (ranged : sub < 10000000)
    (some : 1 ≤ body.length) (few : body.length ≤ 200) : fieldRefusal (.submit sub p body) = none := by
  have inRange : ¬Config.subscriberLimit ≤ sub := Nat.not_le.2 ranged
  rw [fieldRefusal, if_neg inRange, if_pos ⟨some, few⟩]

/-! ### The store takes a message for an empty queue (R105, R106, R108, R109) -/

section
variable {s : Stn} {sub : Nat} {r : Record}

/-- The message as it enters the store. -/
theorem Stn.acceptMessage_of_empty (found : s.rec? sub = some r) (empty : r.queue = []) (p : Priority)
    (origin : MsgOrigin) (body : List Byte) (reserved : Nat) (fresh : s.nextSerial ∉ s.store.messages.map (·.serial)) :
    s.acceptMessage sub p origin body reserved = { s with
      store := { s.store with
        messages := s.store.messages ++ [s.newMessage sub p origin body reserved .ready],
        serial := s.nextSerial + 1 }.readyTail p s.nextSerial,
      subs := s.subs.withRec sub fun x => { x with queue := [s.nextSerial] } } := by
  have waiting : s.acceptMessage sub p origin body reserved =
      Stn.placeInQueue { s with
        store.messages := s.store.messages ++ [s.newMessage sub p origin body reserved .waiting],
        store.serial := s.nextSerial + 1 } sub p s.nextSerial := by cases p <;> rfl
  have older : s.store.messages.find? (fun m => decide (m.serial = s.nextSerial)) = none := by
    simpa using fun m mem same => fresh (List.mem_map.2 ⟨m, mem, same⟩)
  have others : s.store.messages.map (fun m => if m.serial = s.nextSerial
      then { m with state := .ready, target := none } else m) = s.store.messages := by
    conv_rhs => rw [← List.map_id s.store.messages]
    exact List.map_congr_left fun m mem => if_neg fun same => fresh (List.mem_map.2 ⟨m, mem, same⟩)
  have present : (s.store.messages ++ [s.newMessage sub p origin body reserved .waiting]).find?
      (fun m => decide (m.serial = s.nextSerial)) = some (s.newMessage sub p origin body reserved .waiting) := by
    simp [List.find?_append, older, Stn.newMessage]
  have record : ({ s with
      store.messages := s.store.messages ++ [s.newMessage sub p origin body reserved .waiting],
      store.serial := s.nextSerial + 1 } : Stn).rec? sub = some r := found
  rw [waiting, Stn.placeInQueue, record]
  simp only [empty, Stn.makeReady, Stn.msg?, present, Stn.updRec_eq_withRec, Stn.updMsg_eq_withMsg,
    Store.withMsg, List.map_append, others, List.map_cons, List.map_nil]
  cases p <;> simp [Stn.newMessage, Stn.joinReady, Store.readyTail]

/-- The reservation of a record without a threshold calls no notice (R164, R169). -/
theorem Stn.reserve_of_no_threshold (found : s.rec? sub = some r) (none : r.admin.threshold = none) (charge : Nat) :
    s.reserve sub charge = { s with subs := s.subs.withRec sub fun x =>
      { x with meter := { x.meter with reserved := x.meter.reserved + charge } } } := by
  have changed := rec?_withRec (f := fun x => { x with meter := { x.meter with reserved := x.meter.reserved + charge } })
    (fun _ => rfl) found
  rw [Stn.reserve, Stn.updMeter_eq_withRec]
  exact Stn.noticeTest_of_not_called changed (Record.callsNotice_of_no_threshold none)

section
variable {p : Priority} {body : List Byte} (suits : bodySuits r.admin.pagerClass body = true)
include suits

theorem Stn.submitFound_of_quota (check : r.check ((s.tariffOf r).fullCharge (segments body)) = .quota) :
    s.submitFound r p body = (s, refused .quota) := by
  simp only [Stn.submitFound, suits, if_true, check]

theorem Stn.submitFound_of_full (check : r.check ((s.tariffOf r).fullCharge (segments body)) = .admitted)
    (none : ¬s.hasRoom body = true) : s.submitFound r p body = (s, refused .storeFull) := by
  simp only [Stn.submitFound, suits, if_true, check, if_neg none]

end

/-- A submit that is admitted, for a subscriber without messages and without a threshold. -/
theorem Stn.submitFound_of_admitted (found : s.rec? sub = some r) {p : Priority} {body : List Byte}
    (suits : bodySuits r.admin.pagerClass body = true)
    (admits : r.check ((s.tariffOf r).fullCharge (segments body)) = .admitted) (room : s.hasRoom body = true)
    (none : r.admin.threshold = none) (empty : r.queue = []) (fresh : s.nextSerial ∉ s.store.messages.map (·.serial)) :
    s.submitFound r p body = ({ s with
      store := { s.store with
        messages := s.store.messages ++
          [s.newMessage sub p .caller body ((s.tariffOf r).fullCharge (segments body)) .ready],
        serial := s.nextSerial + 1 }.readyTail p s.nextSerial,
      subs := s.subs.withRec sub fun x => { x with
        queue := [s.nextSerial],
        meter := { x.meter with reserved := x.meter.reserved + (s.tariffOf r).fullCharge (segments body) } } },
      .reply (replyK s.self s.nextSerial)) := by
  have number : r.admin.sub = sub := Stn.rec?_sub found
  have queued := rec?_withRec (s := { s with
    store := { s.store with
      messages := s.store.messages ++
        [s.newMessage sub p .caller body ((s.tariffOf r).fullCharge (segments body)) .ready],
      serial := s.nextSerial + 1 }.readyTail p s.nextSerial }) (f := fun x => { x with queue := [s.nextSerial] })
    (fun _ => rfl) found
  simp only [Stn.submitFound, suits, admits, room, if_true, number,
    Stn.acceptMessage_of_empty found empty p .caller body _ fresh]
  rw [Stn.reserve_of_no_threshold queued none, Subscribers.withRec_withRec]
  exact fun _ => rfl

end

theorem refused_badBody : refused .badBody = .reply (str "X/" ++ str "BAD BODY") := by decide

theorem refused_suspended : refused .suspended = .reply (str "X/" ++ str "SUSPENDED") := by decide

theorem refused_barred : refused .barred = .reply (str "X/" ++ str "BARRED") := by decide

theorem refused_quota : refused .quota = .reply (str "X/" ++ str "QUOTA") := by decide

theorem refused_storeFull : refused .storeFull = .reply (str "X/" ++ str "STORE FULL") := by decide

/-- Settles O17: the message that is admitted, and the first test of R94, R163 and R106 that fails. -/
theorem submitIsAcceptedOrRefused : Obligations.SubmitIsAcceptedOrRefused := by
  refine ⟨fun s k tag sub p body r may found ranged some few => ?_,
    fun s k tag sub p body r may found ranged some few => ?_⟩
  · intro t segs charge serial suits active none within entries blocks empty m unique fresh
    have passes := fieldRefusal_submit (p := p) ranged some few
    have admits : r.check charge = .admitted := by
      rw [Record.check_of_active active, if_neg]
      rintro ⟨q, quota, exceeds⟩
      exact absurd (within q quota) (Nat.not_le.2 exceeds)
    have room : s.stn.hasRoom body = true := (s.stn.hasRoom_iff body).2 ⟨entries, .inr blocks⟩
    have executed (outbox : List Note) := (Stn.serve_of_found (s := s.stn.withOutbox outbox) (onFound := fun r =>
        (s.stn.withOutbox outbox).submitFound r p body) (onAbsent := (s.stn.withOutbox outbox).unknownSub) found).trans
      (Stn.submitFound_of_admitted (s := s.stn.withOutbox outbox) found.2.2.1 ((bodySuits_iff _ _).2 suits) admits room
        none empty fresh)
    refine exec_of_peer_executed (i := .submit (.peer k tag) sub p body) rfl rfl may passes rfl
      (congrArg Prod.snd (executed s.stn.bus.outbox)) ((congrArg Prod.fst (executed (s.stn.bus.outbox ++ _))).trans ?_) ?_
    · rfl
    · simp [State.answered]
  · intro t segs charge suits exceeds room gives
    have passes := fieldRefusal_submit (p := p) ranged some few
    have answers {w : Word} {text : List Byte} (word : refused w = .reply (str "X/" ++ text))
        (refuses : ∀ outbox, (s.stn.withOutbox outbox).submitFound r p body = (s.stn.withOutbox outbox, refused w)) :
        gives text := by
      show exec _ s = .next (s.answered k tag (.reply (str "X/" ++ text)))
      rw [← word]
      exact exec_of_gives rfl rfl may passes rfl fun outbox =>
        (Stn.serve_of_found (s := s.stn.withOutbox outbox) found).trans (refuses outbox)
    have suited (h : suits) : bodySuits r.admin.pagerClass body = true := (bodySuits_iff _ _).2 h
    refine ⟨fun unsuited => ?_, fun fits suspended => ?_, fun fits barred => ?_, fun fits active exceeding => ?_,
      fun fits active within full => ?_⟩
    · have unfit : ¬bodySuits r.admin.pagerClass body = true := mt (bodySuits_iff _ _).1 unsuited
      exact answers refused_badBody fun outbox => by simp only [Stn.submitFound, if_neg unfit]
    · exact answers refused_suspended fun outbox => by
        simp only [Stn.submitFound, suited fits, if_true, Record.check, suspended]
    · exact answers refused_barred fun outbox => by
        simp only [Stn.submitFound, suited fits, if_true, Record.check, barred]
    · have check : r.check charge = .quota := by rw [Record.check_of_active active, if_pos exceeding]
      exact answers refused_quota fun outbox =>
        Stn.submitFound_of_quota (s := s.stn.withOutbox outbox) (suited fits) check
    · have check : r.check charge = .admitted := by rw [Record.check_of_active active, if_neg within]
      have none (outbox : List Note) : ¬(s.stn.withOutbox outbox).hasRoom body = true := fun h => by
        obtain ⟨entries, zero | blocks⟩ := (Stn.hasRoom_iff _ _).1 h
        · have segments : (body.length + 39) / 40 = 0 := zero
          omega
        · exact full ⟨entries, blocks⟩
      exact answers refused_storeFull fun outbox =>
        Stn.submitFound_of_full (s := s.stn.withOutbox outbox) (suited fits) check (none outbox)

end Sys2Proof.Machine
end


section
/-!
RESULT. Waits, holds and validity (R114 to R116, R152 to R159).
-/

namespace Sys2Proof.Machine

/-! ### The message made READY (R109, R156) -/

theorem Stn.joinReady_eq (s : Stn) (p : Priority) (serial : Serial) :
    s.joinReady p serial = { s with store := s.store.readyTail p serial } := by
  cases p <;> rfl

theorem Stn.makeReady_of_msg {s : Stn} {m : Message} (found : s.msg? m.serial = some m) :
    s.makeReady m.serial = { s with store :=
      (s.store.withMsg m.serial fun x => { x with state := .ready, target := none }).readyTail m.priority m.serial } := by
  simp only [Stn.makeReady, found, Stn.updMsg_eq_withMsg, Stn.joinReady_eq]

section
variable {s : Stn} {m : Message}

theorem Stn.readyWith_eq (found : s.msg? m.serial = some m) (l : Ladder) :
    s.readyWith m.serial l = { s with store := s.store.readied m l } := by
  have laddered := msg?_withMsg (f := fun x => { x with ladder := some l }) (fun _ => rfl) found
  rw [Stn.readyWith, Stn.updMsg_eq_withMsg]
  refine (Stn.makeReady_of_msg (m := { m with ladder := some l }) laddered).trans ?_
  rw [Store.withMsg_withMsg]
  · rfl
  · exact fun _ => rfl

theorem Stn.msgRec?_eq {r : Record} (found : s.msg? m.serial = some m) (record : s.rec? m.sub = some r) :
    s.msgRec? m.serial = some (m, r) := by
  simp [Stn.msgRec?, found, record]

/-! ### The end of a wait (R156, R159) -/

theorem Plan.endsRound_iff (p : Plan) (step : Nat) :
    p.endsRound step ↔ ¬(!(p.stepAt step).ends && decide (step + 1 < p.steps.length)) = true := by
  simp [Plan.endsRound, Classical.or_iff_not_imp_left]

section
variable {l : Ladder} {p : Plan} {register : Bool}

theorem Ladder.endWait_of_gap : l.endWait p true register = .ready ((l.within p).roundStart p) := rfl

theorem Ladder.endWait_of_repeat (more : 1 < (l.within p).inner) :
    l.endWait p false register = .ready ⟨(l.within p).step, (l.within p).inner - 1, (l.within p).outer, 0⟩ := by
  simp only [Ladder.endWait, Bool.false_eq_true, if_false, if_pos more]

variable (done : (l.within p).inner ≤ 1)
include done

theorem Ladder.endWait_of_step (goesOn : ¬p.endsRound (l.within p).step) :
    l.endWait p false register =
      .ready ⟨(l.within p).step + 1, (p.stepAt ((l.within p).step + 1)).repeats, (l.within p).outer, 0⟩ := by
  have next := not_not.1 (mt (p.endsRound_iff _).2 goesOn)
  simp only [Ladder.endWait, Bool.false_eq_true, if_false]
  rw [if_neg (Nat.not_lt.2 done), if_pos next]

variable (ends : p.endsRound (l.within p).step)
include ends

theorem Ladder.endWait_of_round (more : 1 < (l.within p).outer) (noGap : p.roundGap = 0 ∨ register = true) :
    l.endWait p false register = .ready ⟨0, (p.stepAt 0).repeats, (l.within p).outer - 1, 0⟩ := by
  have last := (p.endsRound_iff _).1 ends
  have gap : ¬(0 < p.roundGap ∧ register = false) := by
    rintro ⟨some, silent⟩
    obtain none | heard := noGap
    · exact some.ne' none
    · cases silent.symm.trans heard
  simp only [Ladder.endWait, Bool.false_eq_true, if_false]
  rw [if_neg (Nat.not_lt.2 done), if_neg last, if_pos more, if_neg gap]
  rfl

theorem Ladder.endWait_of_roundGap (more : 1 < (l.within p).outer) (gap : 0 < p.roundGap) :
    l.endWait p false false = .roundGap ⟨(l.within p).step, 0, (l.within p).outer - 1, p.roundGap⟩ := by
  have last := (p.endsRound_iff _).1 ends
  simp only [Ladder.endWait, Bool.false_eq_true, if_false]
  rw [if_neg (Nat.not_lt.2 done), if_neg last, if_pos more, if_pos ⟨gap, trivial⟩]

theorem Ladder.endWait_of_last (last : (l.within p).outer ≤ 1) : l.endWait p false false = .exhausted := by
  have over_ := (p.endsRound_iff _).1 ends
  simp only [Ladder.endWait, Bool.false_eq_true, if_false]
  rw [if_neg (Nat.not_lt.2 done), if_neg over_, if_neg (Nat.not_lt.2 last)]

end

end

/-- The station after the end of a wait that leads to this. -/
def Stn.waited (s : Stn) (m : Message) (result : WaitResult) : Stn :=
  match result with
  | .ready l => { s with store := s.store.readied m l }
  | .roundGap l => { s with store := s.store.withMsg m.serial fun x => { x with state := .paused, ladder := some l } }
  | .exhausted => s.finalOutcome m.serial (if m.state = .awaitAck then .expired else .unconfirmed)

theorem Stn.endWait_eq {s : Stn} {m : Message} {r : Record} {l : Ladder} {register inGap : Bool} {result : WaitResult}
    (found : s.msg? m.serial = some m) (record : s.rec? m.sub = some r) (ladder : m.ladder = some l)
    (gap : inGap = true ↔ m.state = .paused ∧ l.inner = 0)
    (ends : l.endWait (s.img.plans.get r.admin.plan) inGap register = result) :
    s.endWait m.serial register = s.waited m result := by
  have inGap' : decide (m.state = .paused ∧ l.inner = 0) = inGap := by
    rw [Bool.eq_iff_iff, gap, decide_eq_true_eq]
  simp only [Stn.endWait, Stn.msgRec?_eq found record, ladder, inGap']
  rw [show l.endWait (s.planOf r) inGap register = result from ends]
  cases result with
  | ready l' => exact Stn.readyWith_eq found l'
  | roundGap l' => exact Stn.updMsg_eq_withMsg _ _ _
  | exhausted => rfl

section
variable {s : State} {m : Message} {r : Record} {l : Ladder}

/-- The last count of a wait. -/
theorem exec_waitEnd {inGap : Bool} {result : WaitResult} (found : s.stn.msg? m.serial = some m)
    (record : s.stn.rec? m.sub = some r) (ladder : m.ladder = some l)
    (waits : m.state = .awaitAck ∨ m.state = .paused) (last : l.wait ≤ 1)
    (gap : inGap = true ↔ m.state = .paused ∧ l.inner = 0)
    (ends : l.endWait (s.stn.img.plans.get r.admin.plan) inGap false = result) :
    exec (.waitEnd m.serial) s = .next { s with stn := (s.stn.waited m result).givePlaces s.stn } := by
  have due : (m.state = .awaitAck ∨ m.state = .paused) ∧ m.waitLeft ≤ 1 := ⟨waits, by rw [Message.waitLeft, ladder]; exact last⟩
  have led : s.stn.endWait m.serial false = s.stn.waited m result := Stn.endWait_eq found record ladder gap ends
  show execWaitEnd m.serial s = _
  simp only [execWaitEnd, found, if_pos due, led]

end

/-- Settles O28: by the result of `Ladder.endWait` in each case. -/
theorem waitEndFollowsTheLadder : Obligations.WaitEndFollowsTheLadder := by
  intro s m r l0 found record ladder waits last p l i inGap ready paused o
  have stores {gap : Bool} {result : WaitResult} {t : Stn} (is : gap = true ↔ inGap) (ends : l0.endWait p gap false = result)
      (left : s.stn.waited m result = t) (outbox : t.bus.outbox = s.stn.bus.outbox) :
      exec i s = .next { s with stn := t } := by
    rw [exec_waitEnd found record ladder waits last is ends, left, Stn.givePlaces_of_outbox_eq outbox]
  have notGap (h : ¬inGap) : false = true ↔ inGap := iff_of_false nofun h
  refine ⟨fun gap => ?_, fun gap more => ?_, fun gap done goesOn => ?_, fun gap done ends more noGap => ?_,
    fun gap done ends more roundGap => ?_, fun gap done ends lastRound final => ?_⟩
  · exact stores (iff_of_true rfl gap) Ladder.endWait_of_gap rfl rfl
  · exact stores (notGap gap) (Ladder.endWait_of_repeat more) rfl rfl
  · exact stores (notGap gap) (Ladder.endWait_of_step done goesOn) rfl rfl
  · exact stores (notGap gap) (Ladder.endWait_of_round done ends more (.inl noGap)) rfl rfl
  · exact stores (notGap gap) (Ladder.endWait_of_roundGap done ends more roundGap) rfl rfl
  · exact stores (notGap gap) (Ladder.endWait_of_last done ends lastRound) (Stn.finalOutcome_of_endsPlainly final)
      (by simp [Stn.ended])

end Sys2Proof.Machine
end


section
/-!
RESULT. The end of a hold, the expiry of a message, and the message behind it (R114 to R117, R157).
-/

namespace Sys2Proof.Machine

/-! ### The end of a hold (R157) -/

theorem Stn.endHold_eq {s : Stn} {m : Message} {r : Record} {l : Ladder} (found : s.msg? m.serial = some m)
    (record : s.rec? m.sub = some r) (ladder : m.ladder = some l) :
    s.endHold m.serial = { s with
      store := s.store.readied m (l.endHold (s.img.plans.get r.admin.plan)) } := by
  simp only [Stn.endHold, Stn.msgRec?_eq found record, ladder, Stn.readyWith_eq found]
  rfl

section
variable {s : State} {m : Message} {r : Record} {l : Ladder}

theorem exec_holdEnd (found : s.stn.msg? m.serial = some m) (record : s.stn.rec? m.sub = some r)
    (ladder : m.ladder = some l) (held : m.state = .held) (last : l.wait ≤ 1) :
    exec (.holdEnd m.serial) s = .next { s with
      stn.store := s.stn.store.readied m (l.endHold (s.stn.img.plans.get r.admin.plan)) } := by
  have due : m.state = .held ∧ m.waitLeft ≤ 1 := ⟨held, by rw [Message.waitLeft, ladder]; exact last⟩
  have ended := Stn.endHold_eq found record ladder
  show execHoldEnd m.serial s = _
  simp only [execHoldEnd, found, if_pos due, ended]

end

/-! ### The expiry of one message (R116) -/

section
variable {s : Stn} {m : Message} {f : FrameNo}

theorem Stn.expire_of_due (found : s.msg? m.serial = some m) (due : reached f m.expiry = true)
    (notWaiting : m.state ≠ .awaitAck) (free : s.committed m = false) :
    s.expire f m.serial = s.finalOutcome m.serial .expired := by
  simp only [Stn.expire, found, due, if_true]
  split
  next waiting => exact absurd waiting notWaiting
  next => rw [free, if_neg nofun]
  next => rfl

theorem Stn.expire_of_not_due (found : s.msg? m.serial = some m)
    (kept : reached f m.expiry = false ∨ m.state = .awaitAck ∨ s.committed m = true) : s.expire f m.serial = s := by
  simp only [Stn.expire, found]
  obtain early | waiting | committed := kept
  · rw [early, if_neg nofun]
  · simp only [waiting, ite_self]
  · have loaded : m.state = .loaded := by
      rw [Stn.committed, Bool.and_eq_true, decide_eq_true_eq] at committed
      exact committed.1
    simp only [loaded, committed, if_true, ite_self]

end

/-! ### A settlement of a record without a threshold (R165, R168) -/

/-- What a settlement leaves of a record: its queue and its threshold. -/
def Record.asked (r : Record) : List Serial × Option (BitVec 32) := (r.queue, r.admin.threshold)

section
variable {s : Stn} {sub : Nat} {x : List Serial × Option (BitVec 32)}

theorem Stn.asked_updRec {f : Record → Record} (keeps : ∀ r, (f r).asked = r.asked ∧ (f r).admin.sub = r.admin.sub)
    (found : (s.rec? sub).map Record.asked = some x) : ((s.updRec sub f).rec? sub).map Record.asked = some x := by
  rw [Stn.rec?_updRec _ _ _ fun r same => (keeps r).2.trans same, Option.map_map, ← found]
  exact congrArg (Option.map · (s.rec? sub)) (funext fun r => (keeps r).1)

theorem Stn.handMirror_active (s : Stn) (sub : Nat) : (s.handMirror sub).subs.active = s.subs.active := by
  unfold Stn.handMirror
  split
  · split
    · exact s.handChange_active _
    · rfl
  · rfl

theorem Stn.asked_handMirror (found : (s.rec? sub).map Record.asked = some x) :
    ((s.handMirror sub).rec? sub).map Record.asked = some x := by
  rw [Stn.rec?, Stn.handMirror_active]
  exact found

theorem Stn.asked_roll (found : (s.rec? sub).map Record.asked = some x) :
    ((s.roll sub).rec? sub).map Record.asked = some x := by
  unfold Stn.roll
  split
  next r _ =>
    split
    next =>
      have rolled : (((s.updMeter sub fun m => m.rolled s.bill.period).writeOff r.meter.rollExcess).rec? sub).map
          Record.asked = some x := Stn.asked_updRec (fun _ => ⟨rfl, rfl⟩) found
      unfold Stn.rollTest
      split
      · split
        · exact Stn.asked_handMirror (Stn.asked_updRec (fun _ => ⟨rfl, rfl⟩) rolled)
        · exact rolled
      · exact rolled
    next => exact found
  next => exact found

/-- A settlement without a threshold leaves the store, and the record's queue. -/
theorem Stn.settle_of_no_threshold {queue : List Serial} (found : (s.rec? sub).map Record.asked = some (queue, none))
    (origin : MsgOrigin) (reserved : Nat) (o : Outcome) (transmissions : Nat) :
    (s.settle sub origin reserved o transmissions).store = s.store ∧
      ((s.settle sub origin reserved o transmissions).rec? sub).map Record.asked = some (queue, none) := by
  have rolled := Stn.asked_roll found
  obtain ⟨r, record, asked⟩ := Option.map_eq_some_iff.1 rolled
  unfold Stn.settle
  simp only [record]
  generalize charge : actualCharge ((s.roll sub).tariffOf r).fee origin reserved o transmissions = a
  have charged : (((s.roll sub).updMeter sub fun m => m.charged reserved a).rec? sub).map Record.asked =
      some (queue, none) := Stn.asked_updRec (fun _ => ⟨rfl, rfl⟩) rolled
  obtain ⟨r', record', asked'⟩ := Option.map_eq_some_iff.1 charged
  have quiet : r'.callsNotice = false := Record.callsNotice_of_no_threshold (congrArg Prod.snd asked')
  have tested (t : Stn) (subs : t.subs = ((s.roll sub).updMeter sub fun m => m.charged reserved a).subs)
      (store : t.store = (s.roll sub).store) : (t.noticeTest sub).store = s.store ∧
        ((t.noticeTest sub).rec? sub).map Record.asked = some (queue, none) := by
    have there : t.rec? sub = some r' := by rw [Stn.rec?, subs]; exact record'
    rw [Stn.noticeTest_of_not_called there quiet, there]
    exact ⟨store.trans (Stn.roll_frame s sub).2.2.2.1, congrArg some asked'⟩
  exact tested _ rfl rfl

end

/-! ### The message behind a final outcome (R114 step 5) -/

section
variable {s : Stn} {m n : Message} {r : Record} {rest : List Serial} {o : Outcome}

theorem Stn.msg?_gone_of_ne (next : s.msg? n.serial = some n) (other : m.serial ≠ n.serial) :
    (s.gone m o).msg? n.serial = some n := by
  have left : (s.gone m o).store.messages = s.store.messages.filter fun x => decide (x.serial ≠ m.serial) := rfl
  rw [Stn.msg?, left, List.find?_filter]
  refine (congrArg (List.find? · s.store.messages) (funext fun x => ?_)).trans next
  by_cases is : x.serial = n.serial
  · simp [is, other.symm]
  · simp [is]

theorem Stn.serial_ne_of_mem_gone {x : Message} (mem : x ∈ (s.gone m o).store.messages) : x.serial ≠ m.serial :=
  of_decide_eq_true (List.mem_filter.1 mem).2

/-- The next message of the queue is READY at the tail of its list. -/
theorem Stn.finalOutcome_of_next (present : s.msg? m.serial = some m) (next : s.msg? n.serial = some n)
    (record : s.rec? m.sub = some r) (queue : r.queue = m.serial :: n.serial :: rest) (other : m.serial ≠ n.serial)
    (once : m.serial ∉ rest) (waiting : n.state = .waiting) (none : r.admin.threshold = none) :
    (s.finalOutcome m.serial o).store =
      ((s.gone m o).store.withMsg n.serial fun x => { x with state := .ready, target := .none }).readyTail n.priority
        n.serial ∧
      ((s.finalOutcome m.serial o).rec? m.sub).map (·.queue) = some (n.serial :: rest) := by
  have left : r.queue.filter (· ≠ m.serial) = n.serial :: rest := by
    rw [queue, List.filter_cons_of_neg (by simp), List.filter_eq_self.2]
    intro x mem
    obtain rfl | mem := List.mem_cons.1 mem
    · exact decide_eq_true other.symm
    · exact decide_eq_true fun same => once (same ▸ mem)
  have asked : ((s.gone m o).rec? m.sub).map Record.asked = some (n.serial :: rest, .none) := by
    have record' := rec?_withRec (s := s) (f := fun x => { x with queue := x.queue.filter (· ≠ m.serial) })
      (fun _ => rfl) record
    have gone : (s.gone m o).rec? m.sub = some { r with queue := r.queue.filter (· ≠ m.serial) } := record'
    rw [gone, left]
    exact congrArg (fun t => some (n.serial :: rest, t)) none
  obtain ⟨store, settled⟩ := Stn.settle_of_no_threshold asked m.origin m.reserved o m.transmissions
  obtain ⟨r', record', asked'⟩ := Option.map_eq_some_iff.1 settled
  have queue' : r'.queue = n.serial :: rest := congrArg Prod.fst asked'
  have found : ((s.gone m o).settle m.sub m.origin m.reserved o m.transmissions).msg? n.serial = some n := by
    rw [Stn.msg?, store]
    exact Stn.msg?_gone_of_ne next other
  have head : (((s.gone m o).settle m.sub m.origin m.reserved o m.transmissions).rec? m.sub).bind
      (fun r => r.queue.head?) = some n.serial := by
    rw [record']
    exact congrArg List.head? queue'
  have promoted : ((s.gone m o).settle m.sub m.origin m.reserved o m.transmissions).promoteHead m.sub =
      ((s.gone m o).settle m.sub m.origin m.reserved o m.transmissions).makeReady n.serial := by
    simp only [Stn.promoteHead, head, found, waiting, if_true]
  rw [Stn.finalOutcome_eq_gone present, promoted, Stn.makeReady_of_msg found, store]
  refine ⟨rfl, ?_⟩
  exact (congrArg (Option.map (·.queue)) record').trans (congrArg some queue')

end

theorem Ladder.endHold_of_zero {l : Ladder} {p : Plan} (zero : (l.within p).inner = 0) :
    l.endHold p = ⟨0, (p.stepAt 0).repeats, (l.within p).outer, 0⟩ := if_pos zero

theorem Ladder.endHold_of_pos {l : Ladder} {p : Plan} (pos : (l.within p).inner ≠ 0) :
    l.endHold p = ⟨(l.within p).step, (p.stepAt (l.within p).step).repeats, (l.within p).outer, 0⟩ := if_neg pos

theorem Store.readyTail_last (t : Store) (p : Priority) (serial : Serial) :
    (p = .urgent → (t.readyTail p serial).urgent.getLast? = some serial) ∧
      (p = .normal → (t.readyTail p serial).normal.getLast? = some serial) := by
  refine ⟨fun urgent => ?_, fun normal => ?_⟩
  · subst urgent
    exact List.getLast?_concat
  · subst normal
    exact List.getLast?_concat

theorem Store.readyTail_messages (t : Store) (p : Priority) (serial : Serial) :
    (t.readyTail p serial).messages = t.messages ∧ (t.readyTail p serial).outcomes = t.outcomes := by
  cases p <;> exact ⟨rfl, rfl⟩

/-- Settles O29: the ladder at the end of a hold, the expiry test of one message, and the message behind it. -/
theorem holdsAndValidityRunOut : Obligations.HoldsAndValidityRunOut := by
  refine ⟨fun s m r found record => ⟨fun l0 ladder held last => ?_, fun due notWaiting free ends => ?_, fun kept => ?_⟩,
    fun s m n r rest unique serials present next record queue other once waiting none due notWaiting free => ?_⟩
  · intro p l
    have ends := exec_holdEnd found record ladder held last
    refine ⟨fun zero => ?_, fun pos => ?_⟩
    · rw [ends, Ladder.endHold_of_zero zero]
      rfl
    · rw [ends, Ladder.endHold_of_pos pos]
      rfl
  · have expired := Stn.expire_of_due found due notWaiting free
    rw [Stn.finalOutcome_of_endsPlainly ends] at expired
    refine (congrArg (fun t => Host.Outcome.next { s with stn := t.givePlaces s.stn }) expired).trans ?_
    rw [Stn.givePlaces_of_outbox_eq (by simp [Stn.ended])]
  · refine (congrArg (fun t => Host.Outcome.next { s with stn := t.givePlaces s.stn }) (Stn.expire_of_not_due found kept)).trans ?_
    rw [Stn.givePlaces_of_outbox_eq rfl]
  · refine ⟨{ s with stn := (s.stn.finalOutcome m.serial .expired).givePlaces s.stn }, ?_, ?_⟩
    · exact congrArg (fun t => Host.Outcome.next { s with stn := t.givePlaces s.stn })
        (Stn.expire_of_due present due notWaiting free)
    obtain ⟨store, queue'⟩ := Stn.finalOutcome_of_next (o := .expired) present next record queue other once waiting none
    have kept : ((s.stn.finalOutcome m.serial .expired).givePlaces s.stn).store =
        ((s.stn.gone m .expired).store.withMsg n.serial fun x => { x with state := .ready, target := .none }).readyTail
          n.priority n.serial := (Stn.givePlaces_frame _ _).2.2.2.2.1.trans store
    obtain ⟨urgent, normal⟩ := Store.readyTail_last
      ((s.stn.gone m .expired).store.withMsg n.serial fun x => { x with state := .ready, target := .none }) n.priority
      n.serial
    obtain ⟨messages, outcomes⟩ := Store.readyTail_messages
      ((s.stn.gone m .expired).store.withMsg n.serial fun x => { x with state := .ready, target := .none }) n.priority
      n.serial
    have ready := msg?_withMsg (f := fun x => { x with state := .ready, target := .none }) (fun _ => rfl)
      (Stn.msg?_gone_of_ne (o := .expired) next other)
    refine ⟨?_, ?_, ?_, ?_, ?_, ?_⟩
    · rw [Stn.msg?, kept, messages, List.find?_eq_none]
      intro x mem
      obtain ⟨y, inside, rfl⟩ := List.mem_map.1 mem
      have apart := Stn.serial_ne_of_mem_gone inside
      split <;> simpa using apart
    · rw [Stn.rec?, (Stn.givePlaces_frame _ _).2.2.2.1]
      exact queue'
    · rw [Stn.msg?, kept, messages]
      exact ready
    · rw [kept]
      exact urgent
    · rw [kept]
      exact normal
    · rw [kept, outcomes]
      exact List.getLast?_concat

end Sys2Proof.Machine
end


section
/-!
RESULT. The air-frame start at the store (R113, R115, R155).
-/

namespace Sys2Proof.Machine

theorem Message.counting_iff (m : Message) :
    m.counting = true ↔ m.state = .awaitAck ∨ m.state = .paused ∨ m.state = .held := decide_eq_true_iff

/-- A message whose wait or hold has been counted down by one frame (R155). -/
def Message.countedDown (m : Message) : Message :=
  if m.counting then { m with ladder := m.ladder.map fun l => { l with wait := l.wait - 1 } } else m

theorem Message.countedDown_fields (m : Message) : m.countedDown.serial = m.serial ∧ m.countedDown.state = m.state ∧
    m.countedDown.expiry = m.expiry ∧ m.countedDown.target = m.target ∧ m.countedDown.sub = m.sub := by
  unfold Message.countedDown
  split <;> exact ⟨rfl, rfl, rfl, rfl, rfl⟩

theorem Message.countedDown_counting (m : Message) : m.countedDown.counting = m.counting := by
  rw [Message.counting, Message.counting, m.countedDown_fields.2.1]

/-- A wait or hold that runs out was at its last frame. -/
theorem Message.runsOut_iff (m : Message) :
    (m.countedDown.counting && decide (m.countedDown.waitLeft = 0)) = true ↔ m.counting = true ∧ m.waitLeft ≤ 1 := by
  rw [m.countedDown_counting, Bool.and_eq_true, decide_eq_true_eq]
  refine and_congr_right fun counting => ?_
  rw [Message.countedDown, if_pos counting]
  unfold Message.waitLeft
  cases m.ladder with
  | none => simp
  | some l => exact Nat.sub_eq_zero_iff_le

/-- The store at the start of frame f, every wait and hold counted down. -/
def Stn.started (s : Stn) (f : FrameNo) : Stn :=
  { s with store := { s.store with frame := f, messages := s.store.messages.map Message.countedDown } }

theorem Stn.airFrameStart_eq (s : Stn) (f : FrameNo) (order : List Serial) : s.airFrameStart f order =
    let t := (takenOrder order (s.started f).runOut).foldl Stn.endCount (s.started f)
    t.testOrder.foldl (fun s m => s.expire f m) t := rfl

section
variable {s : Stn} {f : FrameNo}

theorem Stn.runOut_started (s : Stn) (f : FrameNo) :
    (s.started f).runOut = (s.store.messages.filter fun m => m.counting && decide (m.waitLeft ≤ 1)).map (·.serial) := by
  simp only [Stn.runOut, Stn.started, List.filter_map, List.map_map]
  have serial : (fun m : Message => m.serial) ∘ Message.countedDown = fun m => m.serial :=
    funext fun m => m.countedDown_fields.1
  rw [serial]
  congr 1
  refine congrArg (List.filter · s.store.messages) (funext fun m => ?_)
  rw [Bool.eq_iff_iff, Function.comp_apply, m.runsOut_iff, Bool.and_eq_true, decide_eq_true_eq]

/-- A test that finds no message whose expiry counts leaves the station. -/
theorem foldl_expire_of_none (none : ∀ m ∈ s.store.messages,
    reached f m.expiry = false ∨ m.state = .awaitAck ∨ s.committed m = true) (serials : List Serial) :
    serials.foldl (fun s m => s.expire f m) s = s := by
  induction serials with
  | nil => rfl
  | cons serial rest ih =>
    have same : s.expire f serial = s := by
      cases found : s.msg? serial with
      | none => simp only [Stn.expire, found]
      | some m =>
        obtain rfl : m.serial = serial := Stn.msg?_serial found
        exact Stn.expire_of_not_due found (none m (List.mem_of_find?_eq_some found))
    rw [List.foldl_cons, same, ih]

theorem takenOrder_nil (given : List Serial) : takenOrder given [] = [] := by
  simp [takenOrder]

theorem takenOrder_singleton (given : List Serial) (serial : Serial) : takenOrder given [serial] = [serial] := by
  by_cases mem : serial ∈ given
  · have once : given.dedup.filter ([serial].contains ·) = [serial] := by
      have same : ([serial].contains ·) = fun x => x == serial := by
        funext x
        rw [Bool.eq_iff_iff]
        simp
      rw [same, List.filter_beq, List.count_eq_one_of_mem given.nodup_dedup (List.mem_dedup.2 mem)]
      rfl
    rw [takenOrder, once, List.filter_cons_of_neg (by simpa using mem)]
    rfl
  · have none : given.dedup.filter ([serial].contains ·) = [] := by
      refine List.filter_eq_nil_iff.2 fun x inside => ?_
      have other : x ≠ serial := fun same => mem (same ▸ List.mem_dedup.1 inside)
      simpa using other
    rw [takenOrder, none, List.filter_cons_of_pos (by simpa using mem)]
    rfl

/-- Of distinct serials a filter by one of them keeps its message alone. -/
theorem filter_of_unique {l : List Message} {m : Message} {p : Message → Bool} (serials : (l.map (·.serial)).Nodup)
    (mem : m ∈ l) (meets : p m = true) (others : ∀ x ∈ l, x.serial ≠ m.serial → p x = false) : l.filter p = [m] := by
  obtain ⟨before, after, rfl⟩ := List.append_of_mem mem
  rw [List.map_append, List.map_cons, List.nodup_middle, List.nodup_cons] at serials
  have apart : ∀ x ∈ before ++ after, x.serial ≠ m.serial := fun x inside same =>
    serials.1 (by rw [← List.map_append]; exact List.mem_map.2 ⟨x, inside, same⟩)
  have fails : ∀ x ∈ before ++ after, ¬p x = true := fun x inside =>
    Bool.eq_false_iff.1 (others x (List.perm_middle.mem_iff.2 (List.mem_cons_of_mem _ inside)) (apart x inside))
  rw [List.filter_append, List.filter_cons_of_pos meets,
    List.filter_eq_nil_iff.2 fun x inside => fails x (List.mem_append_left _ inside),
    List.filter_eq_nil_iff.2 fun x inside => fails x (List.mem_append_right _ inside)]
  rfl

/-- Of distinct serials a message is the one that its serial finds. -/
theorem Stn.msg?_of_mem {s : Stn} {m : Message} (serials : (s.store.messages.map (·.serial)).Nodup)
    (mem : m ∈ s.store.messages) : s.msg? m.serial = some m := by
  cases found : s.msg? m.serial with
  | none => exact absurd (List.find?_eq_none.1 found m mem) (by simp)
  | some x =>
    have inside := List.mem_of_find?_eq_some found
    rw [List.inj_on_of_nodup_map serials inside mem (Stn.msg?_serial found)]

/-- The end of a hold changes no validity. -/
theorem Stn.endHold_expiry (s : Stn) (serial : Serial) :
    ∀ x ∈ (s.endHold serial).store.messages, ∃ y ∈ s.store.messages, x.expiry = y.expiry := by
  intro x mem
  unfold Stn.endHold at mem
  split at mem
  next => exact ⟨x, mem, rfl⟩
  next m r found =>
    split at mem
    next => exact ⟨x, mem, rfl⟩
    next l _ =>
      have present : s.msg? serial = some m := by
        unfold Stn.msgRec? at found
        cases is : s.msg? serial with
        | none => rw [is] at found; cases found
        | some y =>
          rw [is] at found
          obtain ⟨r', -, same⟩ := Option.map_eq_some_iff.1 found
          rw [(Prod.mk.inj same).1]
      obtain rfl : m.serial = serial := Stn.msg?_serial present
      rw [Stn.readyWith_eq present] at mem
      simp only [Store.readied, Store.readyTail_messages, Store.withMsg, List.mem_map] at mem
      obtain ⟨y, inside, rfl⟩ := mem
      refine ⟨y, inside, ?_⟩
      split <;> rfl

end

/-- Settles O27: every wait counted down; the one hold that runs out ends, and no message is due. -/
theorem airFrameStartCountsEveryWait : Obligations.AirFrameStartCountsEveryWait := by
  intro s f order closed calm waits lasts counted
  have began : ({ s with stn := s.stn.started f } : State) = counted := by
    have step : (fun m : Message => m.countedDown) = fun m =>
        if m.state = .awaitAck ∨ m.state = .paused ∨ m.state = .held then
          { m with ladder := m.ladder.map fun l => { l with wait := l.wait - 1 } }
        else m := funext fun m => if_congr m.counting_iff rfl rfl
    simp only [Stn.started, counted, step]
  have endures {m : Message} (lasting : lasts m) : (m.counting && decide (m.waitLeft ≤ 1)) = false := by
    rw [← Bool.not_eq_true, Bool.and_eq_true, decide_eq_true_eq]
    rintro ⟨counting, short⟩
    obtain ⟨l, ladder, long⟩ := lasting (m.counting_iff.1 counting)
    rw [Message.waitLeft, ladder] at short
    exact absurd (Nat.le_trans long short) (by decide)
  refine ⟨fun all => ?_, fun m mem held ladder serials others young => ?_⟩
  · have none : (s.stn.started f).runOut = [] := by
      rw [Stn.runOut_started, List.filter_eq_nil_iff.2 fun m mem => Bool.eq_false_iff.1 (endures (all m mem))]
      rfl
    have untouched : ∀ m ∈ (s.stn.started f).store.messages,
        reached f m.expiry = false ∨ m.state = .awaitAck ∨ (s.stn.started f).committed m = true := by
      intro x mem
      obtain ⟨m, inside, rfl⟩ := List.mem_map.1 mem
      obtain ⟨serial, state, expiry, target, sub⟩ := m.countedDown_fields
      rw [expiry, state]
      refine (calm m inside).imp_right (Or.imp_right ?_)
      rintro ⟨loaded, t, aimed, begun⟩
      have began : reached (s.stn.started f).store.frame t = true := begun
      simp [Stn.committed, state, target, loaded, aimed, began]
    have run : s.stn.airFrameStart f order = s.stn.started f := by
      rw [Stn.airFrameStart_eq, none, takenOrder_nil]
      exact foldl_expire_of_none untouched _
    show execAirFrameStart f order s = _
    rw [execAirFrameStart, if_pos closed, run, Stn.givePlaces_of_outbox_eq (s := s.stn.started f) (before := s.stn) rfl, began]
  · obtain ⟨l, ladder, last⟩ := ladder
    have one : (s.stn.started f).runOut = [m.serial] := by
      have counting : m.counting = true := m.counting_iff.2 (.inr (.inr held))
      have short : m.waitLeft ≤ 1 := by rw [Message.waitLeft, ladder]; exact last.le
      rw [Stn.runOut_started, filter_of_unique serials mem (by rw [counting, decide_eq_true short]; rfl)
        fun x inside other => endures (others x inside other)]
      rfl
    have found : (s.stn.started f).msg? m.serial = some m.countedDown := by
      have same : (fun x : Message => decide (x.serial = m.serial)) ∘ Message.countedDown =
          fun x => decide (x.serial = m.serial) :=
        funext fun x => congrArg (fun serial => decide (serial = m.serial)) x.countedDown_fields.1
      have present := Stn.msg?_of_mem serials mem
      rw [Stn.msg?] at present
      rw [Stn.msg?, Stn.started, List.find?_map, same, present]
      rfl
    have ended : (s.stn.started f).endCount m.serial = (s.stn.started f).endHold m.serial := by
      have state : m.countedDown.state = .held := m.countedDown_fields.2.1.trans held
      simp only [Stn.endCount, found, state]
    have untouched : ∀ x ∈ ((s.stn.started f).endHold m.serial).store.messages,
        reached f x.expiry = false ∨ x.state = .awaitAck ∨ ((s.stn.started f).endHold m.serial).committed x = true := by
      intro x inside
      obtain ⟨y, there, expiry⟩ := Stn.endHold_expiry _ _ x inside
      obtain ⟨z, stored, rfl⟩ := List.mem_map.1 there
      exact .inl (by rw [expiry, z.countedDown_fields.2.2.1]; exact young z stored)
    have run : s.stn.airFrameStart f order = (s.stn.started f).endHold m.serial := by
      rw [Stn.airFrameStart_eq, one, takenOrder_singleton]
      simp only [List.foldl_cons, List.foldl_nil, ended]
      exact foldl_expire_of_none untouched _
    have due : m.countedDown.state = .held ∧ m.countedDown.waitLeft ≤ 1 := by
      refine ⟨m.countedDown_fields.2.1.trans held, ?_⟩
      rw [Message.countedDown, if_pos (m.counting_iff.2 (.inr (.inr held))), Message.waitLeft, ladder]
      exact (Nat.sub_le _ _).trans last.le
    rw [← began]
    show execAirFrameStart f order s = execHoldEnd m.serial { s with stn := s.stn.started f }
    rw [execAirFrameStart, if_pos closed, run, Stn.givePlaces_of_outbox_eq (by simp [Stn.started])]
    simp only [execHoldEnd, found, if_pos due]

end Sys2Proof.Machine
end


section
/-!
RESULT. Owed notices (R107, R170) and the completion of a page (R113, R134, R154).
-/

namespace Sys2Proof.Machine

/-! ### Owed notices -/

theorem Stn.rec?_of_mem {s : Stn} (unique : ActiveUnique s) {r : Record} (mem : r ∈ s.subs.active) :
    s.rec? r.admin.sub = some r := by
  cases found : s.rec? r.admin.sub with
  | none => exact absurd (List.find?_eq_none.1 found r mem) (by simp)
  | some x => rw [unique.eq_of_mem found mem rfl]

theorem Stn.createNotice_of_no_room {s : Stn} (none : ¬s.hasRoom s.img.notice = true) (sub : Nat) :
    s.createNotice sub = .none := if_neg none

theorem Stn.createNotice_of_room {s : Stn} (room : s.hasRoom s.img.notice = true) (sub : Nat) :
    s.createNotice sub = some (s.acceptMessage sub .normal .notice s.img.notice 0) := if_pos room

theorem Stn.offerOwed_of_no_room {s : Stn} (none : ¬s.hasRoom s.img.notice = true) (subs : List Nat) :
    Stn.offerOwed subs s = s := by
  cases subs with
  | nil => rfl
  | cons sub rest => simp only [Stn.offerOwed, Stn.createNotice_of_no_room none]

/-- Settles O30: the first notice offered is the only one, or finds no room. -/
theorem owedNoticesAreOffered : Obligations.OwedNoticesAreOffered := by
  intro s closed some body room serial owed
  have offers : exec .owedNoticeOffers s = .next { s with stn := Stn.offerOwed (owed.map (·.admin.sub)) s.stn } :=
    congrArg Host.Outcome.next (if_pos closed)
  have hasRoom : s.stn.hasRoom body = true ↔ room := by
    rw [Stn.hasRoom_iff]
    refine and_congr_right fun _ => or_iff_right fun zero => ?_
    have segments : (body.length + 39) / 40 = 0 := zero
    have pos : 1 ≤ body.length := some
    omega
  refine ⟨fun none => ?_, fun full => ?_, fun r one free empty unique fresh => ?_⟩
  · rw [offers, none]
    rfl
  · rw [offers, Stn.offerOwed_of_no_room (mt hasRoom.1 full)]
  · intro m
    have mem : r ∈ s.stn.subs.active := List.mem_of_mem_filter (show r ∈ owed by rw [one]; exact List.mem_singleton_self r)
    have found := Stn.rec?_of_mem unique mem
    have created := Stn.createNotice_of_room (hasRoom.2 free) r.admin.sub
    rw [Stn.acceptMessage_of_empty found empty .normal .notice _ 0 fresh] at created
    rw [offers, one]
    simp only [List.map_cons, List.map_nil, Stn.offerOwed, created, Stn.updMeter_eq_withRec]
    rw [Subscribers.withRec_withRec]
    · rfl
    · exact fun _ => rfl

/-! ### The completion of a page -/

/-- The station without the page, whose slots are no longer driven. -/
def Stn.withoutPage (s : Stn) (p : Page) (serial : Serial) : Stn :=
  { s with
    air.buffer := s.air.buffer.filter fun q => decide (q.message ≠ serial),
    air.feed := s.air.feed.filter fun x => decide (x.slot.val + 1 ≠ p.first + p.slots) }

/-- The message whose transmission has been counted (R113). -/
def Message.transmitted (m : Message) : Message := { m with transmissions := m.transmissions + 1, target := none }

/-- The station with that message. -/
def Stn.transmitted (s : Stn) (p : Page) (serial : Serial) : Stn :=
  { s.withoutPage p serial with store := s.store.withMsg serial Message.transmitted }

/-- The final outcome that a pending outcome stands for. -/
def PendingOutcome.outcome : PendingOutcome → Outcome
  | .cancel => .cancelled
  | .delivered => .delivered

/-- A change of the elements with key k is lost where they are removed. -/
theorem filter_map_of_key {α β : Type} [DecidableEq β] {key : α → β} {k : β} {f : α → α} (keeps : ∀ x, key (f x) = key x)
    (l : List α) : ((l.map fun x => if key x = k then f x else x).filter fun x => decide (key x ≠ k)) =
      l.filter fun x => decide (key x ≠ k) := by
  induction l with
  | nil => rfl
  | cons x rest ih => by_cases same : key x = k <;> simpa [same, keeps] using ih

section
variable {s : State} {p : Page} {m : Message}

theorem exec_pageCompletion (page : s.stn.air.buffer.find? (fun q => decide (q.message = m.serial)) = some p)
    (complete : p.committed = true ∧ (p.slots ≤ p.sent ∨ p.target ≠ s.stn.air.frame)) {t : Stn}
    (left : (s.stn.withoutPage p m.serial).complete m.serial = t) (outbox : t.bus.outbox = s.stn.bus.outbox) :
    exec (.pageCompletion m.serial) s = .next { s with stn := t } := by
  have removed : (s.stn.endRun p).completePage m.serial = t := left
  show execPageCompletion m.serial s = _
  simp only [execPageCompletion, page, if_pos complete, removed]
  rw [Stn.givePlaces_of_outbox_eq outbox]

end

section
variable {s : Stn} {p : Page} {m : Message} {r : Record} {l : Ladder}

theorem Stn.complete_of_pending (found : s.msg? m.serial = some m) {o : PendingOutcome} {final : Outcome}
    (pending : m.pending = some o) (is : o.outcome = final) :
    (s.withoutPage p m.serial).complete m.serial = (s.transmitted p m.serial).finalOutcome m.serial
      final := by
  subst is
  have here : (s.withoutPage p m.serial).msg? m.serial = some m := found
  simp only [Stn.complete, here, pending, Stn.updMsg_eq_withMsg]
  cases o <;> rfl

theorem Stn.complete_of_none (found : s.msg? m.serial = some m) (none : m.pending = .none) :
    (s.withoutPage p m.serial).complete m.serial = (s.transmitted p m.serial).advance m.serial := by
  have here : (s.withoutPage p m.serial).msg? m.serial = some m := found
  simp only [Stn.complete, here, none, Stn.updMsg_eq_withMsg]
  rfl

theorem Stn.transmitted_msg? (found : s.msg? m.serial = some m) :
    (s.transmitted p m.serial).msg? m.serial = some m.transmitted :=
  msg?_withMsg (s := s.withoutPage p m.serial) (fun _ => rfl) found

theorem Ladder.isLast_iff (l : Ladder) (p : Plan) :
    l.isLast p = true ↔ l.inner ≤ 1 ∧ p.endsRound l.step ∧ l.outer ≤ 1 := by
  simp [Ladder.isLast, Plan.lastOfRound, Plan.endsRound, and_assoc]

/-- The ladder where a transmission that is not the last leaves it (R154). -/
theorem Stn.advance_of_wait (found : s.msg? m.serial = some m) (record : s.rec? m.sub = some r)
    (ladder : m.ladder = some l) {st : MsgState}
    (waits : r.admin.pagerClass = .twoWay ∧ st = .awaitAck ∨
      r.admin.pagerClass ≠ .twoWay ∧ ¬(l.within (s.planOf r)).isLast (s.planOf r) = true ∧ st = .paused) :
    (s.transmitted p m.serial).advance m.serial = { s.withoutPage p m.serial with
      store := s.store.withMsg m.serial fun x => { x with
        transmissions := x.transmissions + 1, target := none, state := st,
        ladder := some { l.within (s.planOf r) with
          wait := ((s.planOf r).stepAt (l.within (s.planOf r)).step).gap } } } := by
  have both : (s.transmitted p m.serial).msgRec? m.serial = some (m.transmitted, r) :=
    Stn.msgRec?_eq (m := m.transmitted) (Stn.transmitted_msg? found) record
  have ladder' : m.transmitted.ladder = some l := ladder
  have plan : (s.transmitted p m.serial).planOf r = s.planOf r := rfl
  have merged (g : Message → Message) : (s.transmitted p m.serial).updMsg m.serial g =
      { s.withoutPage p m.serial with store := s.store.withMsg m.serial fun x => g x.transmitted } := by
    rw [Stn.updMsg_eq_withMsg, Stn.transmitted, Store.withMsg_withMsg]
    exact fun _ => rfl
  simp only [Stn.advance, both, ladder', plan]
  obtain ⟨twoWay, rfl⟩ | ⟨plain, notLast, rfl⟩ := waits
  · rw [if_pos twoWay, merged]
    rfl
  · rw [if_neg plain, if_neg notLast, merged]
    rfl

theorem Stn.advance_of_last (found : s.msg? m.serial = some m) (record : s.rec? m.sub = some r)
    (ladder : m.ladder = some l) (plain : r.admin.pagerClass ≠ .twoWay)
    (last : (l.within (s.planOf r)).isLast (s.planOf r) = true) :
    (s.transmitted p m.serial).advance m.serial = (s.transmitted p m.serial).finalOutcome m.serial .unconfirmed := by
  have both : (s.transmitted p m.serial).msgRec? m.serial = some (m.transmitted, r) :=
    Stn.msgRec?_eq (m := m.transmitted) (Stn.transmitted_msg? found) record
  have ladder' : m.transmitted.ladder = some l := ladder
  have plan : (s.transmitted p m.serial).planOf r = s.planOf r := rfl
  simp only [Stn.advance, both, ladder', plan]
  rw [if_neg plain, if_pos last]

/-- The final outcome of a message whose last transmission has just been counted. -/
theorem Stn.finalOutcome_transmitted {o : Outcome} (ends : EndsPlainly s m r o) (loaded : m.state = .loaded)
    (below : r.meter.current + m.transmitted.charge (s.tariffOf r).fee o ≤ Config.unitLimit) :
    (s.transmitted p m.serial).finalOutcome m.serial o = { s.ended m.transmitted r o with
      air.feed := s.air.feed.filter fun x => decide (x.slot.val + 1 ≠ p.first + p.slots) } := by
  obtain ⟨⟨unique, present, record, notDue, -, alone⟩, none⟩ := ends
  have there : EndsPlainly (s.transmitted p m.serial) m.transmitted r o :=
    ⟨⟨unique, Stn.transmitted_msg? present, record, notDue, below, alone⟩, none⟩
  refine (Stn.finalOutcome_of_endsPlainly there).trans ?_
  have state : m.transmitted.state = .loaded := loaded
  have gone : (s.store.withMsg m.serial Message.transmitted).messages.filter
      (fun x => decide (x.serial ≠ m.serial)) = s.store.messages.filter fun x => decide (x.serial ≠ m.serial) :=
    filter_map_of_key (key := Message.serial) (f := Message.transmitted) (fun _ => rfl) s.store.messages
  have removed : (s.withoutPage p m.serial).air.buffer.filter (fun q => decide (q.message ≠ m.serial)) =
      s.air.buffer.filter fun q => decide (q.message ≠ m.serial) := by
    rw [Stn.withoutPage, List.filter_filter]
    simp
  have serial : m.transmitted.serial = m.serial := rfl
  simp only [Stn.ended, Stn.landed, state, serial, Stn.transmitted, gone, removed]
  rfl

end

/-- Settles O31: by the pending outcome, the pager class and the ladder. -/
theorem pageCompletionAdvancesTheMessage : Obligations.PageCompletionAdvancesTheMessage := by
  intro s p m r l0 page found record ladder loaded i complete plan l sent last feed waiting ends
  have lastly : (l0.within (s.stn.planOf r)).isLast (s.stn.planOf r) = true ↔ last := Ladder.isLast_iff _ _
  have waits {st : MsgState} (whole : complete) (none : m.pending = none)
      (stays : r.admin.pagerClass = .twoWay ∧ st = .awaitAck ∨ r.admin.pagerClass ≠ .twoWay ∧ ¬last ∧ st = .paused) :
      exec i s = .next (waiting st) := by
    have stays' := stays.imp_right fun h => And.imp_right (And.imp_left (mt lastly.1)) h
    exact exec_pageCompletion page whole
      ((Stn.complete_of_none found none).trans (Stn.advance_of_wait found record ladder stays')) rfl
  have finishes {o : Outcome} (whole : complete)
      (final : (s.stn.withoutPage p m.serial).complete m.serial = (s.stn.transmitted p m.serial).finalOutcome m.serial o) :
      ends o := fun plainly below =>
    exec_pageCompletion page whole (final.trans (Stn.finalOutcome_transmitted plainly loaded below)) (by simp [Stn.ended])
  refine ⟨fun part => ?_, fun whole none twoWay => ?_, fun whole none plain notLast => ?_,
    fun whole none plain isLast => ?_, fun whole cancel => ?_, fun whole delivered => ?_⟩
  · show execPageCompletion m.serial s = _
    simp only [execPageCompletion, page]
    rw [if_neg part]
  · exact waits whole none (.inl ⟨twoWay, rfl⟩)
  · exact waits whole none (.inr ⟨plain, notLast, rfl⟩)
  · exact finishes whole ((Stn.complete_of_none found none).trans
      (Stn.advance_of_last found record ladder plain (lastly.2 isLast)))
  · exact finishes whole (Stn.complete_of_pending found cancel rfl)
  · exact finishes whole (Stn.complete_of_pending found delivered rfl)

end Sys2Proof.Machine
end


section
/-!
RESULT. The blocks of a body (R104), the slot run of a map (R130) and the pages of its close (R131).
-/

namespace Sys2Proof.Machine

/-! ### Blocks -/

theorem cutBlocks_cons (fuel : Nat) (b : Byte) (bs : List Byte) : cutBlocks (fuel + 1) (b :: bs) =
    (b :: bs).take 40 :: cutBlocks fuel ((b :: bs).drop 40) := rfl

/-- What a cut of a body with enough fuel gives: the body, in blocks of 40 but for the last, in their order. -/
theorem cutBlocks_spec {fuel : Nat} {body : List Byte} (enough : body.length ≤ fuel) :
    (cutBlocks fuel body).flatten = body ∧ (cutBlocks fuel body).length = (body.length + 39) / 40 ∧
      ∀ (i : Nat) (b : List Byte), (cutBlocks fuel body)[i]? = some b →
        b = (body.drop (40 * i)).take 40 ∧ 1 ≤ b.length := by
  induction fuel generalizing body with
  | zero =>
    obtain rfl : body = [] := List.length_eq_zero_iff.1 (Nat.le_zero.1 enough)
    exact ⟨rfl, rfl, fun i b is => by cases is⟩
  | succ fuel ih =>
    cases body with
    | nil => exact ⟨rfl, rfl, fun i b is => by cases is⟩
    | cons x xs =>
      obtain ⟨flat, length, blocks⟩ := ih (body := (x :: xs).drop 40) (by simp at enough ⊢; omega)
      rw [cutBlocks_cons]
      refine ⟨?_, ?_, fun i b is => ?_⟩
      · rw [List.flatten_cons, flat, List.take_append_drop]
      · rw [List.length_cons, length, List.length_drop]
        simp only [List.length_cons]
        omega
      · cases i with
        | zero =>
          obtain rfl : (x :: xs).take 40 = b := Option.some.inj is
          exact ⟨by simp, by simp⟩
        | succ i =>
          obtain ⟨block, some⟩ := blocks i b is
          refine ⟨?_, some⟩
          rw [block, List.drop_drop, Nat.mul_succ, Nat.add_comm]

/-! ### Slot runs (R130) -/

/-- The slots that claims take. -/
def slotsUsed (l : List (Nat × Station × Claim)) : Nat := (l.map (·.2.2.slots)).sum

/-- The slot run of claims that fit. -/
def slotRun (l : List (Nat × Station × Claim)) : List (Option SlotOwner) :=
  l.flatMap fun x => List.replicate x.2.2.slots (some ⟨x.2.1, x.2.2.number, x.2.2.urgent⟩)

theorem mapSlots_eq (l : List (Nat × Station × Claim)) :
    mapSlots l = slotRun l ++ List.replicate (32 - (slotRun l).length) none := rfl

theorem length_slotRun (l : List (Nat × Station × Claim)) : (slotRun l).length = slotsUsed l := by
  simp [slotRun, slotsUsed, List.length_flatMap]

theorem assignSlots_cons (n : Nat) (k : Station) (c : Claim) (rest : List (Station × Claim)) :
    assignSlots n ((k, c) :: rest) =
      if n + c.slots ≤ 32 then (n, k, c) :: assignSlots (n + c.slots) rest else assignSlots n rest := rfl

theorem assignSlots_append (n : Nat) (before after : List (Station × Claim)) : assignSlots n (before ++ after) =
    assignSlots n before ++ assignSlots (n + slotsUsed (assignSlots n before)) after := by
  induction before generalizing n with
  | nil => rfl
  | cons x rest ih =>
    obtain ⟨k, c⟩ := x
    rw [List.cons_append, assignSlots_cons, assignSlots_cons]
    split
    · rw [ih, List.cons_append]
      simp [slotsUsed, Nat.add_assoc]
    · exact ih n

/-- The claims that fit pass no slot behind 31. -/
theorem slotsUsed_assignSlots {n : Nat} (within : n ≤ 32) (claims : List (Station × Claim)) :
    n + slotsUsed (assignSlots n claims) ≤ 32 := by
  induction claims generalizing n with
  | nil => exact within
  | cons x rest ih =>
    obtain ⟨k, c⟩ := x
    rw [assignSlots_cons]
    split
    next fits =>
      have more := ih fits
      simp only [slotsUsed, List.map_cons, List.sum_cons] at more ⊢
      omega
    next => exact ih within

/-- Each claim's slots stand in the run where the assignment says. -/
theorem slotRun_assignSlots (n : Nat) (claims : List (Station × Claim)) :
    ∀ x ∈ assignSlots n claims, ∀ i < x.2.2.slots, ∃ j, x.1 = n + j ∧
      (slotRun (assignSlots n claims))[j + i]? = some (some ⟨x.2.1, x.2.2.number, x.2.2.urgent⟩) := by
  induction claims generalizing n with
  | nil => nofun
  | cons y rest ih =>
    obtain ⟨k, c⟩ := y
    rw [assignSlots_cons]
    split
    next fits =>
      have run : slotRun ((n, k, c) :: assignSlots (n + c.slots) rest) =
          List.replicate c.slots (some ⟨k, c.number, c.urgent⟩) ++ slotRun (assignSlots (n + c.slots) rest) := rfl
      intro x mem i inside
      rw [run]
      obtain rfl | mem := List.mem_cons.1 mem
      · refine ⟨0, rfl, ?_⟩
        rw [Nat.zero_add, List.getElem?_append_left (by simpa using inside), List.getElem?_replicate, if_pos inside]
      · obtain ⟨j, first, slot⟩ := ih (n + c.slots) x mem i inside
        refine ⟨c.slots + j, by omega, ?_⟩
        rw [List.getElem?_append_right (by simp; omega), List.length_replicate, Nat.add_assoc, Nat.add_sub_cancel_left]
        exact slot
    next => exact ih n

/-! ### The order of the claims -/

theorem mem_rotated (roster : StationSet) (t : FrameNo) (k : Station) : k ∈ rotated roster t ↔ inSet roster k = true := by
  rw [rotated, List.mem_filter, List.mem_map]
  exact and_iff_right ⟨k - Fin.ofNat 16 t.toNat, List.mem_finRange _, by abel⟩

/-- The place of a station in the order of a frame. -/
def placeIn (t : FrameNo) (k : Station) : Nat := (k.val + 16 - t.toNat % 16) % 16

theorem placeIn_add (t : FrameNo) (i : Station) : placeIn t (Fin.ofNat 16 t.toNat + i) = i.val := by
  have value : (Fin.ofNat 16 t.toNat + i).val = (t.toNat % 16 + i.val) % 16 := rfl
  have small := i.isLt
  rw [placeIn, value]
  omega

theorem rotated_pairwise (roster : StationSet) (t : FrameNo) :
    (rotated roster t).Pairwise fun a b => placeIn t a < placeIn t b := by
  refine List.Pairwise.filter _ (List.pairwise_map.2 ?_)
  simp only [placeIn_add]
  exact List.pairwise_lt_finRange 16

/-- Every claim with its station, in the rotated order of the stations. -/
def Stn.stationClaims (s : Stn) (t : FrameNo) : List (Station × Claim) :=
  (rotated s.img.roster t).flatMap fun k => (s.claimsOf k).map fun c => (k, c)

theorem Stn.claimOrder_eq (s : Stn) (t : FrameNo) : s.claimOrder t =
    ((s.stationClaims t).filter fun x => x.2.urgent) ++ (s.stationClaims t).filter fun x => !x.2.urgent := rfl

theorem Stn.mem_stationClaims {s : Stn} {t : FrameNo} {k : Station} {c : Claim} :
    (k, c) ∈ s.stationClaims t ↔ inSet s.img.roster k = true ∧ c ∈ s.claimsOf k := by
  simp [Stn.stationClaims, mem_rotated]

theorem Stn.mem_claimOrder {s : Stn} {t : FrameNo} {k : Station} {c : Claim} :
    (k, c) ∈ s.claimOrder t ↔ inSet s.img.roster k = true ∧ c ∈ s.claimsOf k := by
  rw [s.claimOrder_eq, ← Stn.mem_stationClaims (t := t)]
  cases urgent : c.urgent <;> simp [urgent]

theorem Stn.stationClaims_pairwise {s : Stn} (numbered : ∀ k, (s.claimsOf k).Pairwise fun c d => c.number < d.number)
    (t : FrameNo) : (s.stationClaims t).Pairwise fun x y =>
      placeIn t x.1 < placeIn t y.1 ∨ x.1 = y.1 ∧ x.2.number < y.2.number := by
  rw [Stn.stationClaims, List.pairwise_flatMap]
  refine ⟨fun k _ => List.pairwise_map.2 ((numbered k).imp fun less => .inr ⟨rfl, less⟩), ?_⟩
  refine (rotated_pairwise s.img.roster t).imp fun less x hx y hy => .inl ?_
  obtain ⟨c, -, rfl⟩ := List.mem_map.1 hx
  obtain ⟨d, -, rfl⟩ := List.mem_map.1 hy
  exact less

/-- URGENT claims first, then by station from the number of the frame on, then by claim number. -/
theorem Stn.claimOrder_pairwise {s : Stn} (numbered : ∀ k, (s.claimsOf k).Pairwise fun c d => c.number < d.number)
    (t : FrameNo) : (s.claimOrder t).Pairwise fun x y =>
      x.2.urgent = true ∧ y.2.urgent = false ∨
        x.2.urgent = y.2.urgent ∧ (placeIn t x.1 < placeIn t y.1 ∨ x.1 = y.1 ∧ x.2.number < y.2.number) := by
  have ordered := Stn.stationClaims_pairwise numbered t
  rw [s.claimOrder_eq, List.pairwise_append]
  refine ⟨?_, ?_, fun x hx y hy => .inl ?_⟩
  · refine List.Pairwise.imp_of_mem (fun hx hy less => .inr ⟨?_, less⟩) (ordered.filter _)
    exact (List.mem_filter.1 hx).2.trans (List.mem_filter.1 hy).2.symm
  · refine List.Pairwise.imp_of_mem (fun hx hy less => .inr ⟨?_, less⟩) (ordered.filter _)
    have first : (!_) = true := (List.mem_filter.1 hx).2
    have second : (!_) = true := (List.mem_filter.1 hy).2
    exact Bool.not_inj (first.trans second.symm)
  · have second : (!y.2.urgent) = true := (List.mem_filter.1 hy).2
    exact ⟨(List.mem_filter.1 hx).2, by simpa using second⟩

/-! ### The pages of a close (R131) -/

theorem length_insertPage (p : Page) (buffer : List Page) : (insertPage p buffer).length ≤ buffer.length + 1 := by
  have parts := List.length_eq_length_filter_add (l := buffer) fun q => decide (q.target = p.target)
  have others : (buffer.filter fun q => decide (q.target ≠ p.target)) =
      buffer.filter fun q => !decide (q.target = p.target) := by simp
  rw [insertPage, List.length_append, length_insertBy, others]
  omega

theorem Stn.applyClaim_buffer (t : FrameNo) (fit : List (Nat × Station × Claim)) (s : Stn) (c : Claim) :
    (Stn.applyClaim t fit s c).air.buffer.length ≤ s.air.buffer.length + 1 := by
  unfold Stn.applyClaim
  split
  next first serial _ _ =>
    unfold Stn.loadPage
    split
    next => exact Nat.le_succ _
    next => exact length_insertPage _ _
  next => exact Nat.le_succ _
  next => exact Nat.le_succ _

theorem foldl_applyClaim_buffer (t : FrameNo) (fit : List (Nat × Station × Claim)) (claims : List Claim) (s : Stn) :
    (claims.foldl (Stn.applyClaim t fit) s).air.buffer.length ≤ s.air.buffer.length + claims.length := by
  induction claims generalizing s with
  | nil => exact le_rfl
  | cons c rest ih =>
    have first := Stn.applyClaim_buffer t fit s c
    have others := ih (Stn.applyClaim t fit s c)
    rw [List.foldl_cons, List.length_cons]
    omega

theorem Stn.closeMap_buffer (s : Stn) (f : FrameNo) :
    (s.closeMap f).air.buffer.length ≤ s.air.buffer.length + s.air.claims.length := by
  have emptied (t : Stn) : t.emptyClaims.air.buffer = t.air.buffer := rfl
  rw [Stn.closeMap, emptied]
  split
  · have kept : (s.voidClaims (f + 2)).air.buffer = s.air.buffer := by
      rw [Stn.voidClaims, (Stn.returnToFront_frame _ _).2.2.2.2.1, Stn.abstainFrom]
      split <;> rfl
    rw [kept]
    exact Nat.le_add_right _ _
  · rw [Stn.applyMap, (Stn.returnToFront_frame _ _).2.2.2.2.1]
    exact foldl_applyClaim_buffer _ _ _ _

/-- Settles O25: the cut of a body by `cutBlocks_spec`, the slot run by the lemmas of `assignSlots`, and the order of
the claims by `Stn.claimOrder_pairwise`. -/
theorem blocksAndSlotRunsAreContiguous : Obligations.BlocksAndSlotRunsAreContiguous := by
  refine ⟨fun body => cutBlocks_spec le_rfl, fun claims => ?_, fun s t => ⟨fun k c => Stn.mem_claimOrder, ?_⟩,
    fun s f => s.closeMap_buffer f⟩
  · intro fit used
    have few : slotsUsed fit ≤ 32 := by simpa using slotsUsed_assignSlots (Nat.zero_le 32) claims
    refine ⟨?_, fun x mem i inside => ?_, fun i behind inside => ?_, fun before after k c split => ?_⟩
    · rw [mapSlots_eq, List.length_append, List.length_replicate, length_slotRun]
      omega
    · obtain ⟨j, first, slot⟩ := slotRun_assignSlots 0 claims x mem i inside
      have place : x.1 + i = j + i := by omega
      have short : j + i < (slotRun fit).length := (List.getElem?_eq_some_iff.1 slot).1
      rw [mapSlots_eq, place, List.getElem?_append_left short]
      exact slot
    · have behind' : (slotRun fit).length ≤ i := (length_slotRun fit).trans_le behind
      rw [mapSlots_eq, List.getElem?_append_right behind', List.getElem?_replicate, if_pos (by rw [length_slotRun] at *; omega)]
    · intro n
      have whole : fit = assignSlots 0 before ++ assignSlots n ((k, c) :: after) := by
        rw [show fit = assignSlots 0 claims from rfl, split, assignSlots_append, Nat.zero_add]
        rfl
      rw [whole, assignSlots_cons]
  · intro place numbered
    exact Stn.claimOrder_pairwise numbered t

end Sys2Proof.Machine
end


section
/-!
RESULT. The billing port and the blocks of the drain walk (R18, R54, R167, R178 to R186).
-/

namespace Sys2Proof.Machine

/-! ### The scale and the fields of a block (R182) -/

theorem fitsScale_iff (k : Nat) (es : List FormEntry) :
    fitsScale k es = true ↔ ∀ e ∈ es, e.total / 16 ^ k ≤ 65535 := by
  simp [fitsScale]

/-- The scale is the least that fits, or 3. -/
theorem scaleOf_spec (es : List FormEntry) : scaleOf es ≤ 3 ∧ (∀ j < scaleOf es, fitsScale j es = false) ∧
    (scaleOf es < 3 → fitsScale (scaleOf es) es = true) := by
  have below {j k : Nat} (less : j < k) (small : k ≤ 3) : j = 0 ∨ j = 1 ∨ j = 2 := by omega
  unfold scaleOf
  split
  next fits => exact ⟨by decide, fun j less => absurd less (Nat.not_lt_zero j), fun _ => fits⟩
  next no0 =>
    split
    next fits =>
      refine ⟨by decide, fun j less => ?_, fun _ => fits⟩
      obtain rfl : j = 0 := Nat.lt_one_iff.1 less
      exact Bool.eq_false_iff.2 no0
    next no1 =>
      split
      next fits =>
        refine ⟨by decide, fun j less => ?_, fun _ => fits⟩
        obtain rfl | rfl : j = 0 ∨ j = 1 := by omega
        · exact Bool.eq_false_iff.2 no0
        · exact Bool.eq_false_iff.2 no1
      next no2 =>
        refine ⟨by decide, fun j less => ?_, fun less => absurd less (by decide)⟩
        obtain rfl | rfl | rfl := below less (by decide)
        · exact Bool.eq_false_iff.2 no0
        · exact Bool.eq_false_iff.2 no1
        · exact Bool.eq_false_iff.2 no2

theorem isLimited_iff (k total : Nat) : isLimited k total = true ↔ 65535 < total / 16 ^ k := decide_eq_true_iff

theorem remainderOf_lt {k total : Nat} (fits : isLimited k total = false) : remainderOf k total < 16 ^ k := by
  have small : total / 16 ^ k ≤ 65535 := Nat.not_lt.1 (of_decide_eq_false fits)
  have positive : 0 < 16 ^ k := Nat.pow_pos (by decide)
  have split := Nat.div_add_mod' total (16 ^ k)
  have less := Nat.mod_lt total positive
  rw [remainderOf, fieldOf, Nat.min_eq_left small]
  omega

theorem scaleOf_of_small {es : List FormEntry} (small : ∀ e ∈ es, e.total ≤ 65535) : scaleOf es = 0 := by
  have fits : fitsScale 0 es = true := (fitsScale_iff 0 es).2 fun e mem => by simpa using small e mem
  rw [scaleOf, if_pos fits]

theorem fieldOf_zero {total : Nat} (small : total ≤ 65535) : fieldOf 0 total = total := by
  simpa [fieldOf] using small

theorem remainderOf_zero {total : Nat} (small : total ≤ 65535) : remainderOf 0 total = 0 := by
  simp [remainderOf, fieldOf_zero small]

theorem isLimited_zero {total : Nat} (small : total ≤ 65535) : isLimited 0 total = false := by
  simpa [isLimited] using small

/-! ### The entries of a block are settled (R182) -/

section
variable {s : Stn} {e : FormEntry} {x : Record}

/-- The remainder of an entry goes to the record's carry units. -/
theorem Stn.settleEntry_of_found (found : s.rec? e.sub = some x) (scale : Nat) :
    Stn.settleEntry scale s e = { s with
      subs := s.subs.withRec e.sub fun y => { y with meter := { y.meter with
        carry := (addCapped Config.carryLimit x.meter.carry (remainderOf scale e.total)).1,
        limit := y.meter.limit || isLimited scale e.total } },
      meter := { s.meter with
        billed := s.meter.billed + units (fieldOf scale e.total * 16 ^ scale),
        unmetered := s.meter.unmetered +
          units (addCapped Config.carryLimit x.meter.carry (remainderOf scale e.total)).2 },
      bill.entriesLimited :=
        if isLimited scale e.total then satInc s.bill.entriesLimited else s.bill.entriesLimited } := by
  simp only [Stn.settleEntry, found, Stn.updMeter_eq_withRec]
  rfl

/-- An entry without remainder changes the billed total only. -/
theorem Stn.settleEntry_of_plain (unique : ActiveUnique s) (within : ∀ y ∈ s.subs.active, y.meter.carry ≤ Config.carryLimit)
    (small : e.total ≤ 65535) :
    Stn.settleEntry 0 s e = { s with meter.billed := s.meter.billed + units e.total } := by
  have nothing : s.meter.unmetered + units 0 = s.meter.unmetered := by simp [units]
  cases found : s.rec? e.sub with
  | none =>
    rw [Stn.settleEntry_of_absent found, fieldOf_zero small, remainderOf_zero small, isLimited_zero small, nothing,
      pow_zero, Nat.mul_one]
    rfl
  | some x =>
    have capped : addCapped Config.carryLimit x.meter.carry 0 = (x.meter.carry, 0) :=
      if_pos (within x (List.mem_of_find?_eq_some found))
    rw [Stn.settleEntry_of_found found, fieldOf_zero small, remainderOf_zero small, isLimited_zero small, capped, nothing,
      pow_zero, Nat.mul_one, Subscribers.withRec_eq_self unique found (by simp)]
    rfl

theorem foldl_settleEntry_of_plain {es : List FormEntry} (plain : FormsPlainly s es) :
    es.foldl (Stn.settleEntry 0) s = { s with meter.billed := s.meter.billed + units (es.map (·.total)).sum } := by
  obtain ⟨small, within, unique⟩ := plain
  induction es generalizing s with
  | nil => simp [units]
  | cons e es ih =>
    rw [List.foldl_cons, Stn.settleEntry_of_plain unique within (small e List.mem_cons_self)]
    refine (ih (s := { s with meter.billed := s.meter.billed + units e.total })
      (fun x mem => small x (List.mem_cons_of_mem _ mem)) within unique).trans ?_
    simp only [List.map_cons, List.sum_cons, units_add, BitVec.add_assoc]

theorem FormEntry.toBlock_zero (small : e.total ≤ 65535) : e.toBlock 0 =
    { sub := e.sub, field := BitVec.ofNat 16 e.total, limited := false, adopted := e.adopted, final := e.final } := by
  rw [FormEntry.toBlock, fieldOf_zero small, isLimited_zero small]

/-- The walk's block of plain entries. -/
theorem Stn.formWalkBlock_of_plain (plain : FormsPlainly s s.bill.forming) :
    s.formWalkBlock = s.formed s.bill.forming s.bill.queue := by
  have entries : s.bill.forming.map (FormEntry.toBlock 0) = s.bill.forming.map fun e =>
      { sub := e.sub, field := BitVec.ofNat 16 e.total, limited := false, adopted := e.adopted, final := e.final } :=
    List.map_congr_left fun e mem => FormEntry.toBlock_zero (plain.1 e mem)
  simp only [Stn.formWalkBlock, Stn.formBlock, scaleOf_of_small plain.1, foldl_settleEntry_of_plain plain,
    Stn.numberBlock_eq, entries]
  rfl

end

/-! ### The grant is released (R18, R54, R178) -/

theorem Stn.startReturn_eq (s : Stn) : s.startReturn = { s with subs := s.subs.returning s.ward } := by
  have marked : updWhere (fun r => decide (r.origin = .adopted ∧ r.home = s.ward)) (fun r => { r with returning := true })
      s.subs.active = s.subs.active.map fun r =>
        if r.origin = .adopted ∧ r.home = s.ward then { r with returning := true } else r := updWhere_decide _ _
  have first (l : List Record) : (nextAbove (·.admin.sub) (·.returning) none l).isNone = !l.any (·.returning) := by
    rw [Bool.eq_iff_iff]
    simp [nextAbove]
  unfold Stn.startReturn
  simp only [marked, Stn.advanceReturn, Stn.anyReturning, Stn.nextReturning, first, Subscribers.returning]
  generalize s.subs.active.map (fun r => if r.origin = .adopted ∧ r.home = s.ward then { r with returning := true } else r)
    = active
  cases active.any (·.returning) <;> rfl

theorem Stn.releaseGrant_eq (s : Stn) : s.releaseGrant = s.released := by
  unfold Stn.releaseGrant Stn.released
  cases ret : s.subs.ret with
  | waiting => exact s.startReturn_eq
  | idle => cases s.bill.pendingClose <;> rfl
  | running phase pos => cases s.bill.pendingClose <;> rfl

theorem Stn.endDrain_eq (s : Stn) : s.endDrain = Stn.released { s with subs.drain := .idle, bill.pause := .none } :=
  Stn.releaseGrant_eq _

/-! ### The events of the port (R181, R185, R186) -/

section
variable {s : State}

theorem exec_billingBlockStart_of_free {b : Block} {rest : List Block} (free : s.stn.bill.sending = none)
    (queued : s.stn.bill.queue = b :: rest) :
    exec (.billingBlockStart true) s = .next { s with stn.bill.sending := some b.bytes } ∧
      exec (.billingBlockStart false) s = .next s := by
  constructor <;> simp only [exec, execBillingBlockStart, Stn.billingStart, free, queued] <;> rfl

theorem exec_billingBlockStart_of_not_free (busy : s.stn.bill.sending ≠ none ∨ s.stn.bill.queue = []) (accept : Bool) :
    exec (.billingBlockStart accept) s = .next s := by
  simp only [exec, execBillingBlockStart, Stn.billingStart]
  split
  next b rest free queued => simp [free, queued] at busy
  next => rfl

theorem exec_billingBlockSent_of_free (free : s.stn.bill.sending = none) : exec .billingBlockSent s = .next s := by
  simp only [exec, execBillingBlockSent, Stn.billingSent, free]

/-- The station once the block under transmission has left the queue (R185). -/
def Stn.blockSent (s : Stn) : Stn :=
  { s with bill := { s.bill with
      sending := none, queue := s.bill.queue.drop 1, blocksSent := satInc s.bill.blocksSent } }

theorem exec_billingBlockSent_of_sending {bytes : List Byte} (busy : s.stn.bill.sending = some bytes) :
    exec .billingBlockSent s =
      .next { s with stn := s.stn.blockSent.resumeDrain } := by
  simp only [exec, execBillingBlockSent, Stn.billingSent, busy]
  rfl

end

section
variable {s : Stn}

theorem Stn.resumeDrain_of_none (goes : s.bill.pause = .none) : s.resumeDrain = s := by
  rw [Stn.resumeDrain, goes]

theorem Stn.resumeDrain_of_last (paused : s.bill.pause = .last) : s.resumeDrain = s.formWalkBlock.endDrain := by
  rw [Stn.resumeDrain, paused]

/-- A walk paused at a full block ends with it where no record follows (R179, R181). -/
theorem Stn.resumeDrain_of_full {pos : Option Nat} (paused : s.bill.pause = .full) (runs : s.subs.drain = .running pos)
    (plain : FormsPlainly s s.bill.forming) :
    s.resumeDrain = if (s.nextDrain pos).isNone then s.formWalkBlock.endDrain else s.formWalkBlock := by
  have still : s.formWalkBlock.subs = s.subs := by rw [Stn.formWalkBlock_of_plain plain]; rfl
  have next : s.formWalkBlock.nextDrain pos = s.nextDrain pos := by rw [Stn.nextDrain, still, Stn.nextDrain]
  have same : s.formWalkBlock.subs.drain = .running pos := by rw [still, runs]
  simp only [Stn.resumeDrain, paused, same, next]

/-- The walk's end behind its last block, of plain entries. -/
theorem Stn.endDrain_formed (es : List FormEntry) (queue : List Block) :
    (s.formed es queue).endDrain = Stn.released { s.formed es queue with subs.drain := .idle } := by
  rw [Stn.endDrain_eq]
  rfl

/-! ### A last block with a scale (R182) -/

variable {e : FormEntry} {x : Record} {scale : Nat}

/-- The walk's block of one entry, whose remainder has gone where these records and totals say. -/
def Stn.scaledBlock (s : Stn) (e : FormEntry) (scale : Nat) (subs : Subscribers) (unmetered : Nat) : Stn :=
  { s with
    subs := subs,
    meter := { s.meter with
      billed := s.meter.billed + units (fieldOf scale e.total * 16 ^ scale),
      unmetered := s.meter.unmetered + units unmetered },
    bill := { s.bill with
      forming := [], pause := .none, counter := s.bill.nextNumber (s.bill.period - 1) + 1,
      counted := some (s.bill.period - 1),
      entriesLimited := if isLimited scale e.total then satInc s.bill.entriesLimited else s.bill.entriesLimited,
      queue := s.bill.queue ++ [
        { station := s.self, period := s.bill.period - 1, number := s.bill.nextNumber (s.bill.period - 1), scale := scale,
          entries := [e.toBlock scale] }] } }

theorem Stn.formWalkBlock_of_absent (forming : s.bill.forming = [e]) (least : scaleOf [e] = scale)
    (absent : s.rec? e.sub = none) : s.formWalkBlock = s.scaledBlock e scale s.subs (remainderOf scale e.total) := by
  rw [Stn.formWalkBlock, forming, Stn.formBlock_of_absent absent _ least]
  rfl

theorem Stn.formWalkBlock_of_found (forming : s.bill.forming = [e]) (least : scaleOf [e] = scale)
    (found : s.rec? e.sub = some x) : s.formWalkBlock = s.scaledBlock e scale
      (s.subs.withRec e.sub fun y => { y with meter := { y.meter with
        carry := (addCapped Config.carryLimit x.meter.carry (remainderOf scale e.total)).1,
        limit := y.meter.limit || isLimited scale e.total } })
      (addCapped Config.carryLimit x.meter.carry (remainderOf scale e.total)).2 := by
  simp only [Stn.formWalkBlock, forming, Stn.formBlock, least, List.foldl_cons, List.foldl_nil,
    Stn.settleEntry_of_found found, Stn.numberBlock_eq, List.map_cons, List.map_nil]
  rfl

end

/-- Settles O55: the port, then the paused walk that a place freed lets form its block, plain or with a scale; and the
split of the totals. -/
theorem billingPortAndScale : Obligations.BillingPortAndScale := by
  unfold Obligations.BillingPortAndScale
  refine ⟨fun s => ⟨fun b rest free queued => exec_billingBlockStart_of_free free queued,
    exec_billingBlockStart_of_not_free, exec_billingBlockSent_of_free, fun bytes busy => ?_⟩, fun es => ?_⟩
  · intro sent
    have sentBlock := exec_billingBlockSent_of_sending busy
    refine ⟨fun goes => ?_, fun pos r paused runs more plain => ?_, fun pos runs paused plain => ?_,
      fun e scale paused forming unique small tooLow fits => ?_⟩
    · rw [sentBlock, Stn.resumeDrain_of_none (s := s.stn.blockSent) goes]
      rfl
    · rw [sentBlock, Stn.resumeDrain_of_full (s := s.stn.blockSent) paused runs plain,
        Stn.formWalkBlock_of_plain (s := s.stn.blockSent) plain]
      have goesOn : s.stn.blockSent.nextDrain pos = some r := more
      rw [goesOn]
      rfl
    · have ended : s.stn.blockSent.resumeDrain =
          s.stn.blockSent.formWalkBlock.endDrain := by
        obtain last | ⟨full, ended⟩ := paused
        · exact Stn.resumeDrain_of_last last
        · have behind : s.stn.blockSent.nextDrain pos = none := ended
          rw [Stn.resumeDrain_of_full (s := s.stn.blockSent) full runs plain, behind]
          rfl
      rw [sentBlock, ended, Stn.formWalkBlock_of_plain (s := s.stn.blockSent) plain,
        Stn.endDrain_formed]
      rfl
    · intro field left limited number scaled carried
      have least := scaleOf_single small tooLow fits
      have ended : s.stn.blockSent.resumeDrain =
          s.stn.blockSent.formWalkBlock.endDrain := Stn.resumeDrain_of_last paused
      refine ⟨fun absent => ?_, fun x found => ⟨fun below => ?_, fun above => ?_⟩⟩
      · rw [sentBlock, ended,
          Stn.formWalkBlock_of_absent (s := s.stn.blockSent) forming least absent,
          Stn.endDrain_eq]
        rfl
      · have capped : addCapped Config.carryLimit x.meter.carry (remainderOf scale e.total) =
          (x.meter.carry + remainderOf scale e.total, 0) := if_pos below
        rw [sentBlock, ended,
          Stn.formWalkBlock_of_found (s := s.stn.blockSent) forming least found, capped,
          Stn.endDrain_eq]
        rfl
      · have capped : addCapped Config.carryLimit x.meter.carry (remainderOf scale e.total) =
          (Config.carryLimit, x.meter.carry + remainderOf scale e.total - Config.carryLimit) :=
          if_neg (Nat.not_le.2 above)
        rw [sentBlock, ended,
          Stn.formWalkBlock_of_found (s := s.stn.blockSent) forming least found, capped,
          Stn.endDrain_eq]
        rfl
  · intro k
    obtain ⟨small, tooLow, fits⟩ := scaleOf_spec es
    refine ⟨small, fun j less => ?_, fun e mem => ⟨min_le_right _ _, fieldOf_add_remainderOf _ _, isLimited_iff _ _,
      remainderOf_lt, fun less => ?_⟩⟩
    · have above : ¬∀ e ∈ es, e.total / 16 ^ j ≤ 65535 :=
        mt (fitsScale_iff j es).2 (Bool.eq_false_iff.1 (tooLow j less))
      simpa using above
    · exact decide_eq_false (Nat.not_lt.2 ((fitsScale_iff _ es).1 (fits less) e mem))

end Sys2Proof.Machine
end


section
/-!
RESULT. The visits of the drain walk (R17, R18, R54, R168, R178 to R183).
-/

namespace Sys2Proof.Machine

/-! ### A record's units go to the block under formation (R168, R180) -/

/-- The entry of a record that a drain visit hands over (R180). -/
def Record.drainEntry (r : Record) (total : Nat) : FormEntry :=
  { sub := r.admin.sub, total := total, adopted := decide (r.origin = .adopted), final := false }

/-- The station behind the visit of a record, whose meter fields it has changed. -/
def Stn.visited (s : Stn) (sub : Nat) (f : MeterFields → MeterFields) (forming : List FormEntry) (pause : Pause) : Stn :=
  { s with
    subs := { s.subs.withRec sub fun x => { x with meter := f x.meter } with drain := .running (some sub) },
    bill := { s.bill with forming := forming, pause := pause } }

section
variable {s t : Stn} {r x : Record} {sub : Nat}

theorem Stn.drainRecord_of_empty (unique : ActiveUnique s) (found : s.rec? sub = some r)
    (current : later s.bill.period r.meter.period = false) (empty : r.meter.closed + r.meter.carry = 0)
    (goes : s.bill.pause = .none) : s.drainRecord sub = s.visited sub id s.bill.forming .none := by
  have still : ({ s with subs.drain := .running (some sub) } : Stn).rec? sub = some r := found
  have same : s.subs.withRec sub (fun x => { x with meter := id x.meter }) = s.subs :=
    Subscribers.withRec_eq_self unique found rfl
  simp only [Stn.drainRecord, Stn.roll_of_not_due found current, still, if_pos empty, Stn.visited, same, ← goes]

/-- A visit takes the closed and carry units of the record as it stands once rolled. -/
theorem Stn.drainRecord_of_rolled (rolled : s.roll sub = t) (found : t.rec? sub = some x)
    (units : x.meter.closed + x.meter.carry ≠ 0) : s.drainRecord sub =
      let u := t.visited sub (fun m => { m with closed := 0, carry := 0 })
        (t.bill.forming ++ [x.drainEntry (x.meter.closed + x.meter.carry)]) t.bill.pause
      if 16 ≤ u.bill.forming.length then u.formOrPause .full else u := by
  have still : ({ t with subs.drain := .running (some sub) } : Stn).rec? sub = some x := found
  have number : x.admin.sub = sub := Stn.rec?_sub found
  simp only [Stn.drainRecord, rolled, still, if_neg units, Stn.updMeter_eq_withRec]
  simp only [Record.drainEntry, number]
  rfl

/-- A roll whose units fit, of a record that is not BARRED (R168). -/
theorem Stn.roll_of_due (found : s.rec? sub = some r) (due : later s.bill.period r.meter.period = true)
    (active : r.admin.service ≠ .barred) (fits : r.meter.closed + r.meter.current ≤ Config.unitLimit) :
    s.roll sub = { s with
      subs := s.subs.withRec sub fun x => { x with meter := x.meter.rolled s.bill.period } } := by
  have noExcess : r.meter.rollExcess = 0 := by simp [MeterFields.rollExcess, addCapped, fits]
  have moved := rec?_withRec (f := fun x => { x with meter := x.meter.rolled s.bill.period }) (fun _ => rfl) found
  have nothing : s.meter.unmetered + units 0 = s.meter.unmetered := by simp [units]
  have written : ((s.updMeter sub fun m => m.rolled s.bill.period).writeOff r.meter.rollExcess) =
      { s with subs := s.subs.withRec sub fun x => { x with meter := x.meter.rolled s.bill.period } } := by
    rw [Stn.updMeter_eq_withRec, Stn.writeOff, noExcess]
    simp only [nothing]
  have untested : ¬(r.admin.service = .barred ∧ Record.quotaMet { r with meter := r.meter.rolled s.bill.period } = true) :=
    fun both => active both.1
  simp only [Stn.roll, found, due, written, Stn.rollTest, moved, if_neg untested, if_true]

theorem MeterFields.rolled_of_fits {m : MeterFields} (fits : m.closed + m.current ≤ Config.unitLimit) (p : Period) :
    m.rolled p =
      { m with closed := m.closed + m.current, current := 0, period := p, sent := false, owed := false } := by
  simp [MeterFields.rolled, addCapped, fits]

theorem Stn.drainRecord_of_due (unique : ActiveUnique s) (found : s.rec? sub = some r)
    (due : later s.bill.period r.meter.period = true) (active : r.admin.service ≠ .barred)
    (fits : r.meter.closed + r.meter.current ≤ Config.unitLimit) (few : s.bill.forming.length < 15)
    (units : r.meter.closed + r.meter.carry + r.meter.current ≠ 0) (goes : s.bill.pause = .none) :
    s.drainRecord sub = s.visited sub
      (fun x => { x with current := 0, closed := 0, carry := 0, period := s.bill.period, sent := false, owed := false })
      (s.bill.forming ++ [r.drainEntry (r.meter.closed + r.meter.carry + r.meter.current)]) .none := by
  have moved := rec?_withRec (f := fun x => { x with meter := x.meter.rolled s.bill.period }) (fun _ => rfl) found
  have total : (r.meter.rolled s.bill.period).closed + (r.meter.rolled s.bill.period).carry =
      r.meter.closed + r.meter.carry + r.meter.current := by
    rw [MeterFields.rolled_of_fits fits]
    exact Nat.add_right_comm _ _ _
  have emptied : (s.subs.withRec sub fun x => { x with meter := x.meter.rolled s.bill.period }).withRec sub
      (fun x => { x with meter := { x.meter with closed := 0, carry := 0 } }) = s.subs.withRec sub fun x =>
        { x with meter := { x.meter with
          current := 0, closed := 0, carry := 0, period := s.bill.period, sent := false, owed := false } } := by
    refine (Subscribers.withRec_withRec _ sub ?_).trans (Subscribers.withRec_congr unique found ?_)
    · exact fun _ => rfl
    rw [MeterFields.rolled_of_fits fits]
  have short : ¬16 ≤ (s.bill.forming ++ [r.drainEntry (r.meter.closed + r.meter.carry + r.meter.current)]).length := by
    rw [List.length_append, List.length_singleton]
    omega
  refine (Stn.drainRecord_of_rolled (Stn.roll_of_due found due active fits) moved (total.trans_ne units)).trans ?_
  simp only [Stn.visited, emptied, total, goes]
  exact if_neg short

/-- A record of the period in progress hands over its closed and carry units. -/
theorem Stn.drainRecord_of_units (found : s.rec? sub = some r)
    (current : later s.bill.period r.meter.period = false) (units : r.meter.closed + r.meter.carry ≠ 0)
    (goes : s.bill.pause = .none) : s.drainRecord sub =
      let u := s.visited sub (fun m => { m with closed := 0, carry := 0 })
        (s.bill.forming ++ [r.drainEntry (r.meter.closed + r.meter.carry)]) .none
      if 15 ≤ s.bill.forming.length then u.formOrPause .full else u := by
  have length : (s.bill.forming ++ [r.drainEntry (r.meter.closed + r.meter.carry)]).length =
      s.bill.forming.length + 1 := by simp
  refine (Stn.drainRecord_of_rolled (Stn.roll_of_not_due found current) found units).trans ?_
  simp only [Stn.visited, goes, length, Nat.add_le_add_iff_right (n := 1) (m := 15)]

/-! ### The block is formed, or the walk pauses (R181) -/

theorem Stn.formOrPause_of_full (full : 4 ≤ s.bill.queue.length) (why : Pause) :
    s.formOrPause why = { s with bill.pause := why } := by
  have none : s.billingRoom = false := decide_eq_false (Nat.not_lt.2 full)
  simp only [Stn.formOrPause, none, Bool.false_eq_true, if_false]

theorem Stn.formOrPause_of_room (room : s.bill.queue.length < 4) (plain : FormsPlainly s s.bill.forming) :
    s.formOrPause .full = s.formed s.bill.forming s.bill.queue ∧
      s.formOrPause .last = Stn.released { s.formed s.bill.forming s.bill.queue with subs.drain := .idle } := by
  have free : s.billingRoom = true := decide_eq_true room
  simp only [Stn.formOrPause, free, if_true, Stn.formWalkBlock_of_plain plain]
  exact ⟨trivial, Stn.endDrain_formed _ _⟩

/-- A visit leaves the block plain: the record's carry is emptied. -/
theorem FormsPlainly.visited {es forming : List FormEntry} (plain : FormsPlainly s es) (sub : Nat) (pause : Pause) :
    FormsPlainly (s.visited sub (fun m => { m with closed := 0, carry := 0 }) forming pause) es := by
  obtain ⟨small, within, unique⟩ := plain
  refine ⟨small, fun x mem => ?_, unique.withRec sub fun _ => rfl⟩
  obtain ⟨y, there, rfl⟩ := List.mem_map.1 mem
  split
  next => exact Nat.zero_le _
  next => exact within y there

end

/-! ### The visits of a walk -/

section
variable {s : State} {pos : Option Nat} {t : Stn}

theorem exec_drainVisit (visit : s.stn.drainVisit = t) (outbox : t.bus.outbox = s.stn.bus.outbox) :
    exec .drainVisit s = .next { s with stn := t } := by
  rw [← Stn.givePlaces_of_outbox_eq outbox, ← visit]
  rfl

theorem Stn.drainVisit_of_paused {s : Stn} (runs : s.subs.drain = .running pos) (paused : s.bill.pause ≠ .none) :
    s.drainVisit = s := by
  simp only [Stn.drainVisit, runs, if_neg paused]

theorem Stn.drainVisit_of_record {s : Stn} {r : Record} (runs : s.subs.drain = .running pos)
    (goes : s.bill.pause = .none) (next : s.nextDrain pos = some r) : s.drainVisit = s.drainRecord r.admin.sub := by
  simp only [Stn.drainVisit, runs, if_pos goes, next]

theorem Stn.drainVisit_of_end {s : Stn} (runs : s.subs.drain = .running pos)
    (goes : s.bill.pause = .none) (next : s.nextDrain pos = none) : s.drainVisit = s.drainEnd := by
  simp only [Stn.drainVisit, runs, if_pos goes, next]

theorem Stn.released_bus (s : Stn) : s.released.bus = s.bus := by
  unfold Stn.released
  split <;> rfl

/-- A walk without units behind its last block ends at once. -/
theorem Stn.drainEnd_of_empty {s : Stn} (goes : s.bill.pause = .none) (empty : s.bill.forming = []) :
    s.drainEnd = Stn.released { s with subs.drain := .idle } := by
  rw [Stn.drainEnd, if_pos empty, Stn.endDrain_eq, ← goes]

end

/-- Settles O54: the visit of a record by its period and its units, then the walk's end by the block under formation. -/
theorem drainVisitsFormTheBlock : Obligations.DrainVisitsFormTheBlock := by
  unfold Obligations.DrainVisitsFormTheBlock
  intro s pos runs i moved ended
  refine ⟨fun paused => exec_drainVisit (Stn.drainVisit_of_paused runs paused) rfl, fun r goes next unique => ?_,
    fun goes next empty => ?_, fun goes next some room plain => ?_, fun goes next some full => ?_⟩
  · intro m total entry current
    have found : s.stn.rec? r.admin.sub = some r := Stn.rec?_of_mem unique (List.mem_of_find?_eq_some next)
    have visit := Stn.drainVisit_of_record runs goes next
    refine ⟨fun now empty => ?_, fun now units few => ?_, fun now units length room plain => ?_,
      fun now units many full => ?_, fun old active fits few units => ?_⟩
    · exact exec_drainVisit (visit.trans (Stn.drainRecord_of_empty unique found now empty goes)) rfl
    · have taken := Stn.drainRecord_of_units found now units goes
      exact exec_drainVisit (visit.trans (taken.trans (if_neg (Nat.not_le.2 few)))) rfl
    · have taken := Stn.drainRecord_of_units found now units goes
      have formed := (Stn.formOrPause_of_room
        (s := s.stn.visited r.admin.sub (fun m => { m with closed := 0, carry := 0 })
          (s.stn.bill.forming ++ [entry total]) .none) room (plain.visited r.admin.sub .none)).1
      exact exec_drainVisit (visit.trans (taken.trans ((if_pos length.ge).trans formed))) rfl
    · have taken := Stn.drainRecord_of_units found now units goes
      have paused := Stn.formOrPause_of_full (s := s.stn.visited r.admin.sub (fun m => { m with closed := 0, carry := 0 })
        (s.stn.bill.forming ++ [entry total]) .none) full .full
      exact exec_drainVisit (visit.trans (taken.trans ((if_pos many).trans paused))) rfl
    · have due := Bool.eq_true_of_not_eq_false old
      exact exec_drainVisit (visit.trans (Stn.drainRecord_of_due unique found due active fits few units goes)) rfl
  · have visit := (Stn.drainVisit_of_end runs goes next).trans (Stn.drainEnd_of_empty goes empty)
    have ran := exec_drainVisit visit (congrArg Bus.outbox (Stn.released_bus _))
    refine ⟨fun waits => ?_, fun noReturn noClose => ?_, fun p noReturn close => ?_⟩
    · rw [ran]
      simp only [Stn.released, waits]
      rfl
    · rw [ran]
      cases ret : s.stn.subs.ret with
      | waiting => exact absurd ret noReturn
      | idle => simp only [Stn.released, ret, noClose, ended]
      | running phase at_ => simp only [Stn.released, ret, noClose, ended]
    · rw [ran]
      cases ret : s.stn.subs.ret with
      | waiting => exact absurd ret noReturn
      | idle => simp only [Stn.released, ret, close, ended, goes, empty]
      | running phase at_ => simp only [Stn.released, ret, close, ended, goes, empty]
  · have visit := Stn.drainVisit_of_end runs goes next
    have formed : s.stn.drainEnd = _ := (if_neg some).trans (Stn.formOrPause_of_room room plain).2
    exact exec_drainVisit (visit.trans formed) (congrArg Bus.outbox (Stn.released_bus _))
  · have visit := Stn.drainVisit_of_end runs goes next
    have paused : s.stn.drainEnd = _ := (if_neg some).trans (Stn.formOrPause_of_full full .last)
    exact exec_drainVisit (visit.trans paused) rfl

end Sys2Proof.Machine
end


section
/-!
RESULT. The office marks and the slots of the air feed (R20, R123, R133, R134, R136, R194).
-/

namespace Sys2Proof.Machine

/-! ### The Bus Unit's number at the ends of messages -/

@[simp] theorem Stn.mirrorToRestart_mark (s : Stn) : s.mirrorToRestart.bus.mark = s.bus.mark := by
  unfold Stn.mirrorToRestart
  split <;> rfl

@[simp] theorem Stn.handChange_mark (s : Stn) (body : NoteBody) : (s.handChange body).bus.mark = s.bus.mark := by
  unfold Stn.handChange
  repeat' split
  · rfl
  · rfl
  · exact s.mirrorToRestart_mark

@[simp] theorem Stn.handMirror_mark (s : Stn) (sub : Nat) : (s.handMirror sub).bus.mark = s.bus.mark := by
  unfold Stn.handMirror
  repeat' split
  all_goals simp

@[simp] theorem Stn.rollTest_mark (s : Stn) (sub : Nat) : (s.rollTest sub).bus.mark = s.bus.mark := by
  unfold Stn.rollTest Stn.setService
  repeat' split
  all_goals simp

@[simp] theorem Stn.roll_mark (s : Stn) (sub : Nat) : (s.roll sub).bus.mark = s.bus.mark := by
  unfold Stn.roll
  repeat' split
  all_goals simp

@[simp] theorem Stn.settle_mark (s : Stn) (sub : Nat) (origin : MsgOrigin) (reserved : Nat) (o : Outcome)
    (transmissions : Nat) : (s.settle sub origin reserved o transmissions).bus.mark = s.bus.mark := by
  unfold Stn.settle
  dsimp only
  split <;> simp

@[simp] theorem Stn.givePlaces_mark (s before : Stn) : (s.givePlaces before).bus.mark = s.bus.mark := by
  have one (t : Stn) (e : PendEntry) : (t.offerOne e).bus.mark = t.bus.mark := by
    unfold Stn.offerOne
    repeat' split
    all_goals rfl
  have all (l : List PendEntry) (t : Stn) : (l.foldl Stn.offerOne t).bus.mark = t.bus.mark := by
    induction l generalizing t with
    | nil => rfl
    | cons e l ih => rw [List.foldl_cons, ih, one]
  unfold Stn.givePlaces
  split
  · exact all _ s
  · rfl

/-! ### What the end of a page leaves of the slot buffer and of the frame numbers -/

/-- The frame numbers and the air feed stand, and the slot buffer has at most lost pages. -/
def Stn.OnlyLosesPages (s t : Stn) : Prop :=
  t.air.frame = s.air.frame ∧ t.air.begun = s.air.begun ∧ t.air.feed = s.air.feed ∧
    t.bus.mark = s.bus.mark ∧ t.air.buffer ⊆ s.air.buffer

section
variable {s t u : Stn}

theorem Stn.OnlyLosesPages.of_same (air : t.air = s.air) (mark : t.bus.mark = s.bus.mark) : s.OnlyLosesPages t := by
  rw [Stn.OnlyLosesPages, air, mark]
  exact ⟨rfl, rfl, rfl, rfl, fun _ mem => mem⟩

theorem Stn.OnlyLosesPages.refl (s : Stn) : s.OnlyLosesPages s := .of_same rfl rfl

theorem Stn.OnlyLosesPages.trans (h : s.OnlyLosesPages t) (g : t.OnlyLosesPages u) : s.OnlyLosesPages u := by
  obtain ⟨frame, begun, feed, mark, buffer⟩ := h
  obtain ⟨frame', begun', feed', mark', buffer'⟩ := g
  exact ⟨frame'.trans frame, begun'.trans begun, feed'.trans feed, mark'.trans mark, fun _ mem => buffer (buffer' mem)⟩

end

theorem Stn.removePage_losesPages (s : Stn) (serial : Serial) : s.OnlyLosesPages (s.removePage serial) :=
  ⟨rfl, rfl, rfl, rfl, List.filter_subset_self _⟩

theorem Stn.leaveFlight_losesPages (s : Stn) (m : Message) : s.OnlyLosesPages (s.leaveFlight m) := by
  unfold Stn.leaveFlight
  split
  · exact ⟨rfl, rfl, rfl, rfl, fun _ mem => mem⟩
  · exact s.removePage_losesPages _
  · exact .of_same (by simp) (by simp)
  · exact .refl s

theorem Stn.finalOutcome_losesPages (s : Stn) (serial : Serial) (o : Outcome) :
    s.OnlyLosesPages (s.finalOutcome serial o) := by
  unfold Stn.finalOutcome
  split
  next => exact .refl s
  next m _ => exact (s.leaveFlight_losesPages m).trans (.of_same (by simp) (by simp))

theorem Stn.complete_losesPages (s : Stn) (serial : Serial) : s.OnlyLosesPages (s.complete serial) := by
  have updated (f : Message → Message) : s.OnlyLosesPages (s.updMsg serial f) := .of_same rfl rfl
  have advanced (t : Stn) : t.OnlyLosesPages (t.advance serial) := by
    unfold Stn.advance
    dsimp only
    repeat' split
    · exact .refl t
    · exact .refl t
    · exact .of_same rfl rfl
    · exact t.finalOutcome_losesPages _ _
    · exact .of_same rfl rfl
  unfold Stn.complete
  split
  next => exact .refl s
  next =>
    dsimp only
    split
    · exact (updated _).trans (Stn.finalOutcome_losesPages _ _ _)
    · exact (updated _).trans (Stn.finalOutcome_losesPages _ _ _)
    · exact (updated _).trans (advanced _)

theorem Stn.completePage_losesPages (s : Stn) (serial : Serial) : s.OnlyLosesPages (s.completePage serial) :=
  (s.removePage_losesPages serial).trans (Stn.complete_losesPages _ _)

/-- Every page of a completed message is gone. -/
theorem foldl_completePage_losesPages (l : List Serial) (s : Stn) : s.OnlyLosesPages (l.foldl Stn.completePage s) ∧
    ∀ p ∈ (l.foldl Stn.completePage s).air.buffer, p.message ∉ l := by
  induction l generalizing s with
  | nil => exact ⟨.refl s, fun p _ none => nomatch none⟩
  | cons serial l ih =>
    obtain ⟨loses, gone⟩ := ih (s.completePage serial)
    refine ⟨(s.completePage_losesPages serial).trans loses, fun p mem => ?_⟩
    have there : p ∈ (s.removePage serial).air.buffer :=
      ((s.removePage serial).complete_losesPages serial).2.2.2.2 (loses.2.2.2.2 mem)
    have other : p.message ≠ serial := by simpa using (List.mem_filter.1 there).2
    exact List.not_mem_cons_of_ne_of_not_mem other (gone p mem)

/-! ### The office mark at the Airtime Unit (R123, R133, R134) -/

/-- The number advances, and exactly the pages of the new frame are committed. -/
theorem Stn.markAirtime_commits (s : Stn) :
    s.markAirtime.air.frame = s.air.frame + 1 ∧ s.markAirtime.air.begun = true ∧ s.markAirtime.air.feed = none ∧
      s.markAirtime.bus.mark = s.bus.mark ∧
      ∀ p ∈ s.markAirtime.air.buffer, p.committed = decide (p.target = s.air.frame + 1) := by
  unfold Stn.markAirtime
  extract_lets f air s1 s2 buffer
  obtain ⟨⟨frame, begun, feed, mark, kept⟩, gone⟩ : s1.OnlyLosesPages s2 ∧ ∀ p ∈ s2.air.buffer, p.message ∉ s1.cutPages f :=
    foldl_completePage_losesPages (s1.cutPages f) s1
  refine ⟨frame, begun, feed, mark, fun p mem => ?_⟩
  obtain ⟨q, there, rfl⟩ := List.mem_map.1 mem
  by_cases now : q.target = f
  · simp [now, f]
  · have open_ : q.committed = false := by
      refine Bool.eq_false_iff.2 fun committed => gone q there (List.mem_map.2 ⟨q, ?_, rfl⟩)
      exact List.mem_filter.2 ⟨kept there, by simp [committed, now]⟩
    rw [if_neg (by simpa using now), open_]
    exact (decide_eq_false now).symm

/-- Where no page is cut, the mark touches the frames alone. -/
theorem Stn.markAirtime_of_no_cut {s : Stn}
    (past : ∀ p ∈ s.air.buffer, p.committed = true → p.target = s.air.frame + 1) :
    s.markAirtime = { s with air := { s.air with
      frame := s.air.frame + 1, begun := true, feed := none,
      buffer := s.air.buffer.map fun p => if p.target = s.air.frame + 1 then { p with committed := true } else p,
      maps := s.air.maps.filter fun m => decide ((m.frame - (s.air.frame + 1)).toNat ≤ 2),
      abstain := s.air.abstain.filter fun x =>
        decide ((x - (s.air.frame + 1)).toNat ≤ 2 ∨ ∃ r ∈ s.bus.round, r.frame + 2 = x) } } := by
  have uncut : ({ s with air.frame := s.air.frame + 1, air.begun := true, air.feed := none } : Stn).cutPages
      (s.air.frame + 1) = [] := by
    simp only [Stn.cutPages, List.map_eq_nil_iff, List.filter_eq_nil_iff, Bool.and_eq_true, decide_eq_true_eq]
    rintro p mem ⟨committed, other⟩
    exact other (past p mem committed)
  have committed : updWhere (fun p => decide (p.target = s.air.frame + 1)) (fun p => { p with committed := true })
      s.air.buffer = _ := updWhere_decide _ _
  have marks (t : Stn) (f : FrameNo) : t.abstainKept f =
      fun x => decide ((x - f).toNat ≤ 2 ∨ ∃ r ∈ t.bus.round, r.frame + 2 = x) := by
    funext x
    rw [Stn.abstainKept, within2, Bool.decide_or]
    cases t.bus.round <;> simp
  unfold Stn.markAirtime
  simp only [uncut, List.foldl_nil, committed, marks, within2]

/-! ### The office mark at the Bus Unit (R20, R194) -/

theorem Stn.markBus_of_none {s : Stn} (paused : s.bus.round = none) : s.markBus = { s with
    bus := { s.bus with
      mark := s.bus.mark + 1, round := some { frame := s.bus.mark + 1, index := 0, left := s.roster }, noted := false },
    cust.join := if s.cust.state = .joining ∧ s.cust.join = .before then .running (s.bus.mark + 1) else s.cust.join } := by
  simp only [Stn.markBus, paused]
  rfl

theorem Stn.markBus_of_round {s : Stn} {r : RoundPos} (runs : s.bus.round = some r) :
    s.markBus = { s with bus := { s.bus with mark := s.bus.mark + 1, noted := true } } := by
  simp only [Stn.markBus, runs]

theorem Stn.markBus_numbers (s : Stn) : s.markBus.bus.mark = s.bus.mark + 1 ∧ s.markBus.air = s.air := by
  cases runs : s.bus.round with
  | none => rw [Stn.markBus_of_none runs]; exact ⟨rfl, rfl⟩
  | some r => rw [Stn.markBus_of_round runs]; exact ⟨rfl, rfl⟩

section
variable {s : State}

theorem exec_officeMarkAirtime (closed : s.stn.ctl.phase = .closed) :
    exec .officeMarkAirtime s = .next { s with stn := s.stn.markAirtime.givePlaces s.stn } := by
  simp only [exec, execOfficeMarkAirtime, if_pos closed]

theorem exec_officeMarkBus (closed : s.stn.ctl.phase = .closed) {f : FrameNo} (next : f = s.stn.bus.mark + 1) :
    exec (.officeMarkBus f) s = .next { s with stn := s.stn.markBus } := by
  simp only [exec, execOfficeMarkBus, if_pos (And.intro closed next)]

/-- The two units agree on the frame once both have taken the mark. -/
theorem marks_agree (closed : s.stn.ctl.phase = .closed) (agree : s.stn.bus.mark = s.stn.air.frame) {t u : State}
    (both : exec .officeMarkAirtime s = .next t ∧ exec (.officeMarkBus (s.stn.air.frame + 1)) t = .next u ∨
      exec (.officeMarkBus (s.stn.air.frame + 1)) s = .next t ∧ exec .officeMarkAirtime t = .next u) :
    u.stn.bus.mark = s.stn.air.frame + 1 ∧ u.stn.air.frame = s.stn.air.frame + 1 := by
  obtain ⟨first, second⟩ | ⟨first, second⟩ := both
  · rw [exec_officeMarkAirtime closed] at first
    cases first
    obtain ⟨frame, -, -, mark, -⟩ := s.stn.markAirtime_commits
    have number : (s.stn.markAirtime.givePlaces s.stn).bus.mark = s.stn.air.frame :=
      (Stn.givePlaces_mark _ _).trans (mark.trans agree)
    have still : (s.stn.markAirtime.givePlaces s.stn).ctl.phase = .closed := by simpa using closed
    rw [exec_officeMarkBus still (congrArg (· + 1) number.symm)] at second
    cases second
    obtain ⟨marked, air⟩ := (s.stn.markAirtime.givePlaces s.stn).markBus_numbers
    refine ⟨marked.trans (congrArg (· + 1) number), ?_⟩
    change (s.stn.markAirtime.givePlaces s.stn).markBus.air.frame = _
    rw [air, (Stn.givePlaces_frame _ _).2.2.2.2.2.1, frame]
  · rw [exec_officeMarkBus closed (congrArg (· + 1) agree.symm)] at first
    cases first
    obtain ⟨marked, air⟩ := s.stn.markBus_numbers
    have still : s.stn.markBus.ctl.phase = .closed := by simpa using closed
    rw [exec_officeMarkAirtime still] at second
    cases second
    obtain ⟨frame, -, -, mark, -⟩ := s.stn.markBus.markAirtime_commits
    refine ⟨(Stn.givePlaces_mark _ _).trans (mark.trans (marked.trans (congrArg (· + 1) agree))), ?_⟩
    change (s.stn.markBus.markAirtime.givePlaces s.stn.markBus).air.frame = _
    rw [(Stn.givePlaces_frame _ _).2.2.2.2.2.1, frame, air]

end

/-! ### The slots (R136) -/

section
variable {s : Stn} {n : Fin 32} {o : SlotOwner} {p : Page}

theorem Stn.mayDrive_iff (s : Stn) : s.mayDrive = true ↔ s.air.begun = true ∧ s.air.frame ∉ s.air.abstain := by
  simp [Stn.mayDrive]

theorem Stn.slotStart_of_no_drive (quiet : ¬s.mayDrive = true) : s.slotStart n = { s with air.feed := none } := by
  simp only [Stn.slotStart, Bool.eq_false_iff.2 quiet]

theorem Stn.slotStart_of_no_owner (none : s.slotOwner n.val = none) :
    s.slotStart n = { s with air.feed := Option.none } := by
  simp only [Stn.slotStart, none]
  cases s.mayDrive <;> rfl

variable (drives : s.mayDrive = true) (owner : s.slotOwner n.val = some o)
include drives owner

theorem Stn.slotStart_of_other (other : o.station ≠ s.self) : s.slotStart n = { s with air.feed := none } := by
  simp only [Stn.slotStart, drives, owner, if_neg other]

theorem Stn.slotStart_of_no_page (own : o.station = s.self) (none : s.pageOf o.number = none) :
    s.slotStart n = { s with air := { s.air with
      feed := some ⟨n, idleFill s.self⟩, forfeits := satInc s.air.forfeits } } := by
  simp only [Stn.slotStart, drives, owner, if_pos own, none]

theorem Stn.slotStart_of_page (own : o.station = s.self) (page : s.pageOf o.number = some p) :
    s.slotStart n = if p.first + p.sent = n.val ∧ p.sent < p.slots then s.driveSlot n p else s := by
  simp only [Stn.slotStart, drives, owner, if_pos own, page]

end

theorem exec_slotStart {s : State} (closed : s.stn.ctl.phase = .closed) (n : Fin 32) :
    exec (.slotStart n) s = .next { s with stn := s.stn.slotStart n } := by
  simp only [exec, execSlotStart, if_pos closed]

theorem Stn.driveSlot_eq (s : Stn) (n : Fin 32) (p : Page) : s.driveSlot n p = { s with air := { s.air with
    feed := some ⟨n, p.slotBytes p.sent⟩,
    buffer := s.air.buffer.map fun q => if q.message = p.message then { q with sent := q.sent + 1 } else q } } := by
  rw [Stn.driveSlot, updWhere_decide]

/-- Settles O32: the slots by owner and page, then the mark at each of the two units, and at both. -/
theorem officeMarksAndSlots : Obligations.OfficeMarksAndSlots := by
  unfold Obligations.OfficeMarksAndSlots
  refine ⟨fun s n closed => ?_, fun s => ?_⟩
  · intro i drives quiet
    have ran := exec_slotStart closed n
    have may : s.stn.mayDrive = true ↔ drives := s.stn.mayDrive_iff
    refine ⟨fun shut => ?_, fun none => ?_, fun o may' owner => ⟨fun other => ?_, fun own none => ?_, fun p own page =>
      ⟨fun turn => ?_, fun other => ?_⟩⟩⟩
    · exact ran.trans (by rw [Stn.slotStart_of_no_drive (mt may.1 shut)])
    · exact ran.trans (by rw [Stn.slotStart_of_no_owner none])
    · exact ran.trans (by rw [Stn.slotStart_of_other (may.2 may') owner other])
    · exact ran.trans (by rw [Stn.slotStart_of_no_page (may.2 may') owner own none])
    · exact ran.trans (by rw [Stn.slotStart_of_page (may.2 may') owner own page, if_pos turn, Stn.driveSlot_eq])
    · exact ran.trans (by rw [Stn.slotStart_of_page (may.2 may') owner own page, if_neg other])
  · intro f g
    refine ⟨fun before => ?_, fun x not => ?_, fun closed => ⟨?_, fun past => ?_, fun paused => ?_, fun r runs => ?_,
      fun t u agree both => marks_agree closed agree both⟩⟩
    · simp only [exec, execOfficeMarkAirtime, if_neg before]
    · have shut : ¬(s.stn.ctl.phase = .closed ∧ x = s.stn.bus.mark + 1) := fun both =>
        not.elim (· both.1) (· both.2)
      simp only [exec, execOfficeMarkBus, if_neg shut]
    · obtain ⟨frame, begun, feed, -, committed⟩ := s.stn.markAirtime_commits
      have air := (Stn.givePlaces_frame s.stn.markAirtime s.stn).2.2.2.2.2.1
      refine ⟨_, exec_officeMarkAirtime closed, ?_, ?_, ?_, ?_⟩
      · rw [air, frame]
      · rw [air, begun]
      · rw [air, feed]
      · rw [air]
        exact committed
    · rw [exec_officeMarkAirtime closed, Stn.markAirtime_of_no_cut past]
      exact congrArg (fun t => Host.Outcome.next { s with stn := t }) (Stn.givePlaces_of_outbox_eq rfl)
    · rw [exec_officeMarkBus closed rfl, Stn.markBus_of_none paused]
    · rw [exec_officeMarkBus closed rfl, Stn.markBus_of_round runs]

end Sys2Proof.Machine
end


section
/-!
RESULT. Reports without effect, and what a report does to the head of a queue (R140 to R150, R202).
-/

namespace Sys2Proof.Machine

/-! ### The bytes of a report (R202) -/

theorem length_be (k n : Nat) : (be k n).length = k := by
  induction k with
  | zero => rfl
  | succ k ih => rw [be, List.length_cons, ih]

/-- What is written with its check is read back. -/
theorem checked?_withCheck (bs : List Byte) : checked? (withCheck bs) = some bs := by
  have two : (be 2 (check bs)).length = 2 := length_be 2 _
  have body : (withCheck bs).take ((withCheck bs).length - 2) = bs := by simp [withCheck, two]
  have last : (withCheck bs).drop ((withCheck bs).length - 2) = be 2 (check bs) := by simp [withCheck, two]
  have long : 2 ≤ (withCheck bs).length := by simp [withCheck, two]
  unfold checked?
  rw [body, last, if_pos ⟨long, rfl⟩]

theorem be_three (n : Nat) : be 3 n = [BitVec.ofNat 8 (n / 65536), BitVec.ofNat 8 (n / 256), BitVec.ofNat 8 n] := by
  simp [be]

/-- A pager address is read back from its three bytes. -/
theorem addr_of_bytes (a : PagerAddr) :
    65536 * (BitVec.ofNat 8 (a.toNat / 65536)).toNat + 256 * (BitVec.ofNat 8 (a.toNat / 256)).toNat +
      (BitVec.ofNat 8 a.toNat).toNat = a.toNat := by
  have small := a.isLt
  simp only [BitVec.toNat_ofNat]
  omega

theorem judgeReport_bytes (q : Report) : judgeReport q.bytes = some q := by
  have small (a : PagerAddr) : a.toNat < 2097152 := a.isLt
  have same (a : PagerAddr) : BitVec.ofNat 21 a.toNat = a := BitVec.eq_of_toNat_eq (Nat.mod_eq_of_lt a.isLt)
  cases q with
  | received a t =>
    simp only [judgeReport, Report.bytes, checked?_withCheck, be_three, List.cons_append, List.nil_append, addr_of_bytes,
      if_pos (small a), if_true, same]
  | full a t =>
    simp only [judgeReport, Report.bytes, checked?_withCheck, be_three, List.cons_append, List.nil_append, addr_of_bytes,
      if_pos (small a), same]
    rfl
  | ready a =>
    simp only [judgeReport, Report.bytes, checked?_withCheck, be_three, addr_of_bytes, and_true,
      if_pos (small a), same]
  | register a z =>
    have zone : (BitVec.ofNat 8 z.val).toNat = z.val := by
      rw [BitVec.toNat_ofNat]
      exact Nat.mod_eq_of_lt (lt_trans z.isLt (by decide))
    have zoneSame : Fin.ofNat 8 z.val = z := Fin.ext (Nat.mod_eq_of_lt z.isLt)
    simp only [judgeReport, Report.bytes, checked?_withCheck, be_three, List.cons_append, List.nil_append, addr_of_bytes,
      if_pos (small a), same, zone, zoneSame, z.isLt]
    rfl

/-- The kind of a report, with the length that its kind gives. -/
theorem Report.bytes_kind (q : Report) : ∃ kind rest n, q.bytes = kind :: rest ∧ reportLength kind = some n ∧
    rest.length + 1 = n := by
  cases q with
  | received a t => exact ⟨_, _, 7, rfl, by decide, by simp [length_be]⟩
  | full a t => exact ⟨_, _, 7, rfl, by decide, by simp [length_be]⟩
  | ready a => exact ⟨_, _, 6, rfl, by decide, by simp [length_be]⟩
  | register a z => exact ⟨_, _, 7, rfl, by decide, by simp [length_be]⟩

/-- The length of a report of this kind, an unknown kind being a report of one byte (R202). -/
theorem reportLength_getD (kind : Byte) : (reportLength kind).getD 1 =
    if kind = 0x31 ∨ kind = 0x32 ∨ kind = 0x34 then 7 else if kind = 0x33 then 6 else 1 := by
  unfold reportLength
  split
  next seven => exact (if_pos seven).symm
  next notSeven =>
    refine Eq.trans ?_ (if_neg notSeven).symm
    split
    next six => exact (if_pos six).symm
    next unknown => exact (if_neg unknown).symm

theorem wholeReport_iff (kind : Byte) (rest : List Byte) :
    wholeReport (kind :: rest) = true ↔ rest.length + 1 = (reportLength kind).getD 1 := by
  simp [wholeReport]

theorem insideReport_iff (kind : Byte) (rest : List Byte) :
    insideReport (kind :: rest) = true ↔ rest.length + 1 < (reportLength kind).getD 1 := by
  cases known : reportLength kind with
  | none => simp [insideReport, known]
  | some n => simp [insideReport, known]

/-! ### The row of a report -/

section
variable {s : State}

/-- The counters at which the effect of a row ends, for a bad report or a gap inside one. -/
theorem exec_badReport (closed : s.stn.ctl.phase = .closed) (bytes : List Byte) :
    exec (.badReport bytes) s = .next
      (if wholeReport bytes = true ∧ judgeReport bytes = none then
        { s with stn.ret.badChecks := satInc s.stn.ret.badChecks } else s) := by
  simp only [exec, execBadReport, closed, true_and]
  rfl

theorem exec_reportGap (closed : s.stn.ctl.phase = .closed) (bytes : List Byte) :
    exec (.reportGap bytes) s = .next
      (if insideReport bytes = true then { s with stn.ret.badChecks := satInc s.stn.ret.badChecks } else s) := by
  simp only [exec, execReportGap, closed, true_and]
  rfl

/-- The row of a report that leaves the outbox. -/
theorem exec_report {q : Report} {t : Stn} (closed : s.stn.ctl.phase = .closed) (good : s.stn.goodReport q = t)
    (outbox : t.bus.outbox = s.stn.bus.outbox) : exec q.command s = .next { s with stn := t } := by
  have taken : s.stn.takeReport q = t := (if_pos closed).trans good
  cases q with
  | received a tag => simp only [Report.command, exec, execReportReceived, taken, Stn.givePlaces_of_outbox_eq outbox]
  | full a tag => simp only [Report.command, exec, execReportFull, taken]
  | ready a => simp only [Report.command, exec, execReportReady, taken]
  | register a z => simp only [Report.command, exec, execReportRegister, taken, Stn.givePlaces_of_outbox_eq outbox]

end

/-! ### The duplicate filter and the lookup (R142, R144, R145) -/

section
variable {s : Stn} {q : Report} {r : Record} {m : Message} {tag : Tag}

theorem Stn.suppresses_iff (s : Stn) (q : Report) : s.suppresses q = true ↔ ¬q.isFresh s := by
  simp only [Report.isFresh, not_forall, Nat.not_le, exists_prop]
  rw [Stn.suppresses, List.any_eq_true]
  exact exists_congr fun e => and_congr_right fun _ => decide_eq_true_iff

theorem Stn.acceptReport_eq (s : Stn) (q : Report) : s.acceptReport q = s.accepted q := by
  have entered (l : List RecentReport) (e : RecentReport) :
      (if Config.recentCap ≤ l.length then l.drop (l.length + 1 - Config.recentCap) else l) ++ [e] =
        l.drop (l.length - 15) ++ [e] := by
    split
    · rfl
    next few =>
      have none : l.length - 15 = 0 := Nat.sub_eq_zero_of_le (Nat.lt_succ_iff.1 (Nat.not_le.1 few))
      rw [none, List.drop_zero]
  simp only [Stn.acceptReport, enterReport, Stn.accepted, entered]

theorem Stn.goodReport_of_suppressed (again : ¬q.isFresh s) :
    s.goodReport q = { s with ret.suppressed := satInc s.ret.suppressed } := if_pos ((s.suppresses_iff q).2 again)

theorem Stn.goodReport_of_fresh (fresh : q.isFresh s) : s.goodReport q = (s.accepted q).lookupReport q := by
  have new : ¬s.suppresses q = true := fun again => (s.suppresses_iff q).1 again fresh
  rw [Stn.goodReport, if_neg new, Stn.acceptReport_eq]

theorem Stn.lookupReport_of_foreign (none : s.recAt? q.addr = none) :
    s.lookupReport q = { s with ret.foreign := satInc s.ret.foreign } := by
  simp only [Stn.lookupReport, none]

theorem Stn.lookupReport_of_inTransit (found : s.recAt? q.addr = some r) (moves : s.inTransit r.admin.sub = true) :
    s.lookupReport q = s.countLate := by
  simp only [Stn.lookupReport, found, moves, if_true]

theorem Stn.lookupReport_of_found (found : s.recAt? q.addr = some r) (stays : s.inTransit r.admin.sub = false) :
    s.lookupReport q = s.actOnRecord r q := by
  simp only [Stn.lookupReport, found, stays, Bool.false_eq_true, if_false]

/-- A fresh report acts on the record that it finds. -/
theorem Stn.goodReport_of_finds (finds : q.finds s r) : s.goodReport q = (s.accepted q).actOnRecord r q := by
  obtain ⟨-, fresh, found, stays⟩ := finds
  exact (Stn.goodReport_of_fresh fresh).trans (Stn.lookupReport_of_found (s := s.accepted q) found stays)

theorem Stn.matchTag_of_no_head (none : s.head? r = none) (act : Message → Stn) : s.matchTag r tag act = s.countLate := by
  simp only [Stn.matchTag, none]

theorem Stn.matchTag_of_untagged (head : s.head? r = some m) (untagged : m.tag = none) (act : Message → Stn) :
    s.matchTag r tag act = s.countLate := by
  simp only [Stn.matchTag, head, untagged]

theorem Stn.matchTag_of_other {x : Tag} (head : s.head? r = some m) (tagged : m.tag = some x) (other : x ≠ tag)
    (act : Message → Stn) : s.matchTag r tag act = { s with ret.stale := satInc s.ret.stale } := by
  simp only [Stn.matchTag, head, tagged, if_neg other]

theorem Stn.matchTag_of_same (head : s.head? r = some m) (tagged : m.tag = some tag) (act : Message → Stn) :
    s.matchTag r tag act = act m := by
  simp only [Stn.matchTag, head, tagged, if_true]

end

/-- Settles O33: suppressed and foreign reports by the filter and the lookup, late and stale ones by the tag; bad
reports and gaps by the length of their kind. -/
theorem reportsWithoutEffectAreCounted : Obligations.ReportsWithoutEffectAreCounted := by
  unfold Obligations.ReportsWithoutEffectAreCounted
  refine fun s closed => ⟨fun q => ?_, fun bytes => ?_, fun q => ?_, fun f => ?_⟩
  · intro i t late
    refine ⟨fun again => ?_, fun fresh foreign => ?_, fun r fresh found moves => ?_, fun r a tag finds tagged => ?_⟩
    · exact exec_report closed (Stn.goodReport_of_suppressed again) rfl
    · exact exec_report closed ((Stn.goodReport_of_fresh fresh).trans (Stn.lookupReport_of_foreign (s := t) foreign)) rfl
    · exact exec_report closed ((Stn.goodReport_of_fresh fresh).trans
        (Stn.lookupReport_of_inTransit (s := t) found moves)) rfl
    · have acts : ∃ act, s.stn.goodReport q = t.matchTag r tag act := by
        obtain rfl | rfl := tagged
        · exact ⟨_, Stn.goodReport_of_finds finds⟩
        · exact ⟨_, Stn.goodReport_of_finds finds⟩
      obtain ⟨act, good⟩ := acts
      refine ⟨fun none => ?_, fun m head untagged => ?_, fun m x head other differs => ?_⟩
      · exact exec_report closed (good.trans (Stn.matchTag_of_no_head (s := t) none act)) rfl
      · exact exec_report closed (good.trans (Stn.matchTag_of_untagged (s := t) head untagged act)) rfl
      · exact exec_report closed (good.trans (Stn.matchTag_of_other (s := t) head other differs act)) rfl
  · intro counted
    refine ⟨fun kind rest isBytes => ?_, fun isEmpty => ?_⟩
    · intro size
      subst isBytes
      have length : (reportLength kind).getD 1 = size := reportLength_getD kind
      refine ⟨fun whole bad => ?_, fun good => ?_, fun inside => ?_, fun outside => ?_⟩
      · rw [exec_badReport closed, if_pos ⟨(wholeReport_iff _ _).2 (whole.trans length.symm), bad⟩]
      · refine (exec_badReport closed _).trans (congrArg _ (if_neg fun both => ?_))
        exact good.elim (· (((wholeReport_iff _ _).1 both.1).trans length)) (· both.2)
      · rw [exec_reportGap closed, if_pos ((insideReport_iff _ _).2 (length ▸ inside))]
      · refine (exec_reportGap closed _).trans (congrArg _ (if_neg fun inside => ?_))
        exact absurd (length ▸ (insideReport_iff _ _).1 inside) (Nat.not_lt.2 outside)
    · subst isEmpty
      exact ⟨exec_badReport closed [], exec_reportGap closed []⟩
  · obtain ⟨kind, rest, n, bytes, known, long⟩ := q.bytes_kind
    refine ⟨judgeReport_bytes q, ?_, ?_, fun k some short => ?_⟩
    · rw [exec_badReport closed, judgeReport_bytes q]
      exact congrArg _ (if_neg fun both => nomatch both.2)
    · rw [exec_reportGap closed, bytes]
      refine congrArg _ (if_neg fun inside => ?_)
      have less := (insideReport_iff _ _).1 inside
      rw [known, long] at less
      exact lt_irrefl n less
    · obtain ⟨j, rfl⟩ := Nat.exists_eq_add_of_le' some
      rw [bytes, List.length_cons] at short
      have inside : insideReport (kind :: rest.take j) = true := by
        refine (insideReport_iff _ _).2 ?_
        rw [known, List.length_take, Option.getD_some]
        omega
      rw [exec_reportGap closed, bytes, List.take_succ_cons, if_pos inside]
  · simp only [exec, execReportEntryAged, if_pos closed]
    rfl

end Sys2Proof.Machine
end


section
/-!
RESULT. What reports do to the head of a queue (R118, R146 to R150, R152, R157).
-/

namespace Sys2Proof.Machine

section
variable {s : Stn} {r : Record} {m : Message}

theorem Stn.acknowledge_of_committed (committed : s.committed m = true) (first : m.pending = none) :
    s.acknowledge m = { s with
      store := s.store.withMsg m.serial fun x => { x with pending := some .delivered } } := by
  rw [Stn.acknowledge, if_pos committed, first]
  exact Stn.updMsg_eq_withMsg _ _ _

theorem Stn.acknowledge_of_pending (committed : s.committed m = true) (again : m.pending ≠ none) :
    s.acknowledge m = s.countLate := by
  obtain ⟨p, pending⟩ := Option.ne_none_iff_exists'.1 again
  rw [Stn.acknowledge, if_pos committed, pending]

theorem Stn.acknowledge_of_free (free : s.committed m = false) :
    s.acknowledge m = s.finalOutcome m.serial .delivered := by
  rw [Stn.acknowledge, if_neg (Bool.eq_false_iff.1 free)]

theorem Stn.hold_of_committed (committed : s.committed m = true) : s.hold r m = s.countLate := if_pos committed

theorem Stn.hold_of_held (held : m.state = .held) : s.hold r m = s := by
  have free : s.committed m = false := by simp [Stn.committed, held]
  rw [Stn.hold, if_neg (Bool.eq_false_iff.1 free), held]

theorem Stn.hold_of_free (free : s.committed m = false) (other : m.state ≠ .held) :
    s.hold r m = { s.landed m with
      store := (s.landed m).store.withMsg m.serial fun x => { x with
        state := .held, target := none,
        ladder := x.ladder.map fun l => { l.inside (s.img.plans.get r.admin.plan) with
          wait := (s.img.plans.get r.admin.plan).hold } } } := by
  have plan : (s.landed m).planOf r = s.img.plans.get r.admin.plan := by
    rw [Stn.planOf, Stn.img, (s.landed_frame m).1]
    rfl
  have entered : (s.leaveFlight m).enterHold r m.serial = _ := Stn.updMsg_eq_withMsg _ _ _
  rw [Stn.hold, if_neg (Bool.eq_false_iff.1 free)]
  split
  next held => exact absurd held other
  next =>
    rw [entered, Stn.leaveFlight_eq_landed, plan]
    rfl

/-! ### READY and REGISTER (R149, R150) -/

theorem Stn.readyReport_of_empty (empty : r.queue = []) : s.readyReport r = s := by
  simp [Stn.readyReport, Stn.head?, empty]

theorem Stn.readyReport_of_other (head : s.head? r = some m) (other : m.state ≠ .held) : s.readyReport r = s := by
  simp only [Stn.readyReport, head, if_neg other]

theorem Stn.readyReport_of_held (head : s.head? r = some m) (held : m.state = .held) :
    s.readyReport r = s.endHold m.serial := by
  simp only [Stn.readyReport, head, if_pos held]

/-- The station with the zone that a REGISTER report gives the record (R150). -/
def Stn.zoned (s : Stn) (sub : Nat) (z : Zone) : Stn :=
  { s with subs := s.subs.withRec sub fun x => { x with lastZone := some z } }

theorem Stn.register_of_other (z : Zone) (head : s.head? r = some m) (other : m.state ≠ .paused) :
    s.register r z = s.zoned r.admin.sub z := by
  have still : (s.zoned r.admin.sub z).head? r = some m := head
  simp only [Stn.register, Stn.updRec_eq_withRec]
  rw [← Stn.zoned, still]
  exact if_neg other

/-- The wait of a PAUSED head ends, its round gap counting as 0. -/
theorem Stn.register_of_paused {l : Ladder} {inGap : Bool} {result : WaitResult} (z : Zone) (head : s.head? r = some m)
    (found : s.msg? m.serial = some m) (record : s.rec? r.admin.sub = some r) (sub : m.sub = r.admin.sub)
    (paused : m.state = .paused) (ladder : m.ladder = some l) (gap : inGap = true ↔ l.inner = 0)
    (ends : l.endWait (s.img.plans.get r.admin.plan) inGap true = result) :
    s.register r z = (s.zoned r.admin.sub z).waited m result := by
  have still : (s.zoned r.admin.sub z).head? r = some m := head
  have there : (s.zoned r.admin.sub z).rec? m.sub = some { r with lastZone := some z } := by
    rw [sub]
    exact rec?_withRec (f := fun x => { x with lastZone := some z }) (fun _ => rfl) record
  have ended : (s.zoned r.admin.sub z).endWait m.serial true = (s.zoned r.admin.sub z).waited m result :=
    Stn.endWait_eq found there ladder (gap.trans (and_iff_right paused).symm) ends
  simp only [Stn.register, Stn.updRec_eq_withRec]
  rw [← Stn.zoned, still, ← ended]
  exact if_pos paused

end

/-- Settles O34: RECEIVED, FULL and REGISTER by the state of the head, then READY. -/
theorem reportsActOnTheHead : Obligations.ReportsActOnTheHead := by
  unfold Obligations.ReportsActOnTheHead
  refine ⟨fun s r m a tag head found record sub => ?_, fun s r a => ?_⟩
  · intro plan late
    refine ⟨?_, ?_, fun z => ?_⟩
    · intro q finds tagged
      have good : s.stn.goodReport q = (s.stn.accepted q).acknowledge m :=
        (Stn.goodReport_of_finds finds).trans (Stn.matchTag_of_same (s := s.stn.accepted q) head tagged _)
      refine ⟨fun committed first => ?_, fun committed again => ?_, fun free final => ?_⟩
      · exact exec_report finds.1 (good.trans
          (Stn.acknowledge_of_committed (s := s.stn.accepted q) committed first)) rfl
      · exact exec_report finds.1 (good.trans (Stn.acknowledge_of_pending (s := s.stn.accepted q) committed again)) rfl
      · exact exec_report finds.1 (good.trans ((Stn.acknowledge_of_free (s := s.stn.accepted q) free).trans
          (Stn.finalOutcome_of_endsPlainly (s := s.stn.accepted q) final))) (by simp [Stn.ended, Stn.accepted])
    · intro q finds tagged
      have good : s.stn.goodReport q = (s.stn.accepted q).hold r m :=
        (Stn.goodReport_of_finds finds).trans (Stn.matchTag_of_same (s := s.stn.accepted q) head tagged _)
      refine ⟨fun committed => ?_, fun held => ?_, fun other free => ?_⟩
      · exact exec_report finds.1 (good.trans (Stn.hold_of_committed (s := s.stn.accepted q) committed)) rfl
      · exact exec_report finds.1 (good.trans (Stn.hold_of_held held)) rfl
      · exact exec_report finds.1 (good.trans (Stn.hold_of_free (s := s.stn.accepted q) free other))
          (by simp [Stn.accepted])
    · intro q t ready finds unique
      have good : s.stn.goodReport q = (s.stn.accepted q).register r z := Stn.goodReport_of_finds finds
      refine ⟨fun other => ?_, fun l0 paused ladder => ?_⟩
      · exact exec_report finds.1 (good.trans (Stn.register_of_other (s := s.stn.accepted q) z head other)) rfl
      · intro l
        have stores {inGap : Bool} {step inner outer : Nat} (gap : inGap = true ↔ l0.inner = 0)
            (ends : l0.endWait plan inGap true = .ready ⟨step, inner, outer, 0⟩) :
            exec q.command s = .next (ready step inner outer) :=
          exec_report finds.1 (good.trans (Stn.register_of_paused (s := s.stn.accepted q) z head found record sub paused
            ladder gap ends)) rfl
        have notGap (h : l0.inner ≠ 0) : false = true ↔ l0.inner = 0 := iff_of_false nofun h
        exact ⟨fun gap => stores (iff_of_true rfl gap) Ladder.endWait_of_gap,
          fun gap more => stores (notGap gap) (Ladder.endWait_of_repeat more),
          fun gap done goesOn => stores (notGap gap) (Ladder.endWait_of_step done goesOn),
          fun gap done ends more => stores (notGap gap) (Ladder.endWait_of_round done ends more (.inr rfl))⟩
  · intro q finds
    have good : s.stn.goodReport q = (s.stn.accepted q).readyReport r := Stn.goodReport_of_finds finds
    refine ⟨fun empty => exec_report finds.1 (good.trans (Stn.readyReport_of_empty empty)) rfl,
      fun m head => ⟨fun other => ?_, fun l0 held record ladder => ?_⟩⟩
    · exact exec_report finds.1 (good.trans (Stn.readyReport_of_other (s := s.stn.accepted q) head other)) rfl
    · intro p l
      have found : s.stn.msg? m.serial = some m := by
        obtain ⟨x, -, found⟩ := Option.bind_eq_some_iff.1 head
        rwa [Stn.msg?_serial found]
      have ended : s.stn.goodReport q = _ := good.trans ((Stn.readyReport_of_held (s := s.stn.accepted q) head held).trans
        (Stn.endHold_eq (s := s.stn.accepted q) found record ladder))
      have stores {x : Ladder} (is : l0.endHold p = x) : exec (.reportReady a) s = .next { s with
          stn := { s.stn.accepted q with store := s.stn.store.readied m x } } := by
        subst is
        exact exec_report finds.1 ended rfl
      exact ⟨fun zero => stores (Ladder.endHold_of_zero zero), fun pos => stores (Ladder.endHold_of_pos pos)⟩

end Sys2Proof.Machine
end


section
/-!
SUPPORT. The choice of notes for a frame (R25, R33, R199): what each pass through the outbox leaves of the choice under
way, and from it what becomes of every note.
-/

namespace Sys2Proof.Machine

/-! ### One note of the choice -/

theorem NoteBody.isForward_iff (n : Note) : n.body.isForward = true ↔ n.forwardTag? ≠ none := by
  cases h : n.body <;> simp [NoteBody.isForward, Note.forwardTag?, h]

theorem Note.eligible_iff (n : Note) (outbox : List Note) : n.eligible outbox = true ↔ n.maySend outbox := by
  have held : (!(n.body.isForward && n.held)) = true ↔ (n.forwardTag? ≠ none → n.held = false) := by
    rw [← NoteBody.isForward_iff]
    cases n.body.isForward <;> simp
  have few : (decide (0 < n.sends) || decide (inFlight n.dest outbox < Config.takeMemoryCap)) = true ↔
      (n.sends = 0 → (outbox.filter fun o => decide (o.dest = n.dest ∧ 0 < o.sends)).length < 16) := by
    rw [Bool.or_eq_true, decide_eq_true_eq, decide_eq_true_eq, Nat.pos_iff_ne_zero, or_iff_not_imp_left, not_not]
    rfl
  rw [Note.eligible, Bool.and_eq_true, Bool.and_eq_true, held, few, and_assoc]
  simp [Note.maySend]

/-- The choice passes this note to the frame: it is eligible, the frame has a note free, and no older note to its
addressee was left for want of room. -/
def Choice.wants (c : Choice) (n : Note) (younger : List Note) : Prop :=
  n.maySend (c.passed ++ n :: younger) ∧ c.placed.length < 4 ∧ n.dest ∉ c.shut

/-- The note goes in the frame. -/
def Choice.takes (c : Choice) (n : Note) (younger : List Note) : Prop := c.wants n younger ∧ n.size ≤ c.room

/-- The note as it stands once placed (R25). -/
def Choice.sentNote (c : Choice) (n : Note) : Note :=
  { n with serial := some (n.serial.getD (c.counters.get n.dest)), sends := n.sends + 1, awaiting := true }

/-- The choice with the note passed over. -/
def Choice.pass (c : Choice) (n : Note) : Choice := { c with passed := c.passed ++ [n] }

/-- The choice behind one note of the outbox. -/
def Choice.next (c : Choice) (n : Note) (younger : List Note) : Choice :=
  if n.eligible (c.passed ++ n :: younger) && decide (c.placed.length < Config.notesPerFrame) && !c.shut.contains n.dest then
    if n.size ≤ c.room then c.place n else { c.pass n with shut := n.dest :: c.shut }
  else c.pass n

theorem chooseNotes_cons (n : Note) (rest : List Note) (c : Choice) :
    chooseNotes (n :: rest) c = chooseNotes rest (c.next n rest) := by
  rw [chooseNotes, Choice.next]
  split
  · split <;> rfl
  · rfl

section
variable {c : Choice} {n : Note} {younger : List Note}

theorem Choice.wants_iff (c : Choice) (n : Note) (younger : List Note) : c.wants n younger ↔
    (n.eligible (c.passed ++ n :: younger) && decide (c.placed.length < Config.notesPerFrame) &&
      !c.shut.contains n.dest) = true := by
  rw [Bool.and_eq_true, Bool.and_eq_true, Note.eligible_iff, and_assoc]
  rw [Choice.wants, decide_eq_true_eq]
  simp [Config.notesPerFrame]

theorem Choice.next_of_takes (takes : c.takes n younger) : c.next n younger = c.place n := by
  rw [Choice.next, if_pos ((c.wants_iff n younger).1 takes.1), if_pos takes.2]

theorem Choice.next_of_no_room (wants : c.wants n younger) (full : ¬n.size ≤ c.room) :
    c.next n younger = { c.pass n with shut := n.dest :: c.shut } := by
  rw [Choice.next, if_pos ((c.wants_iff n younger).1 wants), if_neg full]

theorem Choice.next_of_unwanted (not : ¬c.wants n younger) : c.next n younger = c.pass n := by
  rw [Choice.next, if_neg (mt (c.wants_iff n younger).2 not)]

theorem Choice.next_passed_of_takes (takes : c.takes n younger) :
    (c.next n younger).passed = c.passed ++ [c.sentNote n] := by
  rw [Choice.next_of_takes takes]
  rfl

theorem Choice.next_passed_of_not (not : ¬c.takes n younger) : (c.next n younger).passed = c.passed ++ [n] := by
  by_cases wants : c.wants n younger
  · rw [Choice.next_of_no_room wants fun room => not ⟨wants, room⟩]
    rfl
  · rw [Choice.next_of_unwanted wants]
    rfl

end

/-! ### The notes sent so far -/

theorem sentPairs_append {done passed : List Note} (same : passed.length = done.length) (n m : Note) :
    sentPairs (done ++ [n]) (passed ++ [m]) = sentPairs done passed ++ sentPairs [n] [m] := by
  rw [sentPairs, List.zip_append same.symm, List.filter_append]
  rfl

theorem sentPairs_self (n : Note) : sentPairs [n] [n] = [] := by simp [sentPairs]

theorem sentPairs_sentNote (c : Choice) (n : Note) : sentPairs [n] [c.sentNote n] = [(n, c.sentNote n)] := by
  have changed : n ≠ c.sentNote n := fun same => by
    have sends : n.sends = n.sends + 1 := congrArg Note.sends same
    omega
  simp [sentPairs, changed]

/-- How many serials of an addressee's counter these notes take. -/
def firstTo (k : Station) (l : List (Note × Note)) : NoteSerial :=
  BitVec.ofNat 8 (l.filter fun p => decide (p.1.dest = k ∧ p.1.serial = none)).length

/-- A note as the frame carries it. -/
def wireOf (p : Note × Note) : WireNote := { dest := p.1.dest, serial := p.2.serial.getD 0, body := p.1.body }

theorem firstTo_append (k : Station) (l m : List (Note × Note)) : firstTo k (l ++ m) = firstTo k l + firstTo k m := by
  rw [firstTo, List.filter_append, List.length_append, BitVec.ofNat_add]
  rfl

theorem noteBytes_append (l m : List (Note × Note)) : noteBytes (l ++ m) = noteBytes l + noteBytes m := by
  rw [noteBytes, List.map_append, List.sum_append]
  rfl

/-- An older note to k might have gone, and was left. -/
def ShutAt (k : Station) (done passed rest : List Note) : Prop :=
  ∃ (a a' b b' : List Note) (o : Note), done = a ++ o :: b ∧ passed = a' ++ o :: b' ∧
    a.length = a'.length ∧ o.dest = k ∧ o.maySend (a' ++ o :: (b ++ rest))

theorem shutAt_append {k : Station} {done passed rest : List Note} {n m : Note} (same : passed.length = done.length) :
    ShutAt k (done ++ [n]) (passed ++ [m]) rest ↔
      ShutAt k done passed (n :: rest) ∨ m = n ∧ n.dest = k ∧ n.maySend (passed ++ n :: rest) := by
  constructor
  · rintro ⟨a, a', b, b', o, older, after, length, dest, may⟩
    have lengths := congrArg List.length older
    have lengths' := congrArg List.length after
    simp only [List.length_append, List.length_cons, List.length_nil] at lengths lengths'
    obtain rfl | ⟨b₀, x, rfl⟩ := b.eq_nil_or_concat'
    · obtain rfl : b' = [] := List.eq_nil_of_length_eq_zero (by rw [List.length_nil] at lengths; omega)
      obtain ⟨rfl, one⟩ := List.append_inj' older rfl
      obtain ⟨rfl, one'⟩ := List.append_inj' after rfl
      obtain rfl : n = o := by simpa using one
      obtain rfl : m = n := by simpa using one'
      exact .inr ⟨rfl, dest, may⟩
    · obtain rfl | ⟨b₀', y, rfl⟩ := b'.eq_nil_or_concat'
      · rw [List.length_append, List.length_singleton] at lengths
        rw [List.length_nil] at lengths'
        omega
      · obtain ⟨rfl, one⟩ := List.append_inj' (older.trans (List.append_assoc a (o :: b₀) [x]).symm) rfl
        obtain ⟨rfl, -⟩ := List.append_inj' (after.trans (List.append_assoc a' (o :: b₀') [y]).symm) rfl
        obtain rfl : n = x := by simpa using one
        rw [List.append_assoc] at may
        exact .inl ⟨a, a', b₀, b₀', o, rfl, rfl, length, dest, may⟩
  · rintro (⟨a, a', b, b', o, rfl, rfl, length, dest, may⟩ | ⟨rfl, dest, may⟩)
    · refine ⟨a, a', b ++ [n], b' ++ [m], o, by simp, by simp, length, dest, ?_⟩
      rw [List.append_assoc]
      exact may
    · exact ⟨done, passed, [], [], m, rfl, rfl, same.symm, dest, may⟩

/-! ### The choice under way -/

/-- The choice c has passed through the notes `done`, and `rest` are still to come. -/
structure Choice.Tracks (start c : Choice) (done rest : List Note) : Prop where
  length : c.passed.length = done.length
  placed : c.placed = (sentPairs done c.passed).map wireOf
  counters : ∀ k : Station, c.counters.get k = start.counters.get k + firstTo k (sentPairs done c.passed)
  resent : c.resent = ((sentPairs done c.passed).filter fun p => decide (1 ≤ p.1.sends)).foldl
    (fun c _ => satInc c) start.resent
  room : c.room + noteBytes (sentPairs done c.passed) = start.room
  few : c.placed.length ≤ 4
  shut : c.placed.length < 4 → ∀ k, k ∈ c.shut ↔ ShutAt k done c.passed rest

section
variable {start c : Choice} {done rest : List Note} {n : Note}

/-- Passing over a note changes what has been passed alone. -/
theorem Choice.Tracks.pass (h : start.Tracks c done (n :: rest)) {shut : List Station}
    (shuts : c.placed.length < 4 → ∀ k, k ∈ shut ↔ k ∈ c.shut ∨ n.dest = k ∧ n.maySend (c.passed ++ n :: rest)) :
    start.Tracks { c.pass n with shut := shut } (done ++ [n]) rest := by
  have pairs : sentPairs (done ++ [n]) (c.passed ++ [n]) = sentPairs done c.passed := by
    rw [sentPairs_append h.length, sentPairs_self, List.append_nil]
  refine ⟨?_, ?_, ?_, ?_, ?_, h.few, fun few k => ?_⟩
  · simp [Choice.pass, h.length]
  · exact h.placed.trans (by rw [← pairs]; rfl)
  · exact fun k => (h.counters k).trans (by rw [← pairs]; rfl)
  · exact h.resent.trans (by rw [← pairs]; rfl)
  · refine Eq.trans ?_ h.room
    rw [← pairs]
    rfl
  · rw [shuts few k, h.shut few k]
    refine Iff.trans ?_ (shutAt_append h.length).symm
    simp

theorem Choice.Tracks.place (h : start.Tracks c done (n :: rest)) (takes : c.takes n rest) :
    start.Tracks (c.place n) (done ++ [n]) rest := by
  have pairs : sentPairs (done ++ [n]) (c.place n).passed = sentPairs done c.passed ++ [(n, c.sentNote n)] := by
    refine (sentPairs_append h.length n (c.sentNote n)).trans ?_
    rw [sentPairs_sentNote]
  obtain ⟨⟨may, few, open_⟩, fits⟩ := takes
  refine ⟨?_, ?_, fun k => ?_, ?_, ?_, ?_, fun few' k => ?_⟩
  · simp [Choice.place, h.length]
  · rw [pairs, List.map_append, ← h.placed]
    rfl
  · rw [pairs, firstTo_append, ← BitVec.add_assoc, ← h.counters k]
    cases serial : n.serial with
    | some x => simp [Choice.place, firstTo, serial]
    | none =>
      by_cases same : n.dest = k
      · subst same
        simp only [Choice.place, serial, Option.getD_none, get_set]
        simp [firstTo, serial]
      · simp only [Choice.place, serial, Option.getD_none]
        rw [get_set_ne _ _ same]
        simp [firstTo, same]
  · rw [pairs, List.filter_append, List.foldl_append, ← h.resent]
    by_cases again : 1 ≤ n.sends
    · simp [Choice.place, again]
    · simp [Choice.place, again]
  · rw [pairs, noteBytes_append, ← h.room]
    have size : noteBytes [(n, c.sentNote n)] = n.size := by simp [noteBytes, Note.size]
    have left : (c.place n).room = c.room - n.size := rfl
    rw [size, left]
    omega
  · simpa [Choice.place] using few
  · have unsent : c.sentNote n ≠ n := fun same => by
      have sends : n.sends + 1 = n.sends := congrArg Note.sends same
      omega
    refine (h.shut few k).trans ((shutAt_append h.length).trans ?_).symm
    exact or_iff_left fun both => unsent both.1

theorem Choice.Tracks.next (h : start.Tracks c done (n :: rest)) : start.Tracks (c.next n rest) (done ++ [n]) rest := by
  by_cases wants : c.wants n rest
  · by_cases fits : n.size ≤ c.room
    · rw [Choice.next_of_takes ⟨wants, fits⟩]
      exact h.place ⟨wants, fits⟩
    · rw [Choice.next_of_no_room wants fits]
      refine h.pass fun _ k => ?_
      rw [List.mem_cons, eq_comm, or_comm, and_iff_left wants.1]
  · rw [Choice.next_of_unwanted wants]
    refine h.pass (shut := c.shut) fun few k => (or_iff_left_of_imp ?_).symm
    rintro ⟨rfl, may⟩
    exact not_not.1 fun open_ => wants ⟨may, few, open_⟩

/-- The conditions for a note, in the notes sent before it. -/
theorem Choice.Tracks.takes_iff (h : start.Tracks c done (n :: rest)) {base : Nat} (within : base ≤ 472)
    (room : start.room = 472 - base) : c.takes n rest ↔
      n.maySend (c.passed ++ n :: rest) ∧ (sentPairs done c.passed).length < 4 ∧
        base + noteBytes (sentPairs done c.passed) + 3 + n.body.content.length ≤ 472 ∧
        ¬ShutOut n done c.passed rest := by
  have count : c.placed.length = (sentPairs done c.passed).length := by rw [h.placed, List.length_map]
  have fits : n.size ≤ c.room ↔ base + noteBytes (sentPairs done c.passed) + 3 + n.body.content.length ≤ 472 := by
    have held := h.room
    rw [Note.size]
    omega
  rw [Choice.takes, Choice.wants, fits, count]
  constructor
  · rintro ⟨⟨may, few, open_⟩, bytes⟩
    exact ⟨may, few, bytes, fun out => open_ ((h.shut (count.trans_lt few) n.dest).2 out)⟩
  · rintro ⟨may, few, bytes, open_⟩
    exact ⟨⟨may, few, fun shut => open_ ((h.shut (count.trans_lt few) n.dest).1 shut)⟩, bytes⟩

end

/-- The whole pass: the choice at its end, and the choice at each note. -/
theorem chooseNotes_tracks {start : Choice} (rest : List Note) {c : Choice} {done : List Note}
    (h : start.Tracks c done rest) : start.Tracks (chooseNotes rest c) (done ++ rest) [] ∧
      ∃ tail, (chooseNotes rest c).passed = c.passed ++ tail ∧ tail.length = rest.length ∧
        ∀ older n younger, rest = older ++ n :: younger →
          ∀ olderAfter m youngerAfter, tail = olderAfter ++ m :: youngerAfter → older.length = olderAfter.length →
            ∃ d : Choice, start.Tracks d (done ++ older) (n :: younger) ∧ d.passed = c.passed ++ olderAfter ∧
              (d.next n younger).passed = d.passed ++ [m] := by
  induction rest generalizing c done with
  | nil =>
    refine ⟨by rwa [List.append_nil], [], (List.append_nil _).symm, rfl, fun older n younger split => ?_⟩
    simp at split
  | cons n₀ rest ih =>
    obtain ⟨ended, tail, passed, length, each⟩ := ih h.next
    obtain ⟨m₀, one⟩ : ∃ m₀, (c.next n₀ rest).passed = c.passed ++ [m₀] := by
      by_cases takes : c.takes n₀ rest
      · exact ⟨_, Choice.next_passed_of_takes takes⟩
      · exact ⟨_, Choice.next_passed_of_not takes⟩
    rw [chooseNotes_cons]
    refine ⟨by rwa [List.append_assoc] at ended, m₀ :: tail, ?_, congrArg (· + 1) length,
      fun older n younger split olderAfter m youngerAfter splitAfter same => ?_⟩
    · rw [passed, one, List.append_assoc]
      rfl
    · cases older with
      | nil =>
        obtain rfl := List.eq_nil_of_length_eq_zero same.symm
        obtain ⟨rfl, rfl⟩ := List.cons.inj split
        obtain ⟨rfl, -⟩ := List.cons.inj splitAfter
        exact ⟨c, by rwa [List.append_nil], (List.append_nil _).symm, one⟩
      | cons o older =>
        cases olderAfter with
        | nil => cases same
        | cons o' olderAfter =>
          obtain ⟨rfl, rfl⟩ := List.cons.inj split
          obtain ⟨rfl, rfl⟩ := List.cons.inj splitAfter
          obtain ⟨d, tracks, before, after⟩ := each older n younger rfl olderAfter m youngerAfter rfl (Nat.succ.inj same)
          rw [one, List.append_assoc] at before
          rw [List.append_assoc] at tracks
          exact ⟨d, tracks, before, after⟩

end Sys2Proof.Machine
end


section
/-!
RESULT. The frame of this station's window (R21, R25, R31, R33, R111, R125, R127, R153, R199).
-/

namespace Sys2Proof.Machine

/-! ### The length of a frame (R199, R200) -/

theorem length_flatMap_of_each {α β : Type} {f : α → List β} {k : Nat} (each : ∀ x, (f x).length = k) (l : List α) :
    (l.flatMap f).length = k * l.length := by
  induction l with
  | nil => rfl
  | cons x l ih => rw [List.flatMap_cons, List.length_append, each, ih, List.length_cons, Nat.mul_succ, Nat.add_comm]

theorem length_noteBytes (l : List (Note × Note)) : ((l.map wireOf).flatMap WireNote.bytes).length = noteBytes l := by
  induction l with
  | nil => rfl
  | cons p l ih =>
    have one : (wireOf p).bytes.length = 3 + p.1.body.content.length := by
      simp only [wireOf, WireNote.bytes, List.length_cons]
      omega
    rw [List.map_cons, List.flatMap_cons, List.length_append, ih, one]
    rfl

theorem RoundFrame.length_bytes (f : RoundFrame) : f.bytes.length =
    20 + 2 * f.takes.length + 3 * f.claims.length + (f.notes.flatMap WireNote.bytes).length := by
  have takes := length_flatMap_of_each (f := takeBytes) (k := 2) (fun _ => rfl) f.takes
  have claims := length_flatMap_of_each (f := Claim.bytes) (k := 3) (fun _ => rfl) f.claims
  simp only [RoundFrame.bytes, withCheck, RoundFrame.tail, List.length_append, List.length_cons, length_be, takes, claims]
  omega

/-! ### The claims of the window (R111, R125, R127, R153) -/

theorem Stn.abstainFrom_eq (s : Stn) (t : FrameNo) : s.abstainFrom t = s.abstained t := by
  unfold Stn.abstainFrom Stn.abstained
  by_cases marked : t ∈ s.air.abstain
  · rw [if_pos (List.contains_iff_mem.2 marked), if_pos marked]
  · rw [if_neg (mt List.contains_iff_mem.1 marked), if_neg marked]

section
variable {s : Stn} {f : FrameNo} {index : Fin 4}

theorem Stn.windowClaims_of_last (last : index = 3) : s.windowClaims f index = s := if_pos last

theorem Stn.windowClaims_of_joining (early : index ≠ 3) (joining : s.cust.state = .joining) :
    s.windowClaims f index = s.abstained (f + 2) := by
  rw [Stn.windowClaims, if_neg early, joining]
  exact s.abstainFrom_eq _

theorem Stn.windowClaims_of_abstained (early : index ≠ 3) (member : s.cust.state ≠ .joining)
    (marked : f + 2 ∈ s.air.abstain) : s.windowClaims f index = s := by
  rw [Stn.windowClaims, if_neg early]
  split
  next joining => exact absurd joining member
  next => exact if_pos (List.contains_iff_mem.2 marked)

theorem Stn.windowClaims_of_free (early : index ≠ 3) (member : s.cust.state ≠ .joining)
    (free : f + 2 ∉ s.air.abstain) : s.windowClaims f index = Stn.takeClaims (f + 2) 8 s := by
  rw [Stn.windowClaims, if_neg early]
  split
  next joining => exact absurd joining member
  next => exact if_neg (mt List.contains_iff_mem.1 free)

end

section
variable {s : Stn} {t : FrameNo} {m : Message} {r : Record}

theorem Stn.takeClaims_of_none (t : FrameNo) (fuel : Nat) (stop : s.nextReady = none ∨ 8 ≤ s.air.claims.length) :
    Stn.takeClaims t fuel s = s := by
  cases fuel with
  | zero => rfl
  | succ n =>
    rw [Stn.takeClaims]
    split
    next room =>
      have none : s.nextReady = .none := stop.resolve_right (Nat.not_le.2 room)
      rw [none]
    next => rfl

theorem Stn.nextReady_of_empty (empty : s.store.urgent ++ s.store.normal = []) : s.nextReady = none := by
  obtain ⟨urgent, normal⟩ := List.append_eq_nil_iff.1 empty
  simp [Stn.nextReady, urgent, normal]

theorem Stn.nextReady_of_one {x : Serial} (one : s.store.urgent ++ s.store.normal = [x]) :
    s.nextReady = some x ∧ s.store.urgent.filter (· ≠ x) = [] ∧ s.store.normal.filter (· ≠ x) = [] := by
  obtain ⟨urgent, normal⟩ | ⟨urgent, normal⟩ := List.append_eq_singleton_iff.1 one
  · simp [Stn.nextReady, urgent, normal]
  · simp [Stn.nextReady, urgent, normal]

/-- The message has been taken for a claim, with these changes at its first claim (R111, R153). -/
def Stn.claimed (s : Stn) (t : FrameNo) (serial : Serial) (f : Message → Message) : Stn :=
  { s with store := { s.store.withMsg serial fun x => f { x with state := .claimed, target := some t } with
      urgent := [], normal := [] } }

theorem Stn.takeForClaim_of_tagged (one : s.store.urgent ++ s.store.normal = [m.serial])
    (found : s.msg? m.serial = some m) (record : s.rec? m.sub = some r) (tagged : m.tag ≠ none) :
    s.takeForClaim t m.serial = s.claimed t m.serial id := by
  obtain ⟨tag, some⟩ := Option.ne_none_iff_exists'.1 tagged
  obtain ⟨-, urgent, normal⟩ := Stn.nextReady_of_one one
  simp only [Stn.takeForClaim, Stn.msgRec?_eq found record, some, Stn.updMsg_eq_withMsg, Stn.leaveReady, urgent, normal]
  rfl

theorem Stn.takeForClaim_of_untagged (one : s.store.urgent ++ s.store.normal = [m.serial])
    (found : s.msg? m.serial = some m) (record : s.rec? m.sub = some r) (untagged : m.tag = none) :
    s.takeForClaim t m.serial = { s.claimed t m.serial fun x => { x with
        tag := some r.nextTag, ladder := some (s.img.plans.get r.admin.plan).start } with
      subs := s.subs.withRec m.sub fun x => { x with nextTag := x.nextTag + 1 } } := by
  obtain ⟨-, urgent, normal⟩ := Stn.nextReady_of_one one
  have both (u : Store) : (u.withMsg m.serial fun x => { x with state := .claimed, target := some t }).withMsg m.serial
      (fun x => { x with tag := some r.nextTag, ladder := some (s.planOf r).start }) =
        u.withMsg m.serial fun x => { x with
          state := .claimed, target := some t, tag := some r.nextTag, ladder := some (s.planOf r).start } := by
    refine Store.withMsg_withMsg _ _ ?_
    exact fun _ => rfl
  simp only [Stn.takeForClaim, Stn.msgRec?_eq found record, untagged, Stn.updMsg_eq_withMsg, Stn.updRec_eq_withRec,
    Stn.leaveReady, urgent, normal, both]
  rfl

/-- The claim of the only READY message. -/
theorem Stn.takeClaims_of_one {u : Stn} (one : s.store.urgent ++ s.store.normal = [m.serial])
    (found : s.msg? m.serial = some m) (noClaims : s.air.claims = []) (taken : s.takeForClaim t m.serial = u)
    (claims : u.air.claims = []) (urgent : u.store.urgent = []) (normal : u.store.normal = []) :
    Stn.takeClaims t 8 s = { u with
      air.claims := [{ target := t, urgent := decide (m.priority = .urgent), slots := m.blocks.length, number := 0,
                       message := some m.serial }] } := by
  obtain ⟨next, -⟩ := Stn.nextReady_of_one one
  have claim : s.claimFor t m =
      ⟨t, decide (m.priority = .urgent), m.blocks.length, 0, some m.serial⟩ := by
    rw [Stn.claimFor, noClaims]
    rfl
  have room : s.air.claims.length < Config.claimCap := by rw [noClaims]; decide
  rw [Stn.takeClaims]
  simp only [if_pos room, next, found, taken, claims, claim, List.nil_append]
  refine Stn.takeClaims_of_none t 7 (.inl (Stn.nextReady_of_empty ?_))
  exact List.append_eq_nil_iff.2 ⟨urgent, normal⟩

/-- No more than 8 claims are taken. -/
theorem Stn.takeClaims_length (t : FrameNo) (fuel : Nat) {s : Stn} (within : s.air.claims.length ≤ 8) :
    (Stn.takeClaims t fuel s).air.claims.length ≤ 8 := by
  induction fuel generalizing s with
  | zero => exact within
  | succ n ih =>
    rw [Stn.takeClaims]
    split
    next room =>
      split
      next => exact within
      next serial _ =>
        split
        next => exact ih within
        next =>
          refine ih ?_
          rw [List.length_append, Stn.takeForClaim_claims, List.length_singleton]
          exact room
    next => exact within

theorem Stn.windowClaims_length {f : FrameNo} {index : Fin 4} (within : s.air.claims.length ≤ 8) :
    (s.windowClaims f index).air.claims.length ≤ 8 := by
  have abstained (g : FrameNo) : (s.abstainFrom g).air.claims.length ≤ 8 := by
    unfold Stn.abstainFrom
    split <;> exact within
  unfold Stn.windowClaims
  repeat' split
  · exact within
  · exact abstained _
  · exact within
  · exact Stn.takeClaims_length _ _ within

end

/-! ### The frame is sent -/

/-- The station behind its window, with this frame. -/
def Stn.framed (s : Stn) (r : RoundPos) (f : RoundFrame) : Stn :=
  { s with bus := { s.bus with
      frameOut := f.bytes, takes := [], round := some { r with left := r.left.tail } } }

section
variable {s t : Stn} {r : RoundPos}

/-- The station behind its window, by the choice of its notes. -/
theorem Stn.ownWindow_eq (ready : s.testDeclaration.windowClaims r.frame r.index = t) : s.ownWindow r =
    { t.framed r (t.frameFor r) with bus := { (t.framed r (t.frameFor r)).bus with
      outbox := (t.choice r).passed, counters := (t.choice r).counters, resent := (t.choice r).resent } } := by
  rw [Stn.ownWindow, ready]
  rfl

theorem Stn.choice_of_empty (empty : t.bus.outbox = []) : (t.choice r).passed = [] ∧ (t.choice r).placed = [] ∧
    (t.choice r).counters = t.bus.counters ∧ (t.choice r).resent = t.bus.resent := by
  rw [Stn.choice, empty]
  exact ⟨rfl, rfl, rfl, rfl⟩

theorem Stn.ownWindow_of_empty (ready : s.testDeclaration.windowClaims r.frame r.index = t)
    (empty : t.bus.outbox = []) : s.ownWindow r = t.framed r { t.frameFor r with notes := [] } := by
  obtain ⟨passed, placed, counters, resent⟩ := Stn.choice_of_empty (r := r) empty
  have frame : t.frameFor r = { t.frameFor r with notes := [] } := by
    rw [Stn.frameFor, placed]
  rw [Stn.ownWindow_eq ready, passed, counters, resent, ← frame, ← empty]
  rfl

theorem Stn.testDeclaration_of_not_pending (none : s.cust.declaration ≠ .pending) : s.testDeclaration = s := if_neg none

theorem Stn.claimsSent_of_last (last : r.index = 3) : s.claimsSent r.index = [] := if_pos (.inl last)

theorem Stn.claimsSent_of_joining (joining : s.cust.state = .joining) : s.claimsSent r.index = [] :=
  if_pos (.inr joining)

theorem Stn.claimsSent_of_member (early : r.index ≠ 3) (member : s.cust.state ≠ .joining) :
    s.claimsSent r.index = s.air.claims := if_neg (not_or.2 ⟨early, member⟩)

/-- The frame of this station with these claims and notes, of round position r. -/
def Stn.roundFrame (s : Stn) (r : RoundPos) (claims : List Claim) (notes : List WireNote) : RoundFrame :=
  { sender := s.self, state := s.cust.state, office := s.img.office, frame := r.frame, draining := s.draining,
    index := r.index, period := s.bill.period, silence := s.silenceList, custody := s.custodySent,
    takes := s.bus.takes.take 8, claims := claims, notes := notes }

theorem Stn.frameFor_eq {claims : List Claim} (same : t.claimsSent r.index = claims) :
    t.frameFor r = t.roundFrame r claims (t.choice r).placed := by
  rw [Stn.frameFor, same]
  rfl

/-- The only note of the outbox goes in the frame of round 3. -/
theorem Stn.choice_of_one {n : Note} (last : r.index = 3) (one : s.bus.outbox = [n]) (due : n.awaiting = false)
    (free : n.forwardTag? ≠ none → n.held = false)
    (fits : 20 + 2 * (s.bus.takes.take 8).length + 3 + n.body.content.length ≤ 472) : ∃ c : Choice,
      c.passed = [] ∧ c.placed = [] ∧ c.counters = s.bus.counters ∧ c.resent = s.bus.resent ∧ s.choice r = c.place n := by
  have may : n.maySend [n] := by
    refine ⟨due, free, fun none => ?_⟩
    simp [none]
  rw [Stn.choice, one, Stn.claimsSent_of_last last, chooseNotes_cons, Choice.next_of_takes]
  · exact ⟨_, rfl, rfl, rfl, rfl, rfl⟩
  · refine ⟨⟨may, Nat.zero_lt_succ 3, List.not_mem_nil⟩, ?_⟩
    change n.size ≤ 472 - (20 + 2 * (s.bus.takes.take 8).length + 3 * 0)
    rw [Note.size]
    omega

end

end Sys2Proof.Machine
end


section
/-!
RESULT. The frame of this station's window, whatever its outbox holds (R25, R33, R199), and O36.
-/

namespace Sys2Proof.Machine

/-- Nothing has been passed yet. -/
theorem Choice.Tracks.start {c : Choice} (passed : c.passed = []) (placed : c.placed = []) (shut : c.shut = [])
    (rest : List Note) : c.Tracks c [] rest := by
  have pairs : sentPairs [] c.passed = [] := rfl
  refine ⟨by rw [passed], by rw [placed, pairs]; rfl, fun k => ?_, by rw [pairs]; rfl, by rw [pairs]; rfl, by rw [placed]; decide,
    fun _ k => ?_⟩
  · rw [pairs]
    exact (BitVec.add_zero _).symm
  · rw [shut]
    refine iff_of_false List.not_mem_nil ?_
    rintro ⟨a, a', b, b', o, none, -⟩
    simp at none

section
variable {s t : Stn} {r : RoundPos}

/-- The bytes of the frame before its notes are within the frame. -/
theorem Stn.frameBase_le (claims : t.air.claims.length ≤ 8) :
    20 + 2 * (t.bus.takes.take 8).length + 3 * (t.claimsSent r.index).length ≤ 472 := by
  have few : (t.bus.takes.take 8).length ≤ 8 := List.length_take_le 8 _
  have sent : (t.claimsSent r.index).length ≤ 8 := by
    unfold Stn.claimsSent
    split
    · exact Nat.zero_le _
    · exact claims
  omega

/-- What becomes of each note of the outbox (R25, R33, R199), in the vocabulary of the statement. -/
theorem Stn.choice_spec (claims : t.air.claims.length ≤ 8) :
    let base := 20 + 2 * (t.bus.takes.take 8).length + 3 * (t.claimsSent r.index).length
    let before := t.bus.outbox
    let after := (t.choice r).passed
    let sent := sentPairs before after
    after.length = before.length ∧ (t.choice r).placed = sent.map wireOf ∧ sent.length ≤ 4 ∧
      base + noteBytes sent ≤ 472 ∧
      (∀ k : Station, (t.choice r).counters.get k = t.bus.counters.get k + firstTo k sent) ∧
      (t.choice r).resent = (sent.filter fun p => decide (1 ≤ p.1.sends)).foldl (fun c _ => satInc c) t.bus.resent ∧
      ∀ (older younger olderAfter youngerAfter : List Note) (n m : Note),
        before = older ++ n :: younger → after = olderAfter ++ m :: youngerAfter → older.length = olderAfter.length →
          let goes := n.maySend (olderAfter ++ n :: younger) ∧ (sentPairs older olderAfter).length < 4 ∧
            base + noteBytes (sentPairs older olderAfter) + 3 + n.body.content.length ≤ 472 ∧
            ¬ShutOut n older olderAfter younger
          (goes → m = { n with
            serial := some (n.serial.getD (t.bus.counters.get n.dest + firstTo n.dest (sentPairs older olderAfter))),
            sends := n.sends + 1, awaiting := true }) ∧
          (¬goes → m = n) := by
  intro base before after sent
  have within : base ≤ 472 := Stn.frameBase_le claims
  obtain ⟨ended, tail, passed, length, each⟩ := chooseNotes_tracks t.bus.outbox
    (Choice.Tracks.start (c := {
      passed := [], placed := [], counters := t.bus.counters, resent := t.bus.resent, room := 472 - base, shut := [] })
      rfl rfl rfl t.bus.outbox)
  rw [List.nil_append] at ended passed
  have room : (t.choice r).room + noteBytes sent = 472 - base := ended.room
  refine ⟨ended.length, ended.placed, ?_, by omega, ended.counters, ended.resent,
    fun older younger olderAfter youngerAfter n m split splitAfter same => ?_⟩
  · have count := congrArg List.length ended.placed
    rw [List.length_map] at count
    exact count.symm.le.trans ended.few
  · intro goes
    obtain ⟨d, tracks, before', after'⟩ :=
      each older n younger split olderAfter m youngerAfter (passed.symm.trans splitAfter) same
    rw [List.nil_append] at tracks before'
    have decides : d.takes n younger ↔ goes := by
      rw [tracks.takes_iff within rfl, before']
    refine ⟨fun yes => ?_, fun no => ?_⟩
    · have one := after'.symm.trans (Choice.next_passed_of_takes (decides.2 yes))
      have is : m = d.sentNote n := by simpa using one
      rw [is, Choice.sentNote, tracks.counters, before']
    · have one := after'.symm.trans (Choice.next_passed_of_not (mt decides.1 no))
      simpa using one

end

/-- Settles O36: without notes by the claims of the window, with one note by the choice of it, and in general by
`Stn.choice_spec`. -/
theorem roundFrameCarriesClaimsAndNotes : Obligations.RoundFrameCarriesClaimsAndNotes := by
  unfold Obligations.RoundFrameCarriesClaimsAndNotes
  refine ⟨fun s r runs next quiet => ?_, fun s r runs next few => ?_⟩
  · intro f2 frame sent
    have ran := execRoundFrameSend_of_next runs next
    have untested := Stn.testDeclaration_of_not_pending quiet
    refine ⟨fun empty => ?_, fun n last one due free fits => ?_⟩
    · have sends {t : Stn} {claims : List Claim} (ready : s.stn.windowClaims r.frame r.index = t)
          (outbox : t.bus.outbox = []) (same : t.claimsSent r.index = claims)
          (about : t.roundFrame r claims [] = frame claims []) :
          exec .roundFrameSend s = .next (sent t (frame claims [])) := by
        rw [ran, Stn.ownWindow_of_empty (by rw [untested, ready]) outbox, Stn.frameFor_eq same, ← about]
        rfl
      refine ⟨fun last => ?_, fun early joining => ?_, fun early member stops => ?_,
        fun m rec early member free noClaims only found record => ?_⟩
      · exact sends (Stn.windowClaims_of_last last) empty (Stn.claimsSent_of_last last) rfl
      · have kept : (s.stn.abstained f2).cust = s.stn.cust ∧ (s.stn.abstained f2).bus = s.stn.bus := by
          unfold Stn.abstained
          split <;> exact ⟨rfl, rfl⟩
        obtain ⟨cust, bus⟩ := kept
        refine sends (Stn.windowClaims_of_joining early joining) ((congrArg Bus.outbox bus).trans empty)
          (Stn.claimsSent_of_joining (by rw [cust, joining])) ?_
        unfold Stn.abstained
        split <;> rfl
      · have still : s.stn.windowClaims r.frame r.index = s.stn := by
          by_cases marked : f2 ∈ s.stn.air.abstain
          · exact Stn.windowClaims_of_abstained early member marked
          · rw [Stn.windowClaims_of_free early member marked]
            refine Stn.takeClaims_of_none _ _ ?_
            exact (stops.resolve_left marked).imp_left Stn.nextReady_of_empty
        exact sends still empty (Stn.claimsSent_of_member early member) rfl
      · intro p c taken
        have claims := Stn.windowClaims_of_free early member free
        refine ⟨fun tagged => ?_, fun untagged => ?_⟩
        · have took := Stn.takeForClaim_of_tagged (t := f2) only found record tagged
          exact sends (claims.trans (Stn.takeClaims_of_one only found noClaims took noClaims rfl rfl)) empty
            (Stn.claimsSent_of_member early member) rfl
        · have took := Stn.takeForClaim_of_untagged (t := f2) only found record untagged
          exact sends (claims.trans (Stn.takeClaims_of_one only found noClaims took noClaims rfl rfl)) empty
            (Stn.claimsSent_of_member early member) rfl
    · obtain ⟨c, passed, placed, counters, resent, chosen⟩ := Stn.choice_of_one last one due free fits
      have ready : s.stn.testDeclaration.windowClaims r.frame r.index = s.stn := by
        rw [untested, Stn.windowClaims_of_last last]
      have sends : exec .roundFrameSend s = .next (sent { s.stn with bus := { s.stn.bus with
          outbox := (c.place n).passed, counters := (c.place n).counters, resent := (c.place n).resent } }
          (frame [] (c.place n).placed)) := by
        rw [ran, Stn.ownWindow_eq ready, Stn.frameFor_eq (Stn.claimsSent_of_last last), chosen]
        rfl
      refine ⟨fun x serial again => ?_, fun serial first => ?_⟩
      · rw [sends]
        have twice : 2 ≤ n.sends + 1 := Nat.succ_le_succ again
        simp only [Choice.place, passed, placed, counters, resent, serial, Option.getD_some, List.nil_append, if_pos twice]
      · intro x
        rw [sends]
        simp only [Choice.place, passed, placed, counters, resent, serial, Option.getD_none, List.nil_append, first]
        rfl
  · have ran := execRoundFrameSend_of_next runs next
    have bus : (s.stn.testDeclaration.windowClaims r.frame r.index).bus = s.stn.bus := by simp
    have state : (s.stn.testDeclaration.windowClaims r.frame r.index).cust.state = s.stn.cust.state := by
      rw [(Stn.windowClaims_frame _ _ _).2.2.2.2.2.2.2, Stn.testDeclaration]
      split <;> rfl
    have few' : (s.stn.testDeclaration.windowClaims r.frame r.index).air.claims.length ≤ 8 := by
      refine Stn.windowClaims_length ?_
      rw [s.stn.testDeclaration_frame.2.2.2.2.2.1]
      exact few
    have ctl : (s.stn.testDeclaration.windowClaims r.frame r.index).self = s.stn.self := by simp [Stn.self]
    rw [ran, Stn.ownWindow_eq rfl]
    generalize s.stn.testDeclaration.windowClaims r.frame r.index = t at *
    obtain ⟨length, placed, four, bytes, counters, resent, each⟩ := Stn.choice_spec (r := r) few'
    have claims : t.claimsSent r.index = if r.index = 3 ∨ s.stn.cust.state = .joining then [] else t.air.claims := by
      rw [Stn.claimsSent, state]
    rw [bus] at length placed four bytes counters resent each
    have notes : (t.frameFor r).notes = (sentPairs s.stn.bus.outbox (t.choice r).passed).map wireOf := placed
    have takes : (t.frameFor r).takes = s.stn.bus.takes.take 8 := congrArg (fun b => b.takes.take 8) bus
    refine ⟨_, t.frameFor r, rfl, rfl, ctl, rfl, rfl, takes, claims, ?_, ?_, ?_⟩
    · rw [RoundFrame.length_bytes, takes, notes, length_noteBytes]
      exact bytes
    · rw [notes, List.length_map]
      exact four
    · refine ⟨length, notes, counters, resent, ?_⟩
      rw [takes]
      exact each

end Sys2Proof.Machine
end


section
/-!
RESULT. The visits of the return walk and the mirror walk (R17, R24, R54, R55, R59).
-/

namespace Sys2Proof.Machine

/-- The station with a note of a walk behind every older note of its outbox. -/
def Stn.noted (s : Stn) (dest : Station) (body : NoteBody) (walk : NoteWalk) : Stn :=
  { s with bus.outbox := s.bus.outbox ++ [{
      dest := dest, body := body, serial := none, awaiting := false, sends := 0, route := .here, held := false,
      stale := false, walk := walk }] }

section
variable {s : Stn} {pos : Option Nat} {r : Record}

/-- A walk may make its visit: a place is free and no entry waits for it (R24). -/
theorem Stn.mayVisit (room : ¬32 ≤ s.bus.outbox.length) (none : NoEntryWaits s) :
    (s.outboxFree && !s.forwardWaits) = true := by
  have free : s.outboxFree = true := decide_eq_true (Nat.not_le.1 room)
  have still : s.forwardWaits = false := by
    rw [Stn.forwardWaits, List.any_eq_false]
    exact fun e mem => Bool.eq_false_iff.1 (Stn.waitsForPlace_eq_false (none e mem))
  rw [free, still]
  rfl

theorem Stn.outboxFree_of_full (full : 32 ≤ s.bus.outbox.length) : s.outboxFree = false :=
  decide_eq_false (Nat.not_lt.2 full)

theorem Stn.handReturn_of_up (body : NoteBody) (up : (s.view s.ward).down = false) :
    s.handReturn body = s.noted s.ward body .ret := by
  rw [Stn.handReturn, up]
  rfl

theorem Stn.handMirrorWalk_of_up (body : NoteBody) (up : (s.view s.buddy).down = false) :
    s.handMirrorWalk body = s.noted s.buddy body .mirror := by
  rw [Stn.handMirrorWalk, up]
  rfl

/-- A walk has no next record where every one that it selects is behind its position. -/
theorem nextAbove_eq_none_iff {α : Type} {key : α → Nat} {sel : α → Bool} {pos : Option Nat} {l : List α} :
    nextAbove key sel pos l = none ↔ ∀ x ∈ l, sel x = true → ∃ q, pos = some q ∧ key x ≤ q := by
  cases pos <;> simp [nextAbove]

theorem Stn.anyReturning_iff (s : Stn) : s.anyReturning = true ↔ ∃ y ∈ s.subs.active, y.returning = true := by
  simp [Stn.anyReturning]

/-! ### The change of phase of the return walk (R54) -/

theorem Stn.advanceReturn_of_gone (gone : ∀ y ∈ s.subs.active, y.returning = false)
    (walks : s.subs.ret = .running .adopted pos ∨ s.subs.ret = .running .revisit pos) :
    s.advanceReturn = { s with subs.ret := .running .standby none } := by
  have none : s.anyReturning = false := by simpa [Stn.anyReturning] using gone
  obtain walks | walks := walks
  · simp only [Stn.advanceReturn, walks, none, Bool.false_eq_true, if_false]
  · simp only [Stn.advanceReturn, walks, none, Bool.false_eq_true, if_false]

theorem Stn.advanceReturn_of_revisit (more : ∃ y ∈ s.subs.active, y.returning = true)
    (walks : s.subs.ret = .running .revisit pos) : s.advanceReturn = s := by
  simp only [Stn.advanceReturn, walks, (s.anyReturning_iff).2 more, if_true]

theorem Stn.advanceReturn_of_above (walks : s.subs.ret = .running .adopted pos)
    (above : ∃ y ∈ s.subs.active, y.returning = true ∧ ∀ q, pos = some q → q < y.admin.sub) : s.advanceReturn = s := by
  obtain ⟨y, mem, returning, after⟩ := above
  have next : s.nextReturning pos ≠ none := fun none => by
    obtain ⟨q, isPos, behind⟩ := nextAbove_eq_none_iff.1 none y mem returning
    exact absurd behind (Nat.not_le.2 (after q isPos))
  have some : (s.nextReturning pos).isNone = false := Bool.eq_false_iff.2 (mt Option.isNone_iff_eq_none.1 next)
  simp only [Stn.advanceReturn, walks, (s.anyReturning_iff).2 ⟨y, mem, returning⟩, some, if_true, Bool.false_eq_true,
    if_false]

theorem Stn.advanceReturn_of_behind (walks : s.subs.ret = .running .adopted pos)
    (more : ∃ y ∈ s.subs.active, y.returning = true)
    (behind : ∀ y ∈ s.subs.active, y.returning = true → ∃ q, pos = some q ∧ y.admin.sub ≤ q) :
    s.advanceReturn = { s with subs.ret := .running .revisit none } := by
  have none : (s.nextReturning pos).isNone = true := Option.isNone_iff_eq_none.2 (nextAbove_eq_none_iff.2 behind)
  simp only [Stn.advanceReturn, walks, (s.anyReturning_iff).2 more, none, if_true]

/-! ### The visits -/

/-- The phase of the return walk behind a visit of this record. -/
def Stn.phaseBehind (s : Stn) (r : Record) : ReturnWalk :=
  if s.subs.active.any (fun x => x.returning && decide (r.admin.sub < x.admin.sub)) then
    .running .adopted (some r.admin.sub)
  else .running .revisit none

theorem Stn.advanceReturn_behind (walks : s.subs.ret = .running .adopted (some r.admin.sub)) (mem : r ∈ s.subs.active)
    (returning : r.returning = true) : s.advanceReturn = { s with subs.ret := s.phaseBehind r } := by
  unfold Stn.phaseBehind
  split
  next above =>
    obtain ⟨y, there, both⟩ := List.any_eq_true.1 above
    obtain ⟨back, after⟩ : y.returning = true ∧ r.admin.sub < y.admin.sub := by simpa using both
    have stays := Stn.advanceReturn_of_above walks ⟨y, there, back, fun q is => Option.some.inj is ▸ after⟩
    rw [stays, ← walks]
  next above =>
    refine Stn.advanceReturn_of_behind walks ⟨r, mem, returning⟩ fun y there back => ⟨_, rfl, ?_⟩
    simpa [back] using List.any_eq_false.1 (Bool.eq_false_iff.2 above) y there

theorem Stn.returnVisit_of_full (full : 32 ≤ s.bus.outbox.length) : s.returnVisit = s := by
  unfold Stn.returnVisit
  rw [Stn.outboxFree_of_full full]
  split <;> rfl

theorem Stn.returnVisit_of_record (walks : s.subs.ret = .running .adopted pos)
    (may : (s.outboxFree && !s.forwardWaits) = true) (next : s.nextReturning pos = some r)
    (up : (s.view s.ward).down = false) : s.returnVisit =
      { (if r.queue = [] then s.noted s.ward r.returnNote .ret else s) with
        subs := { s.subs with ret := s.phaseBehind r } } := by
  have mem : r ∈ s.subs.active := List.mem_of_find?_eq_some next
  have selected := List.find?_some (show List.find? _ _ = some r from next)
  have returning : r.returning = true := (Bool.and_eq_true_iff.1 selected).1
  simp only [Stn.returnVisit, walks, may, next, if_true]
  split
  · have handed := Stn.handReturn_of_up (s := { s with subs.ret := .running .adopted (some r.admin.sub) }) r.returnNote up
    exact (congrArg Stn.advanceReturn handed).trans (Stn.advanceReturn_behind rfl mem returning)
  · exact Stn.advanceReturn_behind (s := { s with subs.ret := .running .adopted (some r.admin.sub) }) rfl mem returning

theorem Stn.returnVisit_of_none (walks : s.subs.ret = .running .adopted pos)
    (may : (s.outboxFree && !s.forwardWaits) = true) (next : s.nextReturning pos = none) :
    s.returnVisit = s.advanceReturn := by
  simp only [Stn.returnVisit, walks, may, next, if_true]

theorem Stn.returnStandbyVisit_of_full (full : 32 ≤ s.bus.outbox.length) : s.returnStandbyVisit = s := by
  unfold Stn.returnStandbyVisit
  rw [Stn.outboxFree_of_full full]
  split <;> rfl

theorem Stn.returnStandbyVisit_of_record {b : StandbyRec} (walks : s.subs.ret = .running .standby pos)
    (may : (s.outboxFree && !s.forwardWaits) = true) (next : s.nextStandby pos = some b)
    (up : (s.view s.ward).down = false) : s.returnStandbyVisit =
      { s.noted s.ward (b.returnNote s.bill.period) .ret with
        subs := { s.subs with ret := .running .standby (some b.admin.sub) } } := by
  simp only [Stn.returnStandbyVisit, walks, may, next, if_true]
  exact Stn.handReturn_of_up _ up

theorem Stn.returnStandbyVisit_of_none (walks : s.subs.ret = .running .standby pos)
    (may : (s.outboxFree && !s.forwardWaits) = true) (next : s.nextStandby pos = none)
    (up : (s.view s.ward).down = false) : s.returnStandbyVisit =
      { s.noted s.ward .retEnd .ret with subs := { s.subs with ret := .running .ending none } } := by
  simp only [Stn.returnStandbyVisit, walks, may, next, if_true]
  exact Stn.handReturn_of_up _ up

theorem Stn.mirrorStep_of_full (full : 32 ≤ s.bus.outbox.length) : s.mirrorStep = s := by
  unfold Stn.mirrorStep
  rw [Stn.outboxFree_of_full full]
  split <;> rfl

theorem Stn.returnWantsPlace_of_none (none : NoVisitWaits s) : s.returnWantsPlace = false := by
  unfold Stn.returnWantsPlace
  split
  next pos walks => exact absurd walks (none pos).1
  next pos walks => exact absurd walks (none pos).2
  next => rfl

section
variable {first : Bool} (walks : s.subs.mirror = .running pos first false)
  (may : (s.outboxFree && !s.forwardWaits) = true) (none : NoVisitWaits s) (up : (s.view s.buddy).down = false)
include walks may none up

theorem Stn.mirrorStep_of_record
    (next : nextAbove (·.admin.sub) (fun (r : Record) => decide (r.origin = .home)) pos s.subs.active = some r) :
    s.mirrorStep = { s.noted s.buddy (.mirror first r.admin r.nextTag) .mirror with
      subs := { s.subs with mirror := .running (some r.admin.sub) false false } } := by
  simp only [Stn.mirrorStep, walks, may, Stn.returnWantsPlace_of_none none, Bool.not_false, Bool.and_self, if_true, next]
  exact Stn.handMirrorWalk_of_up _ up

theorem Stn.mirrorStep_of_none
    (next : nextAbove (·.admin.sub) (fun (r : Record) => decide (r.origin = .home)) pos s.subs.active = .none) :
    s.mirrorStep = { s.noted s.buddy (.mirrorEnd first) .mirror with
      subs := { s.subs with mirror := .running pos false true } } := by
  simp only [Stn.mirrorStep, walks, may, Stn.returnWantsPlace_of_none none, Bool.not_false, Bool.and_self, if_true, next]
  exact Stn.handMirrorWalk_of_up _ up

end

end

/-- Settles O51: the visits of phase ADOPTED, of phase STANDBY, and of the mirror walk. -/
theorem walksHandOneNoteAVisit : Obligations.WalksHandOneNoteAVisit := by
  unfold Obligations.WalksHandOneNoteAVisit
  intro s ward subs full hands
  refine ⟨fun pos walks => ?_, fun pos walks => ?_, fun pos first walks => ?_⟩
  · intro i
    have ran {t : Stn} (visit : s.stn.returnVisit = t) : exec i s = .next { s with stn := t } := by
      rw [← visit]
      rfl
    refine ⟨fun isFull => ran (Stn.returnVisit_of_full isFull), fun room none => ⟨fun r next up => ?_, fun next => ?_⟩⟩
    · intro phase
      have visit := Stn.returnVisit_of_record walks (Stn.mayVisit room none) next up
      refine ⟨fun empty => (ran visit).trans ?_, fun waits => (ran visit).trans ?_⟩
      · rw [if_pos empty]
        rfl
      · rw [if_neg waits]
        rfl
    · have visit := Stn.returnVisit_of_none walks (Stn.mayVisit room none) next
      have behind := nextAbove_eq_none_iff.1 next
      exact ⟨fun more => ran (visit.trans (Stn.advanceReturn_of_behind walks more behind)),
        fun gone => ran (visit.trans (Stn.advanceReturn_of_gone gone (.inl walks)))⟩
  · intro i
    have ran {t : Stn} (visit : s.stn.returnStandbyVisit = t) : exec i s = .next { s with stn := t } := by
      rw [← visit]
      rfl
    refine ⟨fun isFull => ran (Stn.returnStandbyVisit_of_full isFull), fun room none up =>
      ⟨fun b next => ran (Stn.returnStandbyVisit_of_record walks (Stn.mayVisit room none) next up),
        fun next => ran (Stn.returnStandbyVisit_of_none walks (Stn.mayVisit room none) next up)⟩⟩
  · intro i next
    have ran {t : Stn} (visit : s.stn.mirrorStep = t) : exec i s = .next { s with stn := t } := by
      rw [← visit]
      rfl
    exact ⟨fun isFull => ran (Stn.mirrorStep_of_full isFull), fun room none noVisit up =>
      ⟨fun r is => ran (Stn.mirrorStep_of_record walks (Stn.mayVisit room none) noVisit up is),
        fun is => ran (Stn.mirrorStep_of_none walks (Stn.mayVisit room none) noVisit up is)⟩⟩

end Sys2Proof.Machine
end


section
/-!
SUPPORT. The office map read behind a change of an entry, and the reading of a peer's window (R19, R22, R23, R26, R38):
what a VALID frame does that keeps views and custodians, with whatever its takes and notes do.
-/

namespace Sys2Proof.Machine

/-! ### The office map -/

theorem foldl_of_fixed {α β : Type} {f : β → α → β} {l : List α} {b : β} (fixed : ∀ a ∈ l, f b a = b) : l.foldl f b = b := by
  induction l with
  | nil => rfl
  | cons a l ih =>
    rw [List.foldl_cons, fixed a List.mem_cons_self]
    exact ih fun x mem => fixed x (List.mem_cons_of_mem _ mem)

/-- The entry of a station in an office map. -/
def Custody.entry? (c : Custody) (k : Station) : Option MapEntry := c.map.find? fun e => decide (e.station = k)

theorem Stn.entry?_eq (s : Stn) (k : Station) : s.entry? k = s.cust.entry? k := rfl

theorem Custody.entry?_station {c : Custody} {k : Station} {e : MapEntry} (found : c.entry? k = some e) : e.station = k := by
  simpa using List.find?_some found

section
variable (c : Custody) {k h : Station} {f : MapEntry → MapEntry} (keeps : ∀ e, (f e).station = e.station)
include keeps

theorem Custody.entry?_withEntry_same : (c.withEntry k f).entry? k = (c.entry? k).map f := by
  have changed : (c.withEntry k f).map = updWhere (fun e => decide (e.station = k)) f c.map := (updWhere_decide _ _).symm
  rw [Custody.entry?, changed]
  exact find?_updWhere _ _ (fun e same => by simpa [keeps] using same) _

theorem Custody.entry?_withEntry_other (other : h ≠ k) : (c.withEntry k f).entry? h = c.entry? h := by
  simp only [Custody.entry?, Custody.withEntry, List.find?_map]
  have same : (fun e : MapEntry => decide ((if e.station = k then f e else e).station = h)) =
      fun e => decide (e.station = h) := by
    funext e
    split <;> simp [keeps]
  rw [show (fun e => decide (e.station = h)) ∘ (fun e => if e.station = k then f e else e) =
    fun e : MapEntry => decide (e.station = h) from same]
  cases found : c.map.find? fun e => decide (e.station = h) with
  | none => rfl
  | some e =>
    have station : e.station = h := Custody.entry?_station found
    rw [Option.map_some, if_neg (station ▸ other)]

end

/-- The view of a station in an office map. -/
def Custody.viewOf (c : Custody) (k : Station) : View := ((c.entry? k).map (·.view)).getD .failed

theorem Stn.view_eq (s : Stn) (k : Station) : s.view k = if k = s.self then s.cust.state.view else s.cust.viewOf k := rfl

/-- The custodian of a station in an office map. -/
def Custody.custodianOf (c : Custody) (k : Station) : Option Station := (c.entry? k).bind (·.custodian)

theorem Stn.custodian_eq (s : Stn) (k : Station) : s.custodian k = s.cust.custodianOf k := rfl

section
variable {c : Custody} {k h : Station} {f : MapEntry → MapEntry} (keeps : ∀ e, (f e).station = e.station)
include keeps

theorem Custody.viewOf_withEntry_of_ne (other : h ≠ k) : (c.withEntry k f).viewOf h = c.viewOf h := by
  rw [Custody.viewOf, c.entry?_withEntry_other keeps other, Custody.viewOf]

theorem Custody.custodianOf_withEntry_of_ne (other : h ≠ k) : (c.withEntry k f).custodianOf h = c.custodianOf h := by
  rw [Custody.custodianOf, c.entry?_withEntry_other keeps other, Custody.custodianOf]

theorem Custody.viewOf_withEntry (same : ∀ e, (f e).view = e.view) (h : Station) :
    (c.withEntry k f).viewOf h = c.viewOf h := by
  by_cases is : h = k
  · subst is
    rw [Custody.viewOf, c.entry?_withEntry_same keeps, Option.map_map, Custody.viewOf]
    exact congrArg (fun g : MapEntry → View => ((c.entry? h).map g).getD .failed) (funext same)
  · exact Custody.viewOf_withEntry_of_ne keeps is

theorem Custody.custodianOf_withEntry (same : ∀ e, (f e).custodian = e.custodian) (h : Station) :
    (c.withEntry k f).custodianOf h = c.custodianOf h := by
  by_cases is : h = k
  · subst is
    rw [Custody.custodianOf, c.entry?_withEntry_same keeps, Option.bind_map, Custody.custodianOf]
    exact congrArg (Option.bind (c.entry? h)) (funext same)
  · exact Custody.custodianOf_withEntry_of_ne keeps is

theorem Custody.withEntry_withEntry (g : MapEntry → MapEntry) :
    (c.withEntry k f).withEntry k g = c.withEntry k fun e => g (f e) := by
  simp only [Custody.withEntry, List.map_map]
  congr 1
  refine List.map_congr_left fun e _ => ?_
  by_cases is : e.station = k <;> simp [is, keeps]

end

/-- The station with one entry of its office map changed. -/
def Stn.mapped (s : Stn) (k : Station) (f : MapEntry → MapEntry) : Stn := { s with cust := s.cust.withEntry k f }

section
variable {s : Stn} {k : Station} {f : MapEntry → MapEntry} (keeps : ∀ e, (f e).station = e.station)
include keeps

theorem Stn.view_mapped (same : ∀ e, (f e).view = e.view) (h : Station) : (s.mapped k f).view h = s.view h :=
  congrArg (fun v => if h = s.self then s.cust.state.view else v) (Custody.viewOf_withEntry keeps same h)

theorem Stn.view_mapped_of_ne {h : Station} (other : h ≠ k) : (s.mapped k f).view h = s.view h :=
  congrArg (fun v => if h = s.self then s.cust.state.view else v) (Custody.viewOf_withEntry_of_ne keeps other)

theorem Stn.custodian_mapped (same : ∀ e, (f e).custodian = e.custodian) (h : Station) :
    (s.mapped k f).custodian h = s.custodian h := Custody.custodianOf_withEntry keeps same h

theorem Stn.custodian_mapped_of_ne {h : Station} (other : h ≠ k) : (s.mapped k f).custodian h = s.custodian h :=
  Custody.custodianOf_withEntry_of_ne keeps other

theorem Stn.mapped_mapped (g : MapEntry → MapEntry) :
    (s.mapped k f).mapped k g = s.mapped k fun e => g (f e) :=
  congrArg (fun c => { s with cust := c }) (Custody.withEntry_withEntry keeps g)

end

/-! ### The window of a peer (R19, R22, R26) -/

section
variable {s : State} {r : RoundPos} {p : Station} {heard : List Byte} {f : RoundFrame}

theorem exec_windowReading_eq (opens : AtWindow s.stn r p) (peer : p ≠ s.stn.self) (heard : List Byte) :
    exec (.windowReading p heard) s = .next { s with stn := s.stn.windowEnd p r heard } := by
  obtain ⟨⟨closed, runs⟩, next, quiet⟩ := opens
  have now : r.isNext p = true := decide_eq_true next
  simp only [exec, execWindowReading, closed, runs, now, true_and, if_pos (And.intro peer quiet)]

theorem Stn.classify_of_valid {s : Stn} {index : Fin 4} (some_ : heard ≠ [])
    (reads : readFrame s.img.roster heard = some f) (office : f.office = s.img.office) (sender : f.sender = p)
    (round : f.index = index) : s.classify p index heard = .valid f := by
  have own : ¬f.office ≠ s.img.office := not_not.2 office
  have right : ¬(f.sender ≠ p ∨ f.index ≠ index) := not_or.2 ⟨not_not.2 sender, not_not.2 round⟩
  rw [Stn.classify, if_neg some_]
  simp only [reads, if_neg own, if_neg right]

/-- The window of a peer whose VALID frame is heard (R22, R24, R26). -/
theorem exec_windowReading_valid (hears : Hears s.stn r p heard f) : exec (.windowReading p heard) s = .next { s with
    stn := (((s.stn.passWindow r).validFrame p r f).resolve p).settledFrom s.stn } := by
  obtain ⟨opens, peer, -, some_, reads, office, sender, round⟩ := hears
  rw [exec_windowReading_eq opens peer, Stn.windowEnd, Stn.classify_of_valid some_ reads office sender round]
  rfl

/-- No note to the peer waits for its take. -/
theorem Stn.resolve_of_none {s : Stn} (none : ∀ n ∈ s.bus.outbox, n.dest = p → n.awaiting = false) : s.resolve p = s := by
  have empty : s.awaitingTo p = [] := by
    rw [Stn.awaitingTo, List.filter_eq_nil_iff.2]
    · rfl
    · intro n mem both
      obtain ⟨dest, awaits⟩ := Bool.and_eq_true_iff.1 both
      rw [none n mem (of_decide_eq_true dest)] at awaits
      cases awaits
  rw [Stn.resolve, empty]
  rfl

theorem Stn.settledFrom_of_le {s before : Stn} (quiet : s.intake.waiting = [])
    (keeps : before.bus.outbox.length ≤ s.bus.outbox.length) : s.settledFrom before = s := by
  rw [Stn.settledFrom, Stn.givePlaces_of_le keeps, Stn.settled_of_no_line quiet]

theorem Stn.settledFrom_of_none {s before : Stn} (quiet : s.intake.waiting = []) (none : NoEntryWaits s) :
    s.settledFrom before = s := by
  rw [Stn.settledFrom, Stn.givePlaces_of_none none, Stn.settled_of_no_line quiet]

end

/-! ### A VALID frame that keeps the map (R23, R38, R40, R41, R126, R175) -/

section
variable {s : Stn} {r : RoundPos} {p : Station} {f : RoundFrame}

theorem Stn.clearMemory_of_live (live : f.state = .live) : s.clearMemory p f.state = s := by
  have none : s.joiningEpisode p f.state = false := by simp [Stn.joiningEpisode, live]
  rw [Stn.clearMemory, none]
  rfl

/-- The entry of a peer whose frame keeps its view. -/
def MapEntry.heardIn (f : RoundFrame) (e : MapEntry) : MapEntry := { e with silent := 0, silence := f.silence }

theorem Stn.view_heardIn (s : Stn) (p k : Station) (f : RoundFrame) :
    (s.mapped p (MapEntry.heardIn f)).view k = s.view k :=
  Stn.view_mapped (f := MapEntry.heardIn f) (fun _ => rfl) (fun _ => rfl) k

theorem Stn.custodian_heardIn (s : Stn) (p k : Station) (f : RoundFrame) :
    (s.mapped p (MapEntry.heardIn f)).custodian k = s.custodian k :=
  Stn.custodian_mapped (f := MapEntry.heardIn f) (fun _ => rfl) (fun _ => rfl) k

/-- The Custody Unit's part of a VALID frame that changes its entry alone. -/
def Stn.listens (s : Stn) (p : Station) (f : RoundFrame) : Stn :=
  { s with
    cust := s.cust.withEntry p (MapEntry.heardIn f),
    bus.lastSender := s.bus.lastSender.set p.val (some f.state) p.isLt }

theorem members_zero : members 0 = [] := by decide

theorem Stn.custodyPart_of_keeps (keeps : KeepsTheMap s p f) : s.custodyPart p f = s.listens p f := by
  obtain ⟨live, view, noCustody, held, noOther, notJoining⟩ := keeps
  have noEpisode : s.joiningEpisode p f.state = false := by simp [Stn.joiningEpisode, live]
  have recorded : s.recordHeard p f = s := by
    unfold Stn.recordHeard
    split
    next x running => exact absurd running (notJoining x)
    next => rfl
  have viewed : s.validView p f false = s.mapped p (MapEntry.heardIn f) := by
    have same := (s.view_heardIn p p f).trans view
    have notFailed : ¬(s.mapped p (MapEntry.heardIn f)).view p = .failed := by
      rw [same]
      exact nofun
    have updated : s.updEntry p (fun e => { e with silent := 0, silence := f.silence }) =
        s.mapped p (MapEntry.heardIn f) := s.updEntry_eq_withEntry p _
    unfold Stn.validView
    rw [updated, live]
    exact (if_neg notFailed).trans (if_pos same)
  have notAgain : ¬(f.state = .live ∧
      (s.mapped p (MapEntry.heardIn f)).custodian p = none) := by
    rintro ⟨-, none⟩
    rw [Stn.custodian_heardIn] at none
    simp [none] at held
  have stays : ¬(s.mapped p (MapEntry.heardIn f)).mustStandDown f = true := by
    simp [Stn.mustStandDown, noCustody, inSet]
  have keepsAll : (s.mapped p (MapEntry.heardIn f)).dropped p f =
      s.mapped p (MapEntry.heardIn f) := by
    unfold Stn.dropped
    rw [live]
    refine foldl_of_fixed fun k mem => if_neg ?_
    obtain ⟨inside, other⟩ := List.mem_filter.1 mem
    rw [Stn.custodian_heardIn]
    exact noOther k inside (of_decide_eq_true (Bool.and_eq_true_iff.1 other).1)
  unfold Stn.custodyPart
  simp only [noEpisode, recorded, viewed]
  rw [show (s.mapped p (MapEntry.heardIn f)).wardJoins p false =
      s.mapped p (MapEntry.heardIn f) from if_neg (fun both => nomatch both.1),
    show (s.mapped p (MapEntry.heardIn f)).liveAgain p f.state =
      s.mapped p (MapEntry.heardIn f) from if_neg notAgain,
    noCustody, members_zero, List.foldl_nil, if_neg stays, keepsAll]
  rfl

/-- The station behind the parts of a VALID frame that keeps the map, but for its takes and notes. -/
def Stn.listened (s : Stn) (p : Station) (r : RoundPos) (f : RoundFrame) : Stn :=
  { s.listens p f with
    bill.peers := s.bill.peers.set p.val (some (f.period, f.draining)) p.isLt
    air.peerClaims := if r.index = 3 then s.air.peerClaims
      else s.air.peerClaims.set p.val
        (if f.state = .joining then [] else f.claims.filter fun c => decide (c.target = r.frame + 2)) p.isLt }

theorem Stn.heard_eq (s : Stn) (p : Station) (r : RoundPos) (f : RoundFrame) :
    s.heard p r f = (s.passWindow r).listened p r f := rfl

/-- The claims of a peer as they are kept (R126). -/
def Stn.claimsKept (s : Stn) (p : Station) (r : RoundPos) (f : RoundFrame) : Stn :=
  { s with
    air.peerClaims := if r.index = 3 then s.air.peerClaims
      else s.air.peerClaims.set p.val
        (if f.state = .joining then [] else f.claims.filter fun c => decide (c.target = r.frame + 2)) p.isLt }

theorem Stn.peerClaimsRead_eq (s : Stn) (p : Station) (r : RoundPos) (f : RoundFrame) :
    s.peerClaimsRead p r.frame r.index f.state f.claims = s.claimsKept p r f := by
  unfold Stn.peerClaimsRead Stn.claimsKept
  by_cases last : r.index = 3
  · rw [if_pos last, if_pos last]
  · rw [if_neg last, if_neg last]
    cases f.state <;> rfl

theorem Stn.billingPart_of_not_later (early : later f.period s.bill.period = false) : s.billingPart p f =
    { s with bill.peers := s.bill.peers.set p.val (some (f.period, f.draining)) p.isLt } := by
  have stays : ¬(s.cust.state ≠ .joining ∧ f.state = .live ∧
      ({ s with bill.peers := s.bill.peers.set p.val (some (f.period, f.draining)) p.isLt } : Stn).view p ≠ .failed ∧
        later f.period s.bill.period = true) := by
    rintro ⟨-, -, -, late⟩
    rw [early] at late
    cases late
  exact if_neg stays

/-- A VALID frame whose takes and notes lead to a station that it then changes in its entry alone. -/
theorem Stn.validFrame_of_changesNothing {u : Stn} (live : f.state = .live)
    (acted : (f.notes.foldl (Stn.readNoteOf p) (f.takes.foldl (Stn.readTake p) s, false)).1 = u)
    (keeps : ChangesNothing u p f) : s.validFrame p r f = u.listened p r f := by
  obtain ⟨map, early⟩ := keeps
  have custody : (u.claimsKept p r f).custodyPart p f = (u.claimsKept p r f).listens p f := Stn.custodyPart_of_keeps map
  unfold Stn.validFrame
  rw [Stn.clearMemory_of_live live]
  simp only [acted]
  rw [Stn.peerClaimsRead_eq, custody]
  exact Stn.billingPart_of_not_later (s := (u.claimsKept p r f).listens p f) (p := p) early

end

end Sys2Proof.Machine
end


section
/-!
RESULT. The takes and notes of a VALID frame (R26, R28 to R30).
-/

namespace Sys2Proof.Machine

/-! ### The row of a frame that keeps the map -/

section
variable {s : State} {r : RoundPos} {p : Station} {heard : List Byte} {f : RoundFrame} {u v : Stn}

/-- The row of a frame whose takes and notes lead to station u, which keeps the map. -/
theorem exec_windowReading_of_acts (hears : Hears s.stn r p heard f) (live : f.state = .live)
    (acted : (f.notes.foldl (Stn.readNoteOf p) (f.takes.foldl (Stn.readTake p) (s.stn.passWindow r), false)).1 = u)
    (keeps : ChangesNothing u p f) (resolved : (u.listened p r f).resolve p = v) (settled : v.settledFrom s.stn = v) :
    exec (.windowReading p heard) s = .next { s with stn := v } := by
  rw [exec_windowReading_valid hears, Stn.validFrame_of_changesNothing live acted keeps, resolved, settled]

/-- No note to the peer waits for its take, and no outbox place is freed. -/
theorem exec_windowReading_of_notes (hears : Hears s.stn r p heard f) (live : f.state = .live)
    (acted : (f.notes.foldl (Stn.readNoteOf p) (f.takes.foldl (Stn.readTake p) (s.stn.passWindow r), false)).1 = u)
    (keeps : ChangesNothing u p f) (none : ∀ n ∈ u.bus.outbox, n.dest = p → n.awaiting = false)
    (quiet : u.intake.waiting = []) (places : s.stn.bus.outbox.length ≤ u.bus.outbox.length) :
    exec (.windowReading p heard) s = .next { s with stn := u.listened p r f } :=
  exec_windowReading_of_acts hears live acted keeps (Stn.resolve_of_none (s := u.listened p r f) none)
    (Stn.settledFrom_of_le (s := u.listened p r f) quiet places)

end

/-! ### A take of a note (R26) -/

section
variable {s : Stn} {p : Station} {x : NoteSerial} {n : Note} {older younger : List Note}

theorem Stn.updPend_eq (s : Stn) (tag : Tag) (f : PendEntry → PendEntry) :
    s.updPend tag f = { s with req.pend := s.req.pend.map fun e => if e.tag = tag then f e else e } := by
  rw [Stn.updPend, updWhere_decide]

theorem isNote_iff (p : Station) (x : NoteSerial) (n : Note) : isNote p x n = true ↔ n.dest = p ∧ n.serial = some x := by
  simp [isNote]

theorem find?_isNote (dest : n.dest = p) (serial : n.serial = some x)
    (others : ∀ o ∈ older ++ younger, ¬(o.dest = p ∧ o.serial = some x)) :
    (older ++ n :: younger).find? (isNote p x) = some n := by
  rw [List.find?_append, List.find?_eq_none.2 fun o mem => mt (isNote_iff p x o).1 (others o (List.mem_append_left _ mem)),
    List.find?_cons_of_pos ((isNote_iff p x n).2 ⟨dest, serial⟩)]
  rfl

theorem filter_isNote (dest : n.dest = p) (serial : n.serial = some x)
    (others : ∀ o ∈ older ++ younger, ¬(o.dest = p ∧ o.serial = some x)) :
    (older ++ n :: younger).filter (fun n => !isNote p x n) = older ++ younger := by
  have kept (o : Note) (mem : o ∈ older ++ younger) : (!isNote p x o) = true := by
    rw [Bool.not_eq_true', Bool.eq_false_iff]
    exact mt (isNote_iff p x o).1 (others o mem)
  rw [List.filter_append, List.filter_cons_of_neg (by simp [isNote, dest, serial]),
    List.filter_eq_self.2 fun o mem => kept o (List.mem_append_left _ mem),
    List.filter_eq_self.2 fun o mem => kept o (List.mem_append_right _ mem)]

/-- The take of a note resolves it. -/
theorem Stn.readTake_of_note (outbox : s.bus.outbox = older ++ n :: younger) (dest : n.dest = p) (serial : n.serial = some x)
    (others : ∀ o ∈ older ++ younger, ¬(o.dest = p ∧ o.serial = some x)) :
    s.readTake p (s.self, x) = ({ s with bus.outbox := older ++ younger } : Stn).noteTaken n.body := by
  rw [Stn.readTake, if_pos rfl, outbox, find?_isNote dest serial others]
  simp only [Stn.removeNote, outbox, filter_isNote dest serial others]

end

/-! ### A note of the frame (R28 to R30) -/

section
variable {s : Stn} {p : Station} {w : WireNote} {refused : Bool}

theorem Stn.readNoteOf_of_other (other : w.dest ≠ s.self) : Stn.readNoteOf p (s, refused) w = (s, refused) := if_pos other

theorem Stn.readNoteOf_of_again (own : w.dest = s.self) (again : w.serial ∈ s.bus.memory.get p) :
    Stn.readNoteOf p (s, refused) w = (s.queueTake p w.serial, refused) := by
  rw [Stn.readNoteOf, if_neg (not_not.2 own), if_pos (List.contains_iff_mem.2 again)]

theorem Stn.readNoteOf_of_refused (own : w.dest = s.self) (new : w.serial ∉ s.bus.memory.get p)
    (no : (refused || !s.canTake w.body) = true) : Stn.readNoteOf p (s, refused) w = (s, true) := by
  rw [Stn.readNoteOf, if_neg (not_not.2 own), if_neg (mt List.contains_iff_mem.1 new), if_pos no]

theorem Stn.rememberTake_queueTake (s : Stn) (p : Station) (serial : NoteSerial) :
    (s.rememberTake p serial).queueTake p serial = s.took p serial := by
  have remembered (l : List NoteSerial) : remember l serial = l.drop (l.length - 15) ++ [serial] := by
    unfold remember
    split
    next => rfl
    next few =>
      have none : l.length - 15 = 0 := Nat.sub_eq_zero_of_le (Nat.lt_succ_iff.1 (Nat.not_le.1 few))
      rw [none, List.drop_zero]
  rw [Stn.queueTake, Stn.rememberTake, remembered]
  rfl

/-- The owner acts on a note that is taken. -/
theorem Stn.readNoteOf_of_taken (own : w.dest = s.self) (new : w.serial ∉ s.bus.memory.get p)
    (may : s.canTake w.body = true) :
    Stn.readNoteOf p (s, false) w = ((s.took p w.serial).actOn p w.body, false) := by
  have takes : ¬(false || !s.canTake w.body) = true := by simp [may]
  rw [Stn.readNoteOf, if_neg (not_not.2 own), if_neg (mt List.contains_iff_mem.1 new), if_neg takes,
    Stn.rememberTake_queueTake]

theorem Stn.canTake_forward_of_full (full : 32 ≤ s.bus.outbox.length) (tag : Tag) (text : List Byte) :
    s.canTake (.forward tag text) = false := Stn.outboxFree_of_full full

theorem Stn.takeReturn_of_free {a : Admin} (free : s.occupied a = false) (tag : Tag) (zone : Option Zone) (m : MeterFields) :
    s.takeReturn a tag zone m = { s with
      meter.returnedIn := s.meter.returnedIn + units (m.current + m.closed + m.carry),
      cust.returnTaken := true,
      subs.active := insertBy (·.admin.sub)
        { admin := a, origin := .home, home := s.self, returning := false, nextTag := tag, queue := [],
          lastZone := zone, meter := m } s.subs.active } := by
  have open_ : ({ s with meter.returnedIn := s.meter.returnedIn + units m.total, cust.returnTaken := true } : Stn).occupied a
      = false := free
  unfold Stn.takeReturn
  exact if_neg (Bool.eq_false_iff.1 open_)

end

/-- Settles O38: the take of a note, two notes of which the first is refused, and each kind of one note. -/
theorem takesAndNotesOfAValidFrame : Obligations.TakesAndNotesOfAValidFrame := by
  unfold Obligations.TakesAndNotesOfAValidFrame
  intro s r p heard f hears keeps i t
  have live : f.state = .live := keeps.1.1
  have quiet : s.stn.intake.waiting = [] := hears.2.2.1
  refine ⟨fun older younger n x noneWaits takes notes outbox dest serial others => ?_,
    fun w x takes notes none full own new forward own' => ?_, fun w takes notes none => ?_⟩
  · have apart (o : Note) (mem : o ∈ older ++ younger) : ¬(o.dest = p ∧ o.serial = some x) := fun both =>
      (others o mem both.1).1 both.2
    have acted : (f.notes.foldl (Stn.readNoteOf p) (f.takes.foldl (Stn.readTake p) (s.stn.passWindow r), false)).1 =
        ({ s.stn.passWindow r with bus.outbox := older ++ younger } : Stn).noteTaken n.body := by
      rw [notes, takes]
      exact Stn.readTake_of_note (s := s.stn.passWindow r) outbox dest serial apart
    have kept {tag : Tag} (noted : ∃ o ∈ s.stn.bus.outbox, o.forwardTag? = some tag) (other : n.forwardTag? ≠ some tag) :
        ∃ o ∈ older ++ younger, o.forwardTag? = some tag := by
      obtain ⟨o, mem, is⟩ := noted
      rw [outbox, List.mem_append, List.mem_cons] at mem
      obtain mem | rfl | mem := mem
      · exact ⟨o, List.mem_append_left _ mem, is⟩
      · exact absurd is other
      · exact ⟨o, List.mem_append_right _ mem, is⟩
    have rest (o : Note) (mem : o ∈ older ++ younger) (is : o.dest = p) : o.awaiting = false := (others o mem is).2
    refine ⟨fun plain => ?_, fun tag text forward => ?_⟩
    · have still : ({ s.stn.passWindow r with bus.outbox := older ++ younger } : Stn).noteTaken n.body =
          { s.stn.passWindow r with bus.outbox := older ++ younger } := by
        obtain ⟨tag, res, answer⟩ | ⟨mirror, notEnd⟩ := plain
        · rw [answer]
          rfl
        · cases body : n.body with
          | mirror | mirrorRemove => rfl
          | mirrorEnd b => exact absurd body (notEnd b)
          | forward | answer | ret | retEnd => rw [body] at mirror; cases mirror
      have noForward : n.forwardTag? = none := by
        obtain ⟨tag, res, answer⟩ | ⟨mirror, -⟩ := plain
        · simp [Note.forwardTag?, answer]
        · exact Note.forwardTag?_of_isMirror mirror
      refine exec_windowReading_of_acts hears live (acted.trans still) keeps (Stn.resolve_of_none rest)
        (Stn.settledFrom_of_none quiet fun e mem sending => kept (noneWaits e mem sending) ?_)
      rw [noForward]
      exact nofun
    · have moved : ({ s.stn.passWindow r with bus.outbox := older ++ younger } : Stn).noteTaken n.body =
          { s.stn.passWindow r with
            bus.outbox := older ++ younger
            req.pend := s.stn.req.pend.map fun e => if e.tag = tag then { e with state := .awaiting, wait := 0 } else e } := by
        rw [forward]
        exact Stn.updPend_eq _ _ _
      refine exec_windowReading_of_acts hears live (acted.trans moved) keeps (Stn.resolve_of_none rest)
        (Stn.settledFrom_of_none quiet fun e mem sending => ?_)
      obtain ⟨e₀, inside, rfl⟩ := List.mem_map.1 mem
      by_cases same : e₀.tag = tag
      · rw [if_pos same] at sending
        cases sending
      · rw [if_neg same] at sending ⊢
        refine kept (noneWaits e₀ inside sending) ?_
        rw [Note.forwardTag?, forward]
        exact fun is => same (Option.some.inj is).symm
  · have first : Stn.readNoteOf p (s.stn.passWindow r, false) w = (s.stn.passWindow r, true) := by
      refine Stn.readNoteOf_of_refused own new ?_
      obtain ⟨tag, text, body⟩ := forward
      rw [body, Stn.canTake_forward_of_full (s := s.stn.passWindow r) full]
      rfl
    have both : (f.notes.foldl (Stn.readNoteOf p) (f.takes.foldl (Stn.readTake p) (s.stn.passWindow r), false)).1 =
        (Stn.readNoteOf p (s.stn.passWindow r, true) x).1 := by
      rw [notes, takes, List.foldl_nil, List.foldl_cons, first]
      rfl
    refine ⟨fun new' => ?_, fun again => ?_⟩
    · have second := Stn.readNoteOf_of_refused (s := s.stn.passWindow r) (refused := true) own' new' rfl
      exact exec_windowReading_of_notes hears live (both.trans (congrArg Prod.fst second)) keeps none quiet le_rfl
    · have second := Stn.readNoteOf_of_again (s := s.stn.passWindow r) (refused := true) own' again
      exact exec_windowReading_of_notes hears live (both.trans (congrArg Prod.fst second)) keeps none quiet le_rfl
  · intro memory acted
    have ran {u : Stn} {refused : Bool} (one : Stn.readNoteOf p (s.stn.passWindow r, false) w = (u, refused))
        (keeps' : ChangesNothing u p f) (outbox : u.bus.outbox = s.stn.bus.outbox)
        (waiting : u.intake.waiting = []) : exec i s = .next { s with stn := u.listened p r f } := by
      refine exec_windowReading_of_notes hears live ?_ keeps' (outbox ▸ none) waiting (congrArg List.length outbox).ge
      rw [notes, takes, List.foldl_nil, List.foldl_cons, one]
      rfl
    refine ⟨fun other => ?_, fun own again => ?_, fun tag text own new body full => ?_, fun sub own new body => ?_,
      fun a tag zone m own new body room free => ?_⟩
    · exact ran (Stn.readNoteOf_of_other other) keeps rfl quiet
    · exact ran (Stn.readNoteOf_of_again own again) keeps rfl quiet
    · refine ran (Stn.readNoteOf_of_refused own new ?_) keeps rfl quiet
      rw [body, Stn.canTake_forward_of_full (s := s.stn.passWindow r) full]
      rfl
    · have taken := Stn.readNoteOf_of_taken (s := s.stn.passWindow r) own new (by rw [body]; rfl)
      rw [body] at taken
      exact ran taken keeps rfl quiet
    · have taken := Stn.readNoteOf_of_taken (s := s.stn.passWindow r) own new (by
        rw [body]
        exact decide_eq_true room)
      rw [body] at taken
      have entered := Stn.takeReturn_of_free (s := (s.stn.passWindow r).took p w.serial) free tag zone m
      exact ran (taken.trans (congrArg (·, false) entered)) keeps rfl quiet

end Sys2Proof.Machine
end


section
/-!
RESULT. What an ANSWER that is taken does to the request of its tag (R74, R88, R91, R100).
-/

namespace Sys2Proof.Machine

/-! ### The finish and the deferral of a request (R91, R100) -/

section
variable {s : Stn} {tag : Tag} {e : PendEntry}

theorem Stn.finish_of_gone (live : s.pend? tag = some e) (gone : ((s.line e.line).ctx e.ctx).gen ≠ e.gen) (text : List Byte) :
    s.finish tag text = s.freePend tag := by
  have judged : (s.line e.line).judge e.ctx e.gen = .discarded := if_pos gone
  have offered : s.offer e.line e.ctx e.gen text = s := by simp only [Stn.offer, judged]
  simp only [Stn.finish, live, judged, offered]

/-- The entry of a tag holding its reply, no other reply being held. -/
def Stn.holdsReply (s : Stn) (tag : Tag) (text : List Byte) : Stn :=
  { s with
    req.pend := s.req.pend.map fun x => if x.tag = tag then { x with state := .holding text } else x
    req.holdOrder := [tag] }

theorem Stn.finish_of_full (live : s.pend? tag = some e) (same : ((s.line e.line).ctx e.ctx).gen = e.gen)
    (full : 8 ≤ (s.line e.line).replies.length) (none : s.req.holdOrder = []) (text : List Byte) :
    s.finish tag text = s.holdsReply tag text := by
  have noRoom : ¬(s.line e.line).replyRoom = true := by
    rw [Line.replyRoom, decide_eq_true_eq]
    exact Nat.not_lt.2 full
  have judged : (s.line e.line).judge e.ctx e.gen = .refused := by rw [Line.judge, if_neg (not_not.2 same), if_neg noRoom]
  simp only [Stn.finish, live, judged, none, List.nil_append, Stn.updPend_eq]
  rfl

/-- The entry of a tag once more deferred. -/
def Stn.deferred (s : Stn) (tag : Tag) : Stn :=
  { s with req.pend := s.req.pend.map fun x =>
      if x.tag = tag then { x with state := .deferred, deferrals := x.deferrals + 1, wait := 0 } else x }

theorem Stn.defer_of_below (live : s.pend? tag = some e) (below : e.deferrals < 4) : s.defer tag = s.deferred tag := by
  simp only [Stn.defer, live]
  rw [if_pos (show e.deferrals < Config.deferralCap from below), Stn.updPend_eq]
  rfl

theorem Stn.defer_of_last (live : s.pend? tag = some e) (last : 4 ≤ e.deferrals) :
    s.defer tag = s.finish tag (str "X/RETRY") := by
  simp only [Stn.defer, live]
  rw [if_neg (Nat.not_lt.2 (show Config.deferralCap ≤ e.deferrals from last)), refusal_retry]

theorem Stn.with_holdOrder (none : s.req.holdOrder = []) : { s with req.holdOrder := [] } = s := by rw [← none]

theorem Stn.finish_of_room (live : s.pend? tag = some e) (fits : ReplyFits s e) (none : s.req.holdOrder = [])
    (text : List Byte) : s.finish tag text = s.finished e text := by
  obtain rfl := Stn.pend?_tag live
  rw [Stn.finish_of_fits live fits, none]
  exact Stn.with_holdOrder (s := s.finished e text) none

theorem installCache_eq (cache : List (Nat × Station)) (sub : Nat) (m : Station) :
    let others := cache.filter fun x => decide (x.1 ≠ sub)
    installCache cache sub m = others.drop (others.length - 7) ++ [(sub, m)] := by
  intro others
  unfold installCache
  by_cases full : Config.cacheCap ≤ others.length
  · exact congrArg (· ++ [(sub, m)]) (if_pos full)
  · have short : others.length - 7 = 0 := Nat.sub_eq_zero_of_le (Nat.lt_succ_iff.1 (Nat.not_le.1 full))
    rw [short]
    exact congrArg (· ++ [(sub, m)]) (if_neg full)

/-- The route of a subscriber number in the cache. -/
def Stn.cachedRoute (s : Stn) (sub : Nat) (m : Station) : Stn :=
  { s with req.cache := installCache s.req.cache sub m }

theorem Stn.applyResult_moved (live : s.pend? tag = some e) (m : Station) : s.applyResult tag (.moved m) =
    ((e.request.bind requestSub).elim s fun sub => s.cachedRoute sub m).defer tag := by
  simp only [Stn.applyResult, live, Option.bind_some]
  cases e.request.bind requestSub <;> rfl

end

/-! ### The ANSWER and its entry (R91) -/

section
variable {s : Stn} {p : Station} {tag : Tag} {e : PendEntry}

/-- The FORWARD of the tag has been sent. -/
def Stn.forwardSent (s : Stn) (tag : Tag) : Prop := ∃ n ∈ s.bus.outbox, n.forwardTag? = some tag ∧ 0 < n.sends

theorem Stn.answerMatches_iff (s : Stn) (p : Station) (e : PendEntry) : s.answerMatches p e = true ↔
    e.target = some p ∧ (e.state = .awaiting ∨ e.state = .sending ∧ s.forwardSent e.tag) := by
  simp only [Stn.answerMatches, Bool.and_eq_true, Bool.or_eq_true, decide_eq_true_eq, List.any_eq_true, isForwardOf_iff,
    Stn.forwardSent]

/-- An ANSWER that comes too late. -/
def Stn.tooLate (s : Stn) : Stn := { s with bus.lateAnswers := satInc s.bus.lateAnswers }

theorem Stn.takeAnswer_of_none (none : s.pend? tag = none) (res : Result) : s.takeAnswer p tag res = s.tooLate := by
  simp only [Stn.takeAnswer, none]
  rfl

theorem Stn.takeAnswer_of_other (live : s.pend? tag = some e) (other : s.answerMatches p e = false) (res : Result) :
    s.takeAnswer p tag res = s.tooLate := by
  simp only [Stn.takeAnswer, live, other]
  rfl

theorem Stn.takeAnswer_of_match (live : s.pend? tag = some e) (fits : s.answerMatches p e = true) (res : Result) :
    s.takeAnswer p tag res = (s.dropForward tag).applyResult tag res := by
  simp only [Stn.takeAnswer, live, fits, if_true]

end

/-! ### The row of a frame that brings one note (R28) -/

section
variable {s : State} {r : RoundPos} {p : Station} {heard : List Byte} {f : RoundFrame} {w : WireNote} {u : Stn}

theorem BringsNote.acted (brings : BringsNote s.stn p f w) (may : (s.stn.passWindow r).canTake w.body = true) :
    (f.notes.foldl (Stn.readNoteOf p) (f.takes.foldl (Stn.readTake p) (s.stn.passWindow r), false)).1 =
      ((s.stn.passWindow r).took p w.serial).actOn p w.body := by
  obtain ⟨takes, notes, own, new, -⟩ := brings
  rw [notes, takes, List.foldl_nil, List.foldl_cons, Stn.readNoteOf_of_taken (s := s.stn.passWindow r) own new may]
  rfl

/-- The owner's act frees no outbox place. -/
theorem exec_windowReading_of_note (hears : Hears s.stn r p heard f) (brings : BringsNote s.stn p f w)
    (may : (s.stn.passWindow r).canTake w.body = true)
    (does : ((s.stn.passWindow r).took p w.serial).actOn p w.body = u) (keeps : ChangesNothing u p f)
    (outbox : u.bus.outbox = s.stn.bus.outbox) (waiting : u.intake.waiting = s.stn.intake.waiting) :
    exec (.windowReading p heard) s = .next { s with stn := u.listened p r f } :=
  exec_windowReading_of_notes hears keeps.1.1 ((brings.acted may).trans does) keeps (outbox ▸ brings.2.2.2.2)
    (waiting.trans hears.2.2.1) (congrArg List.length outbox).ge

/-- The owner's act frees an outbox place that no entry waits for. -/
theorem exec_windowReading_of_placeFreed (hears : Hears s.stn r p heard f) (brings : BringsNote s.stn p f w)
    (may : (s.stn.passWindow r).canTake w.body = true)
    (does : ((s.stn.passWindow r).took p w.serial).actOn p w.body = u) (keeps : ChangesNothing u p f)
    (fewer : ∀ n ∈ u.bus.outbox, n ∈ s.stn.bus.outbox) (waiting : u.intake.waiting = []) (noneWaits : NoEntryWaits u) :
    exec (.windowReading p heard) s = .next { s with stn := u.listened p r f } :=
  exec_windowReading_of_acts hears keeps.1.1 ((brings.acted may).trans does) keeps
    (Stn.resolve_of_none (s := u.listened p r f) fun n mem => brings.2.2.2.2 n (fewer n mem))
    (Stn.settledFrom_of_none (s := u.listened p r f) waiting noneWaits)

end

/-- A station whose SENDING entries are entries of s, none of this tag, lacks no FORWARD that s has, but that of the
tag. -/
theorem NoEntryWaits.of_dropped {s u : Stn} {tag : Tag} (noneWaits : NoEntryWaits s)
    (outbox : u.bus.outbox = s.bus.outbox.filter fun n => decide (n.forwardTag? ≠ some tag))
    (pend : ∀ e ∈ u.req.pend, e.state = .sending → e ∈ s.req.pend ∧ e.tag ≠ tag) : NoEntryWaits u := by
  intro e mem sending
  obtain ⟨inside, other⟩ := pend e mem sending
  obtain ⟨n, there, held⟩ := noneWaits e inside sending
  refine ⟨n, ?_, held⟩
  rw [outbox, List.mem_filter, held]
  exact ⟨there, decide_eq_true fun same => other (Option.some.inj same)⟩

/-- An entry of the tag that a change leaves not SENDING. -/
theorem mem_changed_sending {l : List PendEntry} {tag : Tag} {f : PendEntry → PendEntry}
    (moves : ∀ x, (f x).state ≠ .sending) {e : PendEntry} (mem : e ∈ l.map fun x => if x.tag = tag then f x else x)
    (sending : e.state = .sending) : e ∈ l ∧ e.tag ≠ tag := by
  obtain ⟨x, inside, rfl⟩ := List.mem_map.1 mem
  by_cases same : x.tag = tag
  · rw [if_pos same] at sending
    exact absurd sending (moves x)
  · rw [if_neg same]
    exact ⟨inside, same⟩

/-- Settles O39: late, finished, discarded, held and deferred, each by what the result does to the entry. -/
theorem answersFinishOrDeferTheirRequest : Obligations.AnswersFinishOrDeferTheirRequest := by
  unfold Obligations.AnswersFinishOrDeferTheirRequest
  intro s r p heard f w tag res hears keeps brings body i t late sent
  let v := (s.stn.passWindow r).took p w.serial
  have may : (s.stn.passWindow r).canTake w.body = true := by rw [body]; rfl
  have does : v.actOn p w.body = v.takeAnswer p tag res := by rw [body]; rfl
  have isLate (counted : v.takeAnswer p tag res = v.tooLate) : exec i s = .next late :=
    exec_windowReading_of_note hears brings may (does.trans counted) keeps rfl rfl
  refine ⟨fun none => isLate (Stn.takeAnswer_of_none (s := v) none res), fun e live => ⟨fun other => ?_, ?_⟩⟩
  · refine isLate (Stn.takeAnswer_of_other (s := v) live (Bool.eq_false_iff.2 fun fits => ?_) res)
    obtain ⟨target, state⟩ := (v.answerMatches_iff p e).1 fits
    obtain away | ⟨notAwaiting, notSent⟩ := other
    · exact away target
    · obtain awaiting | sending := state
      · exact notAwaiting awaiting
      · exact notSent (show _ ∧ v.forwardSent tag from Stn.pend?_tag live ▸ sending)
  · intro target state noneWaits none gone freed deferred
    have same : e.tag = tag := Stn.pend?_tag live
    have fits : v.answerMatches p e = true := (v.answerMatches_iff p e).2 ⟨target, by rw [same]; exact state⟩
    let left := s.stn.bus.outbox.filter fun n => decide (n.forwardTag? ≠ some tag)
    let g : Stn := { v with bus.outbox := left }
    have matched : v.actOn p w.body = g.applyResult tag res := by
      rw [does, Stn.takeAnswer_of_match (s := v) live fits, Stn.dropForward_eq]
      rfl
    have ran {u : Stn} (result : g.applyResult tag res = u) (keeps' : ChangesNothing u p f)
        (outbox : u.bus.outbox = left) (waiting : u.intake.waiting = s.stn.intake.waiting)
        (pend : ∀ e ∈ u.req.pend, e.state = .sending → e ∈ s.stn.req.pend ∧ e.tag ≠ tag) :
        exec i s = .next { s with stn := u.listened p r f } :=
      exec_windowReading_of_placeFreed hears brings may (matched.trans result) keeps'
        (fun n mem => List.mem_of_mem_filter (outbox ▸ mem)) (waiting.trans hears.2.2.1)
        (noneWaits.of_dropped outbox pend)
    have finishes {u : Stn} (text : List Byte) (result : g.applyResult tag res = u.finish tag text)
        (live' : u.pend? tag = some e) (order : u.req.holdOrder = []) (room : ReplyFits u e)
        (keeps' : ChangesNothing (u.finished e text) p f) (outbox : u.bus.outbox = left)
        (waiting : u.intake.waiting = s.stn.intake.waiting) (pend : u.req.pend = s.stn.req.pend) :
        exec i s = .next { s with stn := (u.finished e text).listened p r f } := by
      refine ran (result.trans (Stn.finish_of_room live' room order text)) keeps' outbox waiting fun x mem sends => ?_
      obtain ⟨inside, other⟩ := List.mem_filter.1 (show x ∈ u.req.pend.filter fun x => decide (x.tag ≠ e.tag) from mem)
      exact ⟨pend ▸ inside, same ▸ of_decide_eq_true other⟩
    have defers {u : Stn} (result : g.applyResult tag res = u.deferred tag) (keeps' : ChangesNothing u p f)
        (outbox : u.bus.outbox = left)
        (waiting : u.intake.waiting = s.stn.intake.waiting) (pend : u.req.pend = s.stn.req.pend) :
        exec i s = .next { s with stn := (u.deferred tag).listened p r f } :=
      ran result keeps' outbox waiting fun x mem sends =>
        pend ▸ mem_changed_sending (f := fun x => { x with state := .deferred, deferrals := x.deferrals + 1, wait := 0 })
          (fun _ => nofun) mem sends
    have gLive : g.pend? tag = some e := live
    refine ⟨fun text reply => ⟨fun room => ?_, fun newer => ?_, fun unchanged full => ?_⟩, fun notYet => ⟨fun below => ?_,
      fun last room => ?_⟩, fun m moved => ⟨fun sub q request named => ?_, fun unnamed below => ?_⟩⟩
    · exact finishes text (by rw [reply]; rfl) gLive none room keeps rfl rfl rfl
    · refine ran (u := { g with req.pend := s.stn.req.pend.filter fun x => decide (x.tag ≠ tag) }) ?_ keeps rfl rfl
        fun x mem sends => ?_
      · rw [reply]
        have freed := Stn.finish_of_gone gLive newer text
        have order : g.req.holdOrder = [] := none
        rw [Stn.freePend, order] at freed
        exact freed.trans (Stn.with_holdOrder
          (s := { g with req.pend := s.stn.req.pend.filter fun x => decide (x.tag ≠ tag) }) none)
      · obtain ⟨inside, other⟩ := List.mem_filter.1 mem
        exact ⟨inside, of_decide_eq_true other⟩
    · exact ran (u := g.holdsReply tag text) (by rw [reply]; exact Stn.finish_of_full gLive unchanged full none text) keeps rfl rfl
        fun x mem sends => mem_changed_sending (f := fun x => { x with state := .holding text }) (fun _ => nofun) mem sends
    · exact defers (u := g) (by rw [notYet]; exact Stn.defer_of_below gLive below) keeps rfl rfl rfl
    · exact finishes (str "X/RETRY") (by rw [notYet]; exact Stn.defer_of_last gLive last) gLive none room keeps rfl rfl rfl
    · intro others cache
      have cached : g.applyResult tag res = (g.cachedRoute sub m).defer tag := by
        rw [moved, Stn.applyResult_moved gLive, request]
        exact congrArg (fun o : Option Nat => (o.elim g fun sub => g.cachedRoute sub m).defer tag) named
      have isCache : g.cachedRoute sub m = { g with req.cache := cache } :=
        congrArg (fun c => { g with req.cache := c }) (installCache_eq s.stn.req.cache sub m)
      rw [isCache] at cached
      refine ⟨fun below => ?_, fun last room => ?_⟩
      · exact defers (cached.trans (Stn.defer_of_below gLive below)) keeps rfl rfl rfl
      · exact finishes (str "X/RETRY") (cached.trans (Stn.defer_of_last gLive last)) gLive none room keeps rfl rfl rfl
    · refine defers (u := g) ?_ keeps rfl rfl rfl
      rw [moved, Stn.applyResult_moved gLive, unnamed]
      exact Stn.defer_of_below gLive below

end Sys2Proof.Machine
end


section
/-!
SUPPORT. The execution of a request does not see what a VALID frame that keeps the map leaves beside its takes and
notes (R23, R93): the two may change places.
-/

namespace Sys2Proof.Machine

section
variable (s : Stn) (p : Station) (r : RoundPos) (f : RoundFrame)

/-! ### What the operations read -/

@[simp] theorem Stn.view_listened (k : Station) : (s.listened p r f).view k = s.view k := s.view_heardIn p k f

@[simp] theorem Stn.custodian_listened (k : Station) : (s.listened p r f).custodian k = s.custodian k :=
  s.custodian_heardIn p k f

@[simp] theorem Stn.buddy_listened : (s.listened p r f).buddy = s.buddy := rfl

@[simp] theorem Stn.ward_listened : (s.listened p r f).ward = s.ward := rfl

@[simp] theorem Stn.self_listened : (s.listened p r f).self = s.self := rfl

@[simp] theorem Stn.img_listened : (s.listened p r f).img = s.img := rfl

@[simp] theorem Stn.subs_listened : (s.listened p r f).subs = s.subs := rfl

@[simp] theorem Stn.store_listened : (s.listened p r f).store = s.store := rfl

@[simp] theorem Stn.outbox_listened : (s.listened p r f).bus.outbox = s.bus.outbox := rfl

@[simp] theorem Stn.period_listened : (s.listened p r f).bill.period = s.bill.period := rfl

@[simp] theorem Stn.custState_listened : (s.listened p r f).cust.state = s.cust.state := rfl

@[simp] theorem Stn.outboxFree_listened : (s.listened p r f).outboxFree = s.outboxFree := rfl

@[simp] theorem Stn.rec?_listened (sub : Nat) : (s.listened p r f).rec? sub = s.rec? sub := rfl

@[simp] theorem Stn.recAt?_listened (a : PagerAddr) : (s.listened p r f).recAt? a = s.recAt? a := rfl

@[simp] theorem Stn.standby?_listened (sub : Nat) : (s.listened p r f).standby? sub = s.standby? sub := rfl

@[simp] theorem Stn.msg?_listened (serial : Serial) : (s.listened p r f).msg? serial = s.msg? serial := rfl

@[simp] theorem Stn.outcome?_listened (serial : Serial) : (s.listened p r f).outcome? serial = s.outcome? serial := rfl

@[simp] theorem Stn.homeOf_listened (sub : Nat) : (s.listened p r f).homeOf sub = s.homeOf sub := rfl

@[simp] theorem Stn.tariffOf_listened (x : Record) : (s.listened p r f).tariffOf x = s.tariffOf x := rfl

@[simp] theorem Stn.hasRoom_listened (body : List Byte) : (s.listened p r f).hasRoom body = s.hasRoom body := rfl

@[simp] theorem Stn.committed_listened (m : Message) : (s.listened p r f).committed m = s.committed m := rfl

@[simp] theorem Stn.draining_listened : (s.listened p r f).draining = s.draining := rfl

@[simp] theorem Stn.billingRoom_listened : (s.listened p r f).billingRoom = s.billingRoom := rfl

theorem Stn.returningFor_listened (h : Station) : (s.listened p r f).returningFor h = s.returningFor h := rfl

theorem Stn.elsewhere_listened (h : Station) : (s.listened p r f).elsewhere h = s.elsewhere h := by
  simp only [Stn.elsewhere, Stn.custodian_listened, Stn.self_listened]
  rfl

@[simp] theorem Stn.lookup_listened (sub : Nat) (h : Station) : (s.listened p r f).lookup sub h = s.lookup sub h := by
  simp only [Stn.lookup, Stn.rec?_listened, Stn.standby?_listened, Stn.returningFor_listened, Stn.elsewhere_listened,
    Stn.custodian_listened, Stn.self_listened, Stn.subs_listened]
  rfl

/-! ### What the operations change -/

@[simp] theorem Stn.updRec_listened (sub : Nat) (g : Record → Record) :
    (s.listened p r f).updRec sub g = (s.updRec sub g).listened p r f := rfl

@[simp] theorem Stn.updMeter_listened (sub : Nat) (g : MeterFields → MeterFields) :
    (s.listened p r f).updMeter sub g = (s.updMeter sub g).listened p r f := rfl

@[simp] theorem Stn.updMsg_listened (serial : Serial) (g : Message → Message) :
    (s.listened p r f).updMsg serial g = (s.updMsg serial g).listened p r f := rfl

@[simp] theorem Stn.writeOff_listened (n : Nat) : (s.listened p r f).writeOff n = (s.writeOff n).listened p r f := rfl

@[simp] theorem Stn.pushNote_listened (n : Note) : (s.listened p r f).pushNote n = (s.pushNote n).listened p r f := rfl

@[simp] theorem Stn.insertRec_listened (x : Record) : (s.listened p r f).insertRec x = (s.insertRec x).listened p r f := rfl

@[simp] theorem Stn.removeRec_listened (sub : Nat) :
    (s.listened p r f).removeRec sub = (s.removeRec sub).listened p r f := rfl

@[simp] theorem Stn.joinReady_listened (q : Priority) (serial : Serial) :
    (s.listened p r f).joinReady q serial = (s.joinReady q serial).listened p r f := by
  cases q <;> rfl

@[simp] theorem Stn.leaveReady_listened (serial : Serial) :
    (s.listened p r f).leaveReady serial = (s.leaveReady serial).listened p r f := rfl

@[simp] theorem Stn.mirrorToRestart_listened : (s.listened p r f).mirrorToRestart = s.mirrorToRestart.listened p r f := by
  simp only [Stn.mirrorToRestart, Stn.subs_listened]
  split <;> rfl

@[simp] theorem Stn.handChange_listened (body : NoteBody) :
    (s.listened p r f).handChange body = (s.handChange body).listened p r f := by
  simp only [Stn.handChange, Stn.view_listened, Stn.buddy_listened, Stn.outboxFree_listened, Stn.mirrorToRestart_listened,
    Stn.pushNote_listened]
  split
  · rfl
  · split <;> rfl

@[simp] theorem Stn.handMirror_listened (sub : Nat) :
    (s.listened p r f).handMirror sub = (s.handMirror sub).listened p r f := by
  simp only [Stn.handMirror, Stn.rec?_listened, Stn.handChange_listened]
  repeat' split
  all_goals rfl

@[simp] theorem Stn.setService_listened (sub : Nat) (v : Service) :
    (s.listened p r f).setService sub v = (s.setService sub v).listened p r f := by
  simp only [Stn.setService, Stn.updRec_listened, Stn.handMirror_listened]

@[simp] theorem Stn.rollTest_listened (sub : Nat) : (s.listened p r f).rollTest sub = (s.rollTest sub).listened p r f := by
  simp only [Stn.rollTest, Stn.rec?_listened, Stn.setService_listened]
  repeat' split
  all_goals rfl

@[simp] theorem Stn.roll_listened (sub : Nat) : (s.listened p r f).roll sub = (s.roll sub).listened p r f := by
  simp only [Stn.roll, Stn.rec?_listened, Stn.period_listened, Stn.updMeter_listened, Stn.writeOff_listened,
    Stn.rollTest_listened]
  repeat' split
  all_goals rfl

@[simp] theorem Stn.makeReady_listened (serial : Serial) :
    (s.listened p r f).makeReady serial = (s.makeReady serial).listened p r f := by
  simp only [Stn.makeReady, Stn.msg?_listened, Stn.updMsg_listened, Stn.joinReady_listened]
  split <;> rfl

theorem Stn.isUrgent_listened : (s.listened p r f).isUrgent = s.isUrgent := rfl

@[simp] theorem Stn.placeInQueue_listened (sub : Nat) (q : Priority) (serial : Serial) :
    (s.listened p r f).placeInQueue sub q serial = (s.placeInQueue sub q serial).listened p r f := by
  simp only [Stn.placeInQueue, Stn.rec?_listened, Stn.msg?_listened, Stn.updRec_listened, Stn.updMsg_listened,
    Stn.leaveReady_listened, Stn.makeReady_listened, Stn.isUrgent_listened]
  repeat' split
  all_goals rfl

@[simp] theorem Stn.acceptMessage_listened (sub : Nat) (q : Priority) (origin : MsgOrigin) (body : List Byte) (n : Nat) :
    (s.listened p r f).acceptMessage sub q origin body n = (s.acceptMessage sub q origin body n).listened p r f := by
  simp only [Stn.acceptMessage, ← Stn.placeInQueue_listened]
  rfl

@[simp] theorem Stn.createNotice_listened (sub : Nat) :
    (s.listened p r f).createNotice sub = (s.createNotice sub).map fun t => t.listened p r f := by
  simp only [Stn.createNotice, Stn.hasRoom_listened, Stn.img_listened, Stn.acceptMessage_listened]
  split <;> rfl

@[simp] theorem Stn.offerNotice_listened (sub : Nat) :
    (s.listened p r f).offerNotice sub = (s.offerNotice sub).listened p r f := by
  simp only [Stn.offerNotice, Stn.createNotice_listened, Stn.updMeter_listened]
  cases s.createNotice sub <;> rfl

@[simp] theorem Stn.noticeTest_listened (sub : Nat) :
    (s.listened p r f).noticeTest sub = (s.noticeTest sub).listened p r f := by
  simp only [Stn.noticeTest, Stn.rec?_listened, Stn.updMeter_listened, Stn.offerNotice_listened]
  repeat' split
  all_goals rfl

@[simp] theorem Stn.reserve_listened (sub n : Nat) : (s.listened p r f).reserve sub n = (s.reserve sub n).listened p r f := by
  simp only [Stn.reserve, Stn.updMeter_listened, Stn.noticeTest_listened]

@[simp] theorem Stn.settle_listened (sub : Nat) (origin : MsgOrigin) (reserved : Nat) (o : Outcome) (transmissions : Nat) :
    (s.listened p r f).settle sub origin reserved o transmissions =
      (s.settle sub origin reserved o transmissions).listened p r f := by
  simp only [Stn.settle, Stn.roll_listened, Stn.rec?_listened]
  split
  · rw [← Stn.noticeTest_listened]
    rfl
  · rfl

@[simp] theorem Stn.leaveFlight_listened (m : Message) :
    (s.listened p r f).leaveFlight m = (s.leaveFlight m).listened p r f := by
  unfold Stn.leaveFlight
  split <;> rfl

@[simp] theorem Stn.promoteHead_listened (sub : Nat) :
    (s.listened p r f).promoteHead sub = (s.promoteHead sub).listened p r f := by
  simp only [Stn.promoteHead, Stn.rec?_listened, Stn.msg?_listened, Stn.makeReady_listened]
  repeat' split
  all_goals rfl

@[simp] theorem Stn.finalOutcome_listened (serial : Serial) (o : Outcome) :
    (s.listened p r f).finalOutcome serial o = (s.finalOutcome serial o).listened p r f := by
  simp only [Stn.finalOutcome, Stn.msg?_listened, Stn.leaveFlight_listened, Stn.updRec_listened]
  split
  · rfl
  · rw [← Stn.promoteHead_listened, ← Stn.settle_listened]
    rfl

/-! ### The requests (R94 to R97) -/

/-- The station behind an execution, and its result. -/
def Stn.listenedResult (x : Stn × Result) : Stn × Result := (x.1.listened p r f, x.2)

theorem Stn.cancel_listened (serial : Serial) :
    (s.listened p r f).cancel serial = ((s.cancel serial).1.listened p r f, (s.cancel serial).2) := by
  simp only [Stn.cancel, Stn.msg?_listened, Stn.committed_listened, Stn.updMsg_listened, Stn.finalOutcome_listened,
    Stn.outcome?_listened]
  repeat' split
  all_goals rfl

theorem Stn.cancelHere_listened (k : Station) (serial : Serial) :
    (s.listened p r f).cancelHere k serial = listenedResult p r f (s.cancelHere k serial) := by
  simp only [Stn.cancelHere, Stn.cancel_listened]
  rfl

theorem Stn.submitFound_listened (x : Record) (q : Priority) (body : List Byte) :
    (s.listened p r f).submitFound x q body = listenedResult p r f (s.submitFound x q body) := by
  simp only [Stn.submitFound, Stn.tariffOf_listened, Stn.hasRoom_listened, Stn.acceptMessage_listened,
    Stn.reserve_listened]
  repeat' split
  all_goals rfl

theorem Stn.enrolAbsent_listened (h : Station) (a : Admin) :
    (s.listened p r f).enrolAbsent h a = listenedResult p r f (s.enrolAbsent h a) := by
  simp only [Stn.enrolAbsent, Stn.recAt?_listened, Stn.subs_listened, Stn.self_listened, Stn.period_listened,
    Stn.insertRec_listened, Stn.handMirror_listened]
  split
  · rfl
  · split <;> rfl

theorem Stn.amendFound_listened (x : Record) (groups : List Group) :
    (s.listened p r f).amendFound x groups = listenedResult p r f (s.amendFound x groups) := by
  simp only [Stn.amendFound, Stn.updRec_listened, Stn.handMirror_listened]
  split <;> rfl

theorem Stn.moveService_listened (x : Record) (v : Service) :
    (s.listened p r f).moveService x v = (s.moveService x v).listened p r f := by
  simp only [Stn.moveService, Stn.setService_listened]
  split <;> rfl

theorem Stn.settleEntry_listened (scale : Nat) (e : FormEntry) :
    Stn.settleEntry scale (s.listened p r f) e = (Stn.settleEntry scale s e).listened p r f := by
  simp only [Stn.settleEntry, Stn.rec?_listened]
  split <;> rfl

theorem Stn.formBlock_listened (e : FormEntry) (q : Period) :
    (s.listened p r f).formBlock [e] q = (s.formBlock [e] q).listened p r f := by
  simp only [Stn.formBlock, List.foldl_cons, List.foldl_nil, Stn.settleEntry_listened, Stn.numberBlock_eq]
  rfl

theorem Stn.withdraw_listened (x : Record) :
    (s.listened p r f).withdraw x = (s.withdraw x).map fun t => t.listened p r f := by
  have formed (t : Stn) (e : FormEntry) : (t.listened p r f).formBlock [e] s.bill.period =
      (t.formBlock [e] s.bill.period).listened p r f := t.formBlock_listened p r f e _
  simp only [Stn.withdraw, Stn.draining_listened, Stn.billingRoom_listened, Stn.removeRec_listened,
    Stn.handChange_listened, Stn.period_listened]
  split
  · rfl
  · split
    · rfl
    · split
      · rfl
      · cases x.origin <;> exact congrArg Except.ok (formed _ _)

theorem Stn.withdrawFound_listened (x : Record) :
    (s.listened p r f).withdrawFound x = listenedResult p r f (s.withdrawFound x) := by
  simp only [Stn.withdrawFound, Stn.withdraw_listened]
  cases s.withdraw x <;> rfl

theorem Stn.serve_listened (sub : Nat) {onFound onFound' : Record → Stn × Result}
    {onAbsent onAbsent' : Station → Stn × Result} (found : ∀ x, onFound' x = listenedResult p r f (onFound x))
    (absent : ∀ h, onAbsent' h = listenedResult p r f (onAbsent h)) :
    (s.listened p r f).serve sub onFound' onAbsent' = listenedResult p r f (s.serve sub onFound onAbsent) := by
  simp only [Stn.serve, Stn.custState_listened, Stn.homeOf_listened, Stn.lookup_listened, Stn.rec?_listened,
    Stn.self_listened, found, absent]
  repeat' split
  all_goals rfl

theorem Stn.serveReceipt_listened {x y : Stn × Result} (same : y = listenedResult p r f x) :
    (s.listened p r f).serveReceipt y = listenedResult p r f (s.serveReceipt x) := by
  subst same
  simp only [Stn.serveReceipt, Stn.custState_listened]
  split <;> rfl

/-- An execution changes place with the rest of a VALID frame. -/
theorem Stn.execute_listened {q : Request} (forwarded : isLocalRequest q = false) :
    (s.listened p r f).execute q = listenedResult p r f (s.execute q) := by
  cases q with
  | submit sub q body => exact s.serve_listened p r f sub (fun x => s.submitFound_listened p r f x q body) fun _ => rfl
  | cancel k serial => exact s.serveReceipt_listened p r f (s.cancelHere_listened p r f k serial)
  | query k serial => exact s.serveReceipt_listened p r f rfl
  | enrol sub addr cls t z zones quota threshold =>
    exact s.serve_listened p r f sub (fun _ => rfl) fun h => s.enrolAbsent_listened p r f h _
  | amend sub groups => exact s.serve_listened p r f sub (fun x => s.amendFound_listened p r f x groups) fun _ => rfl
  | suspend sub =>
    exact s.serve_listened p r f sub (fun x => congrArg (·, _) (s.moveService_listened p r f x _)) fun _ => rfl
  | resume sub =>
    exact s.serve_listened p r f sub (fun x => congrArg (·, _) (s.moveService_listened p r f x _)) fun _ => rfl
  | withdraw sub => exact s.serve_listened p r f sub (s.withdrawFound_listened p r f) fun _ => rfl
  | meterRead sub => exact s.serve_listened p r f sub (fun _ => rfl) fun _ => rfl
  | periodClose | status => cases forwarded

theorem Stn.answerFor_listened (k : Station) (tag : Tag) (parsed : Except Word Request) :
    (s.listened p r f).answerFor k tag parsed = (s.answerFor k tag parsed).listened p r f := by
  have handed (t : Stn) (res : Result) : (t.listened p r f).handAnswer k tag res = (t.handAnswer k tag res).listened p r f := by
    simp only [Stn.handAnswer, Stn.view_listened, Stn.pushNote_listened]
    split <;> rfl
  cases parsed with
  | error w => exact handed s _
  | ok q =>
    by_cases forwarded : isLocalRequest q = false
    · rw [Stn.answerFor_ok _ k tag forwarded, Stn.answerFor_ok _ k tag forwarded, Stn.execute_listened s p r f forwarded,
        listenedResult, handed, Stn.execute_listened _ p r f forwarded]
      rfl
    · cases q with
      | periodClose | status => exact handed s _
      | _ => exact absurd rfl forwarded

end

end Sys2Proof.Machine
end


section
/-!
SUPPORT. What an execution leaves of the outbox and of the period (R28, R93).
-/

namespace Sys2Proof.Machine

/-- The period stands, and a note that has entered the outbox does not wait for its take. -/
def Stn.HandsFresh (s t : Stn) : Prop :=
  t.bill.period = s.bill.period ∧ ∀ n ∈ t.bus.outbox, n ∈ s.bus.outbox ∨ n.awaiting = false

section
variable {s t u : Stn}

theorem Stn.HandsFresh.of_same (bill : t.bill = s.bill) (bus : t.bus = s.bus) : s.HandsFresh t := by
  rw [Stn.HandsFresh, bill, bus]
  exact ⟨rfl, fun _ mem => .inl mem⟩

theorem Stn.HandsFresh.refl (s : Stn) : s.HandsFresh s := .of_same rfl rfl

theorem Stn.HandsFresh.trans (first : s.HandsFresh t) (second : t.HandsFresh u) : s.HandsFresh u := by
  obtain ⟨period, notes⟩ := first
  obtain ⟨period', notes'⟩ := second
  exact ⟨period'.trans period, fun n mem => (notes' n mem).elim (notes n) .inr⟩

theorem Stn.HandsFresh.of_pushed (s : Stn) {n : Note} (fresh : n.awaiting = false) : s.HandsFresh (s.pushNote n) := by
  refine ⟨rfl, fun x mem => ?_⟩
  obtain there | rfl := List.mem_append.1 mem |>.imp_right List.mem_singleton.1
  · exact .inl there
  · exact .inr fresh

theorem Stn.mirrorToRestart_handsFresh (s : Stn) : s.HandsFresh s.mirrorToRestart := by
  unfold Stn.mirrorToRestart
  split
  · exact ⟨rfl, fun _ mem => .inl (List.mem_of_mem_filter mem)⟩
  · exact .of_same rfl rfl

theorem Stn.handChange_handsFresh (s : Stn) (body : NoteBody) : s.HandsFresh (s.handChange body) := by
  unfold Stn.handChange
  split
  · exact .refl s
  · split
    · exact .of_pushed s rfl
    · exact s.mirrorToRestart_handsFresh

theorem Stn.handMirror_handsFresh (s : Stn) (sub : Nat) : s.HandsFresh (s.handMirror sub) := by
  unfold Stn.handMirror
  repeat' split
  · exact s.handChange_handsFresh _
  · exact .refl s
  · exact .refl s

theorem Stn.setService_handsFresh (s : Stn) (sub : Nat) (v : Service) : s.HandsFresh (s.setService sub v) :=
  Stn.handMirror_handsFresh _ sub

theorem Stn.roll_handsFresh (s : Stn) (sub : Nat) : s.HandsFresh (s.roll sub) := by
  have tested (t : Stn) : t.HandsFresh (t.rollTest sub) := by
    unfold Stn.rollTest
    repeat' split
    · exact t.setService_handsFresh _ _
    · exact .refl t
    · exact .refl t
  unfold Stn.roll
  repeat' split
  · exact tested (Stn.writeOff _ _)
  · exact .refl s
  · exact .refl s

theorem Stn.settle_handsFresh (s : Stn) (sub : Nat) (origin : MsgOrigin) (reserved : Nat) (o : Outcome)
    (transmissions : Nat) : s.HandsFresh (s.settle sub origin reserved o transmissions) := by
  unfold Stn.settle
  dsimp only
  split
  · exact (s.roll_handsFresh sub).trans (.of_same (by simp) (by simp))
  · exact s.roll_handsFresh sub

theorem Stn.promoteHead_handsFresh (s : Stn) (sub : Nat) : s.HandsFresh (s.promoteHead sub) :=
  .of_same (by simp) (by simp)

theorem Stn.finalOutcome_handsFresh (s : Stn) (serial : Serial) (o : Outcome) :
    s.HandsFresh (s.finalOutcome serial o) := by
  unfold Stn.finalOutcome
  split
  · exact .refl s
  · dsimp only
    refine .trans ?_ ((Stn.settle_handsFresh _ ..).trans (Stn.promoteHead_handsFresh _ _))
    exact .of_same (by simp) (by simp)

theorem Stn.serve_handsFresh {sub : Nat} {onFound : Record → Stn × Result} {onAbsent : Station → Stn × Result}
    (found : ∀ r, s.HandsFresh (onFound r).1) (absent : ∀ h, s.HandsFresh (onAbsent h).1) :
    s.HandsFresh (s.serve sub onFound onAbsent).1 := by
  unfold Stn.serve
  repeat' split
  · exact .refl s
  · exact .refl s
  · exact found _
  · exact .refl s
  · exact .refl s
  · exact .refl s
  · exact .refl s
  · exact .refl s
  · exact absent _

theorem Stn.serveReceipt_handsFresh {x : Stn × Result} (does : s.HandsFresh x.1) : s.HandsFresh (s.serveReceipt x).1 := by
  unfold Stn.serveReceipt
  split
  · exact .refl s
  · exact does

theorem Stn.cancelHere_handsFresh (s : Stn) (k : Station) (serial : Serial) : s.HandsFresh (s.cancelHere k serial).1 := by
  have cancelled : s.HandsFresh (s.cancel serial).1 := by
    unfold Stn.cancel
    repeat' split
    · exact .of_same rfl rfl
    · exact .refl s
    · exact .refl s
    · exact s.finalOutcome_handsFresh _ _
    · exact .refl s
    · exact .refl s
  exact cancelled

theorem Stn.submitFound_handsFresh (s : Stn) (r : Record) (p : Priority) (body : List Byte) :
    s.HandsFresh (s.submitFound r p body).1 := by
  unfold Stn.submitFound
  dsimp only
  repeat' split
  all_goals exact .of_same (by simp) (by simp)

theorem Stn.enrolAbsent_handsFresh (s : Stn) (h : Station) (a : Admin) : s.HandsFresh (s.enrolAbsent h a).1 := by
  unfold Stn.enrolAbsent
  split
  · exact .refl s
  · split
    · exact .refl s
    · exact Stn.handMirror_handsFresh _ _

theorem Stn.moveService_handsFresh (s : Stn) (r : Record) (v : Service) : s.HandsFresh (s.moveService r v) := by
  unfold Stn.moveService
  split
  · exact .refl s
  · exact s.setService_handsFresh _ _

theorem Stn.amendFound_handsFresh (s : Stn) (r : Record) (groups : List Group) :
    s.HandsFresh (s.amendFound r groups).1 := by
  unfold Stn.amendFound
  dsimp only
  split
  · exact Stn.handMirror_handsFresh _ _
  · exact .of_same rfl rfl

theorem Stn.formBlock_handsFresh (s : Stn) (e : FormEntry) (q : Period) : s.HandsFresh (s.formBlock [e] q) := by
  have settled (scale : Nat) : s.HandsFresh (Stn.settleEntry scale s e) := by
    unfold Stn.settleEntry
    dsimp only
    split <;> exact ⟨rfl, fun _ mem => .inl mem⟩
  simp only [Stn.formBlock, List.foldl_cons, List.foldl_nil, Stn.numberBlock_eq]
  exact settled _

theorem Stn.withdrawFound_handsFresh (s : Stn) (r : Record) : s.HandsFresh (s.withdrawFound r).1 := by
  have removed : s.HandsFresh (s.removeRec r.admin.sub) := .of_same rfl rfl
  unfold Stn.withdrawFound
  split
  next t made =>
    unfold Stn.withdraw at made
    split at made
    · cases made
    · split at made
      · cases made
      · split at made
        · cases made
        · simp only [Except.ok.injEq] at made
          subst made
          refine removed.trans (.trans ?_ (Stn.formBlock_handsFresh _ _ _))
          split
          · exact Stn.handChange_handsFresh _ _
          · exact .refl _
  next => exact .refl s

/-- An execution for a peer. -/
theorem Stn.execute_handsFresh (s : Stn) {q : Request} (forwarded : isLocalRequest q = false) :
    s.HandsFresh (s.execute q).1 := by
  cases q with
  | submit sub p body => exact Stn.serve_handsFresh (fun r => s.submitFound_handsFresh r p body) fun _ => .refl s
  | cancel k serial => exact Stn.serveReceipt_handsFresh (s.cancelHere_handsFresh k serial)
  | query k serial => exact Stn.serveReceipt_handsFresh (.refl s)
  | enrol sub addr cls t z zones quota threshold =>
    exact Stn.serve_handsFresh (fun _ => .refl s) fun h => s.enrolAbsent_handsFresh h _
  | amend sub groups => exact Stn.serve_handsFresh (fun r => s.amendFound_handsFresh r groups) fun _ => .refl s
  | suspend sub => exact Stn.serve_handsFresh (fun r => s.moveService_handsFresh r _) fun _ => .refl s
  | resume sub => exact Stn.serve_handsFresh (fun r => s.moveService_handsFresh r _) fun _ => .refl s
  | withdraw sub => exact Stn.serve_handsFresh s.withdrawFound_handsFresh fun _ => .refl s
  | meterRead sub => exact Stn.serve_handsFresh (fun _ => .refl s) fun _ => .refl s
  | periodClose | status => cases forwarded

/-- The answer to a FORWARD, with what the execution of its request does. -/
theorem Stn.answerFor_handsFresh (s : Stn) (k : Station) (tag : Tag) (parsed : Except Word Request) :
    s.HandsFresh (s.answerFor k tag parsed) := by
  have handed (res : Result) : s.HandsFresh (s.handAnswer k tag res) := by
    unfold Stn.handAnswer
    split
    · exact .refl s
    · exact .of_pushed s rfl
  cases parsed with
  | error w => exact handed _
  | ok q =>
    by_cases forwarded : isLocalRequest q = false
    · rw [Stn.answerFor_ok s k tag forwarded]
      exact (handed _).trans (Stn.execute_handsFresh _ forwarded)
    · cases q with
      | periodClose | status => exact handed _
      | _ => exact absurd rfl forwarded

theorem Stn.answerFor_intake (s : Stn) (k : Station) (tag : Tag) (parsed : Except Word Request) :
    (s.answerFor k tag parsed).intake = s.intake := by
  cases parsed with
  | error w => exact (Stn.handAnswer_frame _ _ _ _).2.1
  | ok q =>
    by_cases forwarded : isLocalRequest q = false
    · rw [Stn.answerFor_ok s k tag forwarded, Stn.execute_intake _ (by rintro rfl; cases forwarded)]
      exact (Stn.handAnswer_frame _ _ _ _).2.1
    · cases q with
      | periodClose | status => exact (Stn.handAnswer_frame _ _ _ _).2.1
      | _ => exact absurd rfl forwarded

end

end Sys2Proof.Machine
end


section
/-!
SUPPORT. The field tests of a parsed entry (R84, R85), and the row of a frame that brings a FORWARD (R28, R93).
-/

namespace Sys2Proof.Machine

/-! ### What a field that reads can be (R84, R85) -/

theorem decField?_le {lo hi cap n : Nat} {bs : List Byte} (reads : decField? lo hi cap bs = some n) : n ≤ cap := by
  unfold decField? at reads
  repeat' split at reads
  next small =>
    cases reads
    exact small
  all_goals cases reads

theorem subField?_lt {sub : Nat} {bs : List Byte} (reads : subField? bs = some sub) : sub < Config.subscriberLimit :=
  Nat.lt_succ_of_le (decField?_le reads)

theorem zonesField?_ne {z : ZoneSet} {bs : List Byte} (reads : zonesField? bs = some z) : z ≠ 0 := by
  unfold zonesField? at reads
  repeat' split at reads
  · cases reads
  next x y high low some_ =>
    cases reads
    have digit {b : Byte} {n : Nat} (is : hexDigit? b = some n) : n < 16 := by
      unfold hexDigit? at is
      repeat' split at is
      all_goals simp only [Option.some.injEq, reduceCtorEq] at is
      all_goals omega
    have first := digit high
    have second := digit low
    intro zero
    have value := congrArg BitVec.toNat zero
    simp only [BitVec.toNat_ofNat, BitVec.ofNat_eq_ofNat, Nat.reducePow, Nat.zero_mod] at value
    omega
  all_goals cases reads

theorem groupField?_zones {z : ZoneSet} {bs : List Byte} (reads : groupField? bs = some (.zones z)) : z ≠ 0 := by
  unfold groupField? at reads
  repeat' split at reads
  all_goals simp only [Option.map_eq_some_iff, reduceCtorEq, and_false, exists_false, Option.some.injEq,
    Group.zones.injEq] at reads
  obtain ⟨_, field, rfl⟩ := reads
  exact zonesField?_ne field

theorem groupFields?_spec {fields : List (List Byte)} {groups : List Group} (reads : groupFields? fields = some groups) :
    groups.length = fields.length ∧ ∀ z, Group.zones z ∈ groups → z ≠ 0 := by
  induction fields generalizing groups with
  | nil =>
    cases reads
    exact ⟨rfl, fun _ mem => nomatch mem⟩
  | cons field fields ih =>
    unfold groupFields? at reads
    split at reads
    next g gs first rest =>
      cases reads
      obtain ⟨length, none⟩ := ih rest
      refine ⟨congrArg (· + 1) length, fun z mem => ?_⟩
      obtain is | mem := List.mem_cons.1 mem
      · exact groupField?_zones (is ▸ first)
      · exact none z mem
    next => cases reads

/-! ### What a parse that succeeds has tested (R83 to R85) -/

theorem orSyntax_ok {α : Type} {o : Option α} {x : α} (ok : orSyntax o = .ok x) : o = some x := by
  cases o with
  | none => cases ok
  | some y => exact congrArg some (Except.ok.inj ok)

theorem fieldRefusal_of_parseSubmit {rest : List Byte} {q : Request} (reads : parseSubmit rest = .ok q) :
    fieldRefusal q = none := by
  unfold parseSubmit at reads
  repeat' split at reads
  next number _ body =>
    cases reads
    rw [fieldRefusal, if_neg (Nat.not_le.2 (subField?_lt number)), if_pos body]
  all_goals cases reads

theorem fieldRefusal_of_parseEnrol {fields : List (List Byte)} {q : Request} (reads : parseEnrol fields = some q) :
    fieldRefusal q = none := by
  unfold parseEnrol at reads
  repeat' split at reads
  next number _ _ _ _ zones _ _ =>
    cases reads
    exact if_neg (not_or.2 ⟨Nat.not_le.2 (subField?_lt number), zonesField?_ne zones⟩)
  all_goals cases reads

theorem fieldRefusal_of_parseAmend {fields : List (List Byte)} {q : Request} (reads : parseAmend fields = some q) :
    fieldRefusal q = none := by
  unfold parseAmend at reads
  repeat' split at reads
  next bounds _ _ _ _ number groups =>
    cases reads
    obtain ⟨length, zoned⟩ := groupFields?_spec groups
    obtain ⟨least, most⟩ := bounds
    refine if_neg (not_or.2 ⟨Nat.not_le.2 (subField?_lt number), not_or.2 ⟨?_, not_or.2 ⟨?_, ?_⟩⟩⟩)
    · rw [length]
      exact Nat.not_lt.2 least
    · rw [length]
      exact Nat.not_lt.2 most
    · rw [List.contains_iff_mem]
      exact fun mem => zoned 0 mem rfl
  all_goals cases reads

theorem parseSub_spec {make : Nat → Request} {fields : List (List Byte)} {q : Request}
    (reads : parseSub make fields = some q) : ∃ sub < Config.subscriberLimit, q = make sub := by
  unfold parseSub at reads
  split at reads
  · obtain ⟨sub, number, rfl⟩ := Option.map_eq_some_iff.1 reads
    exact ⟨sub, subField?_lt number, rfl⟩
  · cases reads

theorem parseReceipt_spec {make : Station → Serial → Request} {fields : List (List Byte)} {q : Request}
    (reads : parseReceipt make fields = some q) : ∃ k n, q = make k n := by
  unfold parseReceipt at reads
  split at reads
  · obtain ⟨r, -, rfl⟩ := Option.map_eq_some_iff.1 reads
    exact ⟨_, _, rfl⟩
  · cases reads

theorem fieldRefusal_of_parseFields {k : Kind} {rest : Option (List Byte)} {q : Request}
    (reads : parseFields k rest = .ok q) : fieldRefusal q = none := by
  have bySub {make : Nat → Request} {bs : List Byte} (is : orSyntax (parseSub make (splitFields bs)) = .ok q)
      (refuses : ∀ sub, fieldRefusal (make sub) = if Config.subscriberLimit ≤ sub then some .badSyntax else none) :
      fieldRefusal q = none := by
    obtain ⟨sub, small, rfl⟩ := parseSub_spec (orSyntax_ok is)
    rw [refuses, if_neg (Nat.not_le.2 small)]
  have byReceipt {make : Station → Serial → Request} {bs : List Byte}
      (is : orSyntax (parseReceipt make (splitFields bs)) = .ok q) (passes : ∀ h n, fieldRefusal (make h n) = none) :
      fieldRefusal q = none := by
    obtain ⟨h, n, rfl⟩ := parseReceipt_spec (orSyntax_ok is)
    exact passes h n
  unfold parseFields at reads
  split at reads
  · cases reads; rfl
  · cases reads; rfl
  · split at reads <;> cases reads; rfl
  · exact fieldRefusal_of_parseSubmit reads
  · exact byReceipt reads fun _ _ => rfl
  · exact byReceipt reads fun _ _ => rfl
  · exact fieldRefusal_of_parseEnrol (orSyntax_ok reads)
  · exact fieldRefusal_of_parseAmend (orSyntax_ok reads)
  · exact bySub reads fun _ => rfl
  · exact bySub reads fun _ => rfl
  · exact bySub reads fun _ => rfl
  · exact bySub reads fun _ => rfl
  · cases reads

/-- An entry that parses passes the field tests. -/
theorem fieldRefusal_of_parseEntry {role : Role} {text : List Byte} {q : Request} (reads : parseEntry role text = .ok q) :
    fieldRefusal q = none := by
  unfold parseEntry at reads
  split at reads
  · cases reads
  · split at reads
    · cases reads
    · split at reads
      · split at reads
        · split at reads
          · exact fieldRefusal_of_parseFields reads
          · cases reads
        · cases reads
      · split at reads
        · split at reads
          · exact fieldRefusal_of_parseFields reads
          · cases reads
        · cases reads

/-! ### A FORWARD of a frame (R28, R93) -/

section
variable {s : State} {r : RoundPos} {p : Station} {heard : List Byte} {f : RoundFrame} {w : WireNote}

/-- The row of a frame that brings a FORWARD: its answer, and what its execution does. -/
theorem exec_windowReading_of_forward (hears : Hears s.stn r p heard f) (keeps : ChangesNothing s.stn p f)
    (brings : BringsNote s.stn p f w) {tag : Tag} {text : List Byte} (body : w.body = .forward tag text)
    (room : s.stn.bus.outbox.length < 32) : exec (.windowReading p heard) s = .next { s with
      stn := (((s.stn.heard p r f).took p w.serial).answerFor p tag (parseEntry .operator text)).givePlaces s.stn } := by
  let v := (s.stn.passWindow r).took p w.serial
  let u := v.answerFor p tag (parseEntry .operator text)
  have may : (s.stn.passWindow r).canTake w.body = true := by
    rw [body]
    exact decide_eq_true room
  have does : v.actOn p w.body = u := by rw [body]; rfl
  obtain ⟨period, notes⟩ : v.HandsFresh u := v.answerFor_handsFresh p tag _
  obtain ⟨ctl, -, cust⟩ := v.answerFor_frame p tag (parseEntry .operator text)
  have keeps' : ChangesNothing u p f := by
    have same : ({ v with ctl := u.ctl, cust := u.cust, bill.period := u.bill.period } : Stn) = v := by
      rw [ctl, cust, period]
    have there : ChangesNothing ({ v with ctl := u.ctl, cust := u.cust, bill.period := u.bill.period } : Stn) p f := by
      rw [same]
      exact keeps
    exact there
  have none (n : Note) (mem : n ∈ u.bus.outbox) (dest : n.dest = p) : n.awaiting = false :=
    (notes n mem).elim (fun there => brings.2.2.2.2 n there dest) id
  have waiting : (u.listened p r f).intake.waiting = [] := by
    rw [show (u.listened p r f).intake = v.intake from v.answerFor_intake p tag _]
    exact hears.2.2.1
  have resolved : (u.listened p r f).resolve p = u.listened p r f := Stn.resolve_of_none none
  have settled : ((u.listened p r f).givePlaces s.stn).settled = (u.listened p r f).givePlaces s.stn :=
    Stn.settled_of_no_line (by rw [(Stn.givePlaces_frame _ _).2.1]; exact waiting)
  rw [exec_windowReading_valid hears, Stn.validFrame_of_changesNothing keeps.1.1 ((brings.acted may).trans does) keeps',
    resolved, Stn.settledFrom, settled, ← Stn.answerFor_listened]
  rfl

/-- A query or a meter read looks at nothing of the Bus Unit, and changes nothing. -/
theorem Stn.execute_reads (s : Stn) {q : Request} (reads : (∃ sub, q = .meterRead sub) ∨ ∃ k x, q = .query k x) (bus : Bus) :
    ({ s with bus := bus } : Stn).execute q = ({ s with bus := bus }, (s.execute q).2) := by
  obtain ⟨sub, rfl⟩ | ⟨k, x, rfl⟩ := reads
  · have lookup (h : Station) : ({ s with bus := bus } : Stn).lookup sub h = s.lookup sub h := rfl
    have home : ({ s with bus := bus } : Stn).homeOf sub = s.homeOf sub := rfl
    have record : ({ s with bus := bus } : Stn).rec? sub = s.rec? sub := rfl
    have own : ({ s with bus := bus } : Stn).self = s.self := rfl
    simp only [Stn.execute, Stn.serve, lookup, home, record, own]
    repeat' split
    all_goals rfl
  · simp only [Stn.execute, Stn.serveReceipt]
    split <;> rfl

end

end Sys2Proof.Machine
end


section
/-!
SUPPORT and RESULT. The double failure test where it finds nothing, the entry into LIVE of a station with an empty
outbox (R42, R50, R58), and the notes that a taking station acts on at once (R4, R13, R14, R28, R50, R57, R171).
-/

namespace Sys2Proof.Machine

/-! ### The double failure test (R42) -/

section
variable {s t : Stn}

theorem Stn.bothDown?_eq_none_iff : s.bothDown? = none ↔ NoDoubleFailure s := by
  simp only [Stn.bothDown?, List.find?_eq_none, NoDoubleFailure, Bool.and_eq_true, decide_eq_true_eq, Bool.not_eq_true',
    decide_eq_false_iff_not, not_and_not_right, and_imp]

theorem Stn.doubleFailure_of_none (none : NoDoubleFailure s) (w : Places) : s.doubleFailure w = s := by
  simp only [Stn.doubleFailure, Stn.bothDown, Stn.bothDown?_eq_none_iff.2 none]

theorem Stn.view_self_ne_failed (s : Stn) : s.view s.self ≠ .failed := by
  rw [Stn.view_eq, if_pos rfl]
  cases s.cust.state <;> nofun

/-- The test looks at the views and custodians of the peers alone. -/
theorem NoDoubleFailure.congr (none : NoDoubleFailure s) (ctl : t.ctl = s.ctl) (view : ∀ k, k ≠ s.self → t.view k = s.view k)
    (custodian : ∀ k, k ≠ s.self → t.custodian k = s.custodian k) : NoDoubleFailure t := by
  have img : t.img = s.img := by rw [Stn.img, Stn.img, ctl]
  have self : t.self = s.self := by rw [Stn.self, Stn.self, ctl]
  have roster : t.roster = s.roster := by rw [Stn.roster, Stn.roster, img]
  intro k inside other down failed
  rw [self] at other
  rw [img] at failed
  have peer : buddyOf s.img.roster k ≠ s.self := fun same => t.view_self_ne_failed (by rw [self, ← same]; exact failed)
  rw [view k other] at down ⊢
  rw [view _ peer] at failed
  rw [custodian k other]
  exact none k (roster ▸ inside) other down failed

end

/-! ### The entry into LIVE (R41, R50, R58) -/

section
variable {s : Stn}

/-- The mirror walk from its start. -/
def Stn.mirrored (s : Stn) : Stn := { s with subs.mirror := .running none true false }

theorem Stn.startMirror_of_empty (empty : s.bus.outbox = []) : s.startMirror = s.mirrored := by
  unfold Stn.startMirror
  split
  · rw [empty, List.filter_nil, ← empty]
    rfl
  · rfl

/-- The station in state LIVE, its mirror walk started where the buddy is LIVE. -/
def Stn.livened (s : Stn) : Stn :=
  { s with
    cust.state := .live
    subs.mirror := if s.view s.buddy = .live then .running none true false else s.subs.mirror }

theorem Stn.becomeLive_of_own (empty : s.bus.outbox = []) (other : s.buddy ≠ s.self)
    (own : (s.custodian s.self).isSome = true) (w : Places) : s.becomeLive w = s.livened := by
  let t : Stn := { s with cust.state := .live }
  have held : ¬t.custodian t.self = none := Option.isSome_iff_ne_none.1 own
  have view : t.view t.buddy = s.view s.buddy := by
    rw [t.view_eq, s.view_eq, if_neg (show t.buddy ≠ t.self from other), if_neg other]
    rfl
  have body : s.becomeLive w = if t.view t.buddy = .live then t.startMirror else t := by
    simp only [Stn.becomeLive]
    rw [if_neg held]
  rw [body, view, Stn.livened]
  split
  · exact Stn.startMirror_of_empty (s := t) empty
  · rfl

theorem Stn.view_livened {k : Station} (other : k ≠ s.self) : s.livened.view k = s.view k := by
  rw [s.livened.view_eq, s.view_eq, if_neg (show k ≠ s.livened.self from other), if_neg other]
  rfl

theorem Stn.enterLive_of_own (empty : s.bus.outbox = []) (other : s.buddy ≠ s.self)
    (own : (s.custodian s.self).isSome = true) (none : NoDoubleFailure s) (w : Places) : s.enterLive w = s.livened := by
  rw [Stn.enterLive, Stn.becomeLive_of_own empty other own]
  exact Stn.doubleFailure_of_none (none.congr (t := s.livened) rfl (fun _ => Stn.view_livened) fun _ _ => rfl) w

end

/-! ### Mirror notes and the notes of a return (R4, R14, R57, R171) -/

section
variable {s : Stn} {a : Admin} {tag : Tag}

theorem Stn.canTake_mirror_of_full (full : 1024 ≤ s.subs.standby.length) (absent : s.standby? a.sub = none) :
    s.canTake (.mirror false a tag) = false := by
  have noRoom : decide (s.subs.standby.length < Config.tableCap) = false := decide_eq_false (Nat.not_lt.2 full)
  simp only [Stn.canTake, Stn.standbyRoom, noRoom, absent, Option.isSome_none, Bool.or_self]

theorem Stn.canTake_mirror_of_room (room : s.subs.standby.length < 1024) : s.canTake (.mirror false a tag) = true := by
  have free : decide (s.subs.standby.length < Config.tableCap) = true := decide_eq_true room
  simp only [Stn.canTake, Stn.standbyRoom, free, Bool.true_or, Bool.or_true]

theorem Stn.canTake_mirror_of_held {b : StandbyRec} (held : s.standby? a.sub = some b) :
    s.canTake (.mirror false a tag) = true := by
  simp only [Stn.canTake, Stn.standbyRoom, held, Option.isSome_some, Bool.or_true]

theorem Stn.takeMirror_of_refresh : s.takeMirror true a tag = { s with subs := { s.subs with
    standby := if (s.rec? a.sub).isSome then [] else [{ admin := a, nextTag := tag, mark := .plain }]
    standbyComplete := false } } := by
  have none : ({ s with subs.standby := [], subs.standbyComplete := false } : Stn).standby? a.sub = none := rfl
  simp only [Stn.takeMirror, Stn.refreshStandby, if_true, none, Option.isSome_none, Bool.false_eq_true, if_false]
  have same : ({ s with subs.standby := [], subs.standbyComplete := false } : Stn).rec? a.sub = s.rec? a.sub := rfl
  rw [same]
  split <;> rfl

theorem Stn.takeMirror_of_held {b : StandbyRec} (held : s.standby? a.sub = some b) : s.takeMirror false a tag =
    { s with subs.standby := s.subs.standby.map fun x =>
        if x.admin.sub = a.sub then { x with admin := a, nextTag := tag } else x } := by
  simp only [Stn.takeMirror, Stn.refreshStandby, Bool.false_eq_true, if_false, held, Option.isSome_some, if_true,
    Stn.updStandby, updWhere_decide]

theorem Stn.takeMirror_of_active (absent : s.standby? a.sub = none) (active : (s.rec? a.sub).isSome = true) :
    s.takeMirror false a tag = s := by
  simp only [Stn.takeMirror, Stn.refreshStandby, Bool.false_eq_true, if_false, absent, Option.isSome_none, active, if_true]

theorem Stn.takeMirror_of_new (absent : s.standby? a.sub = none) (active : s.rec? a.sub = none) :
    s.takeMirror false a tag = { s with
      subs.standby := insertBy (·.admin.sub) { admin := a, nextTag := tag, mark := .plain } s.subs.standby } := by
  simp only [Stn.takeMirror, Stn.refreshStandby, Bool.false_eq_true, if_false, absent, Option.isSome_none, active]

theorem Stn.occupied_iff (s : Stn) (a : Admin) : s.occupied a = true ↔
    (∃ x ∈ s.subs.active, x.admin.sub = a.sub ∨ x.admin.addr = a.addr) ∨
      ∃ x ∈ s.subs.standby, x.admin.sub = a.sub ∨ x.admin.addr = a.addr := by
  simp only [Stn.occupied, Stn.rec?, Stn.standby?, Stn.recAt?, Bool.or_eq_true, List.find?_isSome, List.any_eq_true,
    decide_eq_true_eq, and_or_left, exists_or]
  rw [or_assoc, or_or_or_comm]

theorem Stn.takeReturn_of_occupied (held : s.occupied a = true) (zone : Option Zone) (m : MeterFields) :
    s.takeReturn a tag zone m =
      let u := units (m.current + m.closed + m.carry)
      { s with
        meter := { s.meter with returnedIn := s.meter.returnedIn + u, unmetered := s.meter.unmetered + u }
        cust.returnTaken := true } := if_pos held

end

/-- Settles O40: the mirror notes, the notes of a return, and a FORWARD by `exec_windowReading_of_forward`. -/
theorem notesAreTakenAndActedOn : Obligations.NotesAreTakenAndActedOn := by
  unfold Obligations.NotesAreTakenAndActedOn
  intro s r p heard f w hears keeps brings i refused t
  let v := (s.stn.passWindow r).took p w.serial
  have isRefused (no : (s.stn.passWindow r).canTake w.body = false) : exec i s = .next refused := by
    obtain ⟨takes, notes, own, new, none⟩ := brings
    have one := Stn.readNoteOf_of_refused (s := s.stn.passWindow r) (p := p) (refused := false) own new (by rw [no]; rfl)
    refine exec_windowReading_of_notes (u := s.stn.passWindow r) hears keeps.1.1 ?_ keeps none hears.2.2.1 le_rfl
    rw [notes, takes, List.foldl_nil, List.foldl_cons, one]
    rfl
  have acts {u : Stn} (may : (s.stn.passWindow r).canTake w.body = true) (does : v.actOn p w.body = u)
      (keeps' : ChangesNothing u p f) (outbox : u.bus.outbox = s.stn.bus.outbox)
      (waiting : u.intake.waiting = s.stn.intake.waiting) :
      exec i s = .next { s with stn := u.listened p r f } :=
    exec_windowReading_of_note hears brings may does keeps' outbox waiting
  refine ⟨fun refresh a tag body => ?_, fun refresh body => ?_, fun a tag zone m body => ?_, fun body => ?_,
    fun tag text body room => ?_⟩
  · intro copy
    have does {u : Stn} (taken : v.takeMirror refresh a tag = u) : v.actOn p w.body = u := by rw [body]; exact taken
    refine ⟨?_, ?_, ?_⟩
    · rintro rfl
      exact acts (by rw [body]; rfl) (does Stn.takeMirror_of_refresh) keeps rfl rfl
    · rintro rfl b held
      exact acts (by rw [body]; exact Stn.canTake_mirror_of_held (s := s.stn.passWindow r) held)
        (does (Stn.takeMirror_of_held (s := v) held)) keeps rfl rfl
    · rintro rfl absent
      refine ⟨fun full => isRefused ?_, fun room active => ?_, fun room active => ?_⟩
      · rw [body]
        exact Stn.canTake_mirror_of_full (s := s.stn.passWindow r) full absent
      · exact acts (by rw [body]; exact Stn.canTake_mirror_of_room (s := s.stn.passWindow r) room)
          (does (Stn.takeMirror_of_active (s := v) absent active)) keeps rfl rfl
      · exact acts (by rw [body]; exact Stn.canTake_mirror_of_room (s := s.stn.passWindow r) room)
          (does (Stn.takeMirror_of_new (s := v) absent active)) keeps rfl rfl
  · have may : (s.stn.passWindow r).canTake w.body = true := by rw [body]; rfl
    cases refresh with
    | true => exact acts (u := v.actOn p (.mirrorEnd true)) may (by rw [body]) keeps rfl rfl
    | false => exact acts (u := v.actOn p (.mirrorEnd false)) may (by rw [body]) keeps rfl rfl
  · refine ⟨fun full => isRefused ?_, fun room held => ?_⟩
    · rw [body]
      exact decide_eq_false (Nat.not_lt.2 full)
    · intro u
      have taken := Stn.takeReturn_of_occupied (s := v) (tag := tag) ((s.stn.occupied_iff a).2 held) zone m
      exact acts (by rw [body]; exact decide_eq_true room) ((congrArg (v.actOn p) body).trans taken) keeps rfl rfl
  · have may : (s.stn.passWindow r).canTake w.body = true := by rw [body]; rfl
    have does {u : Stn} (taken : v.takeReturnEnd .atEnd = u) : v.actOn p w.body = u := by rw [body]; exact taken
    refine ⟨fun live => ?_, fun joining => ?_, fun reclaiming empty other own none => ?_⟩
    · have still : v.takeReturnEnd .atEnd = v := by
        have state : v.cust.state = .live := live
        simp only [Stn.takeReturnEnd, state]
      exact acts may (does still) keeps rfl rfl
    · have noted : v.takeReturnEnd .atEnd = { v with cust.returnEndTaken := true } := by
        have state : v.cust.state = .joining := joining
        simp only [Stn.takeReturnEnd, state]
      exact acts may (does noted) keeps rfl rfl
    · have entered : v.takeReturnEnd .atEnd = v.livened := by
        have state : v.cust.state = .reclaiming := reclaiming
        have enters := Stn.enterLive_of_own (s := v) empty other own none .atEnd
        simp only [Stn.takeReturnEnd, state, enters]
      have view : v.livened.view p = .live := (Stn.view_livened (s := v) hears.2.1).trans keeps.1.2.1
      have keeps' : ChangesNothing v.livened p f := by
        obtain ⟨⟨live, -, rest⟩, early⟩ := keeps
        exact ⟨⟨live, view, rest⟩, early⟩
      exact acts may (does entered) keeps' rfl rfl
  · have ran := exec_windowReading_of_forward hears keeps brings body room
    have live : (t.stn.view p).down = false := by
      have view : t.stn.view p = .live := (((s.stn.passWindow r).took p w.serial).view_listened p r f p).trans keeps.1.2.1
      rw [view]
      rfl
    have replies (res : Result) : (t.stn.handAnswer p tag res).givePlaces s.stn = (t.answered p tag res).stn := by
      rw [Stn.handAnswer, live, if_neg nofun]
      refine Stn.givePlaces_of_le ?_
      rw [Stn.pushNote_outbox, List.length_append]
      exact Nat.le_add_right _ _
    have answers {res : Result} (answer : t.stn.answerFor p tag (parseEntry .operator text) = t.stn.handAnswer p tag res) :
        exec i s = .next (t.answered p tag res) := by
      refine ran.trans ?_
      rw [answer, replies]
      rfl
    refine ⟨fun wd error => answers ?_, fun alone => answers ?_, fun j q parsed inside brings' by_ => ?_,
      fun q parsed reads => ?_⟩
    · rw [error]
      rfl
    · obtain close | ⟨c, status⟩ := alone
      · rw [close]
        rfl
      · rw [status]
        rfl
    · have may : t.stn.ctl.phase = .closed ∧ p ≠ t.stn.self ∧ inSet t.stn.img.roster p = true ∧ t.stn.outboxFree = true :=
        ⟨hears.1.1.1, hears.2.1, inside, decide_eq_true room⟩
      have brought : t.stn.bring (.peer p tag) q = (t.stn.answerFor p tag (.ok q)).givePlaces s.stn := by
        rw [Stn.bring, if_pos may, admitted_operator (fieldRefusal_of_parseEntry parsed)]
        rfl
      rw [exec_of_request brings' by_, brought, ← parsed]
      exact ran
    · have forwarded : isLocalRequest q = false := by
        obtain ⟨sub, rfl⟩ | ⟨k, x, rfl⟩ := reads <;> rfl
      have seen := congrArg Prod.snd (s.stn.execute_reads reads v.bus)
      have result : (t.stn.execute q).2 = (s.stn.execute q).2 :=
        (congrArg Prod.snd (v.execute_listened p r f forwarded)).trans seen
      have still (res : Result) : ((t.stn.handAnswer p tag res).execute q).1 = t.stn.handAnswer p tag res := by
        rw [Stn.handAnswer, live, if_neg nofun]
        exact congrArg Prod.fst (t.stn.execute_reads reads _)
      refine answers ?_
      rw [parsed, Stn.answerFor_ok _ _ _ forwarded, still, result]

end Sys2Proof.Machine
end


section
/-!
SUPPORT and RESULT. Custodian changes that no request meets (R32, R39), and the takes of the walks' notes (R15, R54,
R55, R59, R171).
-/

namespace Sys2Proof.Machine

/-! ### A custodian change that no request meets (R32, R39, R41) -/

/-- No note is in the outbox, and no entry waits in SENDING. -/
def Unasked (s : Stn) : Prop := s.bus.outbox = [] ∧ ∀ e ∈ s.req.pend, e.state ≠ .sending

/-- The station with custodian[h] changed: the route cache is empty. -/
def Stn.recustodied (s : Stn) (h : Station) (c : Option Station) : Stn :=
  { s with
    cust := s.cust.withEntry h fun e => { e with custodian := c }
    req.cache := [] }

section
variable {s : Stn} {h : Station} {c : Option Station}

theorem Stn.custodianChanged_of_unasked (quiet : Unasked s) (w : Places) (h : Station) :
    s.custodianChanged w h = { s with req.cache := [] } := by
  obtain ⟨empty, none⟩ := quiet
  have due : s.dueHome h = [] := by
    rw [Stn.dueHome, empty]
    rfl
  have waiting : s.waitingHome h = [] := by
    rw [Stn.waitingHome, List.filter_eq_nil_iff.2]
    · rfl
    · intro e mem both
      exact none e mem (Stn.waitsForPlace_iff.1 (Bool.and_eq_true_iff.1 both).2).1
  have marked (g : Note → Bool) (k : Note → Note) : updWhere g k s.bus.outbox = s.bus.outbox := by
    rw [empty]
    rfl
  simp only [Stn.custodianChanged, due, waiting, marked, List.append_nil, List.foldl_nil]

theorem Stn.changeCustodian_of_same (same : s.custodian h = c) (w : Places) : s.changeCustodian w h c = s := if_pos same

theorem Stn.changeCustodian_of_unasked (quiet : Unasked s) (other : s.custodian h ≠ c) (w : Places) :
    s.changeCustodian w h c = s.recustodied h c := by
  have updated : s.updEntry h (fun e => { e with custodian := c }) = s.mapped h fun e => { e with custodian := c } :=
    s.updEntry_eq_withEntry h _
  rw [Stn.changeCustodian, if_neg other, updated]
  exact Stn.custodianChanged_of_unasked (s := s.mapped h fun e => { e with custodian := c }) quiet w h

theorem Stn.setCustodian_some_of_same {m : Station} (same : s.custodian h = some m) (w : Places) :
    s.setCustodian w h (some m) = s := by
  simp only [Stn.setCustodian, Stn.changeCustodian_of_same same, reduceCtorEq, false_and, if_false]

theorem Stn.setCustodian_some_of_unasked {m : Station} (quiet : Unasked s) (other : s.custodian h ≠ some m) (w : Places) :
    s.setCustodian w h (some m) = s.recustodied h (some m) := by
  simp only [Stn.setCustodian, Stn.changeCustodian_of_unasked quiet other, reduceCtorEq, false_and, if_false]

theorem Stn.view_recustodied (k : Station) : (s.recustodied h c).view k = s.view k :=
  Stn.view_mapped (f := fun e => { e with custodian := c }) (fun _ => rfl) (fun _ => rfl) k

theorem Stn.custodian_recustodied_of_ne {k : Station} (other : k ≠ h) : (s.recustodied h c).custodian k = s.custodian k :=
  Stn.custodian_mapped_of_ne (f := fun e => { e with custodian := c }) (fun _ => rfl) other

theorem Stn.custodian_recustodied_same (entry : (s.entry? h).isSome = true) :
    (s.recustodied h c).custodian h = c := by
  obtain ⟨e, found⟩ := Option.isSome_iff_exists.1 entry
  have after := s.cust.entry?_withEntry_same (k := h) (f := fun e => { e with custodian := c }) fun _ => rfl
  rw [Stn.custodian_eq, Custody.custodianOf]
  refine (congrArg (fun o : Option MapEntry => o.bind (·.custodian)) after).trans ?_
  rw [← Stn.entry?_eq, found]
  rfl

theorem Stn.entry?_of_custodian {m : Station} (held : s.custodian h = some m) : (s.entry? h).isSome = true := by
  rw [Stn.custodian] at held
  obtain ⟨e, found, -⟩ := Option.bind_eq_some_iff.1 held
  rw [found]
  rfl

end

/-! ### A take that empties the outbox -/

section
variable {s : State} {r : RoundPos} {p : Station} {heard : List Byte} {f : RoundFrame} {n : Note} {x : NoteSerial} {u : Stn}

/-- The row of a frame whose take resolves the one note of the outbox, which is no FORWARD. -/
theorem exec_windowReading_of_take (hears : Hears s.stn r p heard f) (takes : f.takes = [(s.stn.self, x)])
    (notes : f.notes = []) (outbox : s.stn.bus.outbox = [n]) (dest : n.dest = p) (serial : n.serial = some x)
    (does : ({ s.stn.passWindow r with bus.outbox := [] } : Stn).noteTaken n.body = u) (keeps : ChangesNothing u p f)
    (empty : u.bus.outbox = []) (waiting : u.intake.waiting = []) (still : ∀ e ∈ u.req.pend, e.state ≠ .sending) :
    exec (.windowReading p heard) s = .next { s with stn := u.listened p r f } := by
  have alone : ∀ o ∈ ([] : List Note) ++ [], ¬(o.dest = p ∧ o.serial = some x) := fun o mem => nomatch mem
  have one := Stn.readTake_of_note (s := s.stn.passWindow r) (older := []) (younger := []) outbox dest serial alone
  rw [List.append_nil, does] at one
  refine exec_windowReading_of_acts hears keeps.1.1 ?_ keeps (Stn.resolve_of_none (s := u.listened p r f) ?_)
    (Stn.settledFrom_of_none (s := u.listened p r f) waiting fun e mem sending => absurd sending (still e mem))
  · rw [notes, takes, List.foldl_nil, List.foldl_cons, List.foldl_nil]
    exact one
  · rw [show (u.listened p r f).bus.outbox = [] from empty]
    exact fun _ mem => nomatch mem

/-- Where the one note is no FORWARD, no entry is in SENDING. -/
theorem NoEntryWaits.none_sending {s : Stn} (noneWaits : NoEntryWaits s) (outbox : s.bus.outbox = [n])
    (noForward : n.forwardTag? = none) : ∀ e ∈ s.req.pend, e.state ≠ .sending := by
  intro e mem sending
  obtain ⟨o, there, held⟩ := noneWaits e mem sending
  rw [outbox, List.mem_singleton] at there
  rw [there, noForward] at held
  cases held

end

/-! ### The takes of a RETURN and of RETURN END (R15, R54, R55) -/

section
variable {s : Stn} {a : Admin} {x : Record}

/-- The record of a taken RETURN in the standby table, its units in returned-out; the return walk stands so. -/
def Stn.givenBack (s : Stn) (a : Admin) (x : Record) (ret : ReturnWalk) : Stn :=
  { s with
    subs := { s.subs with
      active := s.subs.active.filter fun y => decide (y.admin.sub ≠ a.sub)
      ret := ret
      standby := insertBy (·.admin.sub) { admin := x.admin, nextTag := x.nextTag, mark := .returned } s.subs.standby }
    meter.returnedOut := s.meter.returnedOut + units (x.meter.current + x.meter.closed + x.meter.carry) }

theorem Stn.returnTakenByWard_of_record (found : s.rec? a.sub = some x) :
    s.returnTakenByWard a = (s.givenBack a x s.subs.ret).advanceReturn := by
  simp only [Stn.returnTakenByWard, found]
  rfl

theorem Stn.returnTakenByWard_of_copy (absent : s.rec? a.sub = none) : s.returnTakenByWard a =
    { s with subs.standby := s.subs.standby.map fun b =>
        if b.admin.sub = a.sub then { b with mark := .returned } else b } := by
  simp only [Stn.returnTakenByWard, absent, Stn.updStandby, updWhere_decide]

/-- The station behind the ward's take of RETURN END, but for the grant. -/
def Stn.wardBack (s : Stn) : Stn :=
  { s.recustodied s.ward (some s.ward) with
    cust := { s.cust.withEntry s.ward fun e => { e with custodian := some s.ward } with
      custody := setDel s.cust.custody s.ward }
    subs := { s.subs with
      standby := s.subs.standby.map fun b => if b.mark = .returned then { b with mark := .plain } else b
      ret := .idle } }

theorem Stn.returnEndTakenByWard_of_running (quiet : Unasked s) {phase : ReturnPhase} {pos : Option Nat}
    (walks : s.subs.ret = .running phase pos) (other : s.custodian s.ward ≠ some s.ward) :
    s.returnEndTakenByWard = s.wardBack.released := by
  have moved := Stn.setCustodian_some_of_unasked
    (s := { s with cust.custody := setDel s.cust.custody s.ward }) (h := s.ward) (m := s.ward) quiet other .atEnd
  simp only [Stn.returnEndTakenByWard, walks]
  rw [show ({ s with cust.custody := setDel s.cust.custody s.ward } : Stn).ward = s.ward from rfl, moved,
    Stn.releaseGrant_eq]
  simp only [Stn.clearReturned, updWhere_decide]
  rfl

end

theorem Stn.released_listened (s : Stn) (p : Station) (r : RoundPos) (f : RoundFrame) :
    (s.listened p r f).released = s.released.listened p r f := by
  have close : (s.listened p r f).bill.pendingClose = s.bill.pendingClose := rfl
  simp only [Stn.released, Stn.subs_listened, close]
  split <;> rfl

@[simp] theorem Stn.released_frame (s : Stn) : s.released.ctl = s.ctl ∧ s.released.intake = s.intake ∧
    s.released.req = s.req ∧ s.released.bus = s.bus ∧ s.released.cust = s.cust := by
  unfold Stn.released
  split <;> exact ⟨rfl, rfl, rfl, rfl, rfl⟩

/-- What a frame leaves of its sender's entry changes place with the ward's custody. -/
theorem Stn.wardBack_listened (s : Stn) (r : RoundPos) (f : RoundFrame) :
    s.wardBack.listened s.ward r f = (s.listened s.ward r f).wardBack := by
  let back (e : MapEntry) : MapEntry := { e with custodian := some s.ward }
  have cust : (s.cust.withEntry s.ward back).withEntry s.ward (MapEntry.heardIn f) =
      (s.cust.withEntry s.ward (MapEntry.heardIn f)).withEntry s.ward back := by
    rw [Custody.withEntry_withEntry (f := back) fun _ => rfl, Custody.withEntry_withEntry (f := MapEntry.heardIn f) fun _ => rfl]
    rfl
  have whole := congrArg (fun c => { s.wardBack.listened s.ward r f with cust.map := Custody.map c }) cust
  exact whole

/-- Whether a frame keeps the map is a matter of the controller and the map. -/
theorem KeepsTheMap.congr {s t : Stn} {p : Station} {f : RoundFrame} (keeps : KeepsTheMap s p f) (ctl : t.ctl = s.ctl)
    (cust : t.cust = s.cust) : KeepsTheMap t p f := by
  have there : KeepsTheMap { t with ctl := s.ctl, cust := s.cust } p f := keeps
  rw [← ctl, ← cust] at there
  exact there

/-- A ward that has its custody back keeps the map as it did before. -/
theorem KeepsTheMap.wardBack {s : Stn} {f : RoundFrame} (keeps : KeepsTheMap s s.ward f) :
    KeepsTheMap s.wardBack s.ward f := by
  obtain ⟨live, view, noCustody, held, noOther, notJoining⟩ := keeps
  obtain ⟨m, is⟩ := Option.isSome_iff_exists.1 held
  have now := Stn.custodian_recustodied_same (c := some s.ward) (Stn.entry?_of_custodian is)
  refine ⟨live, (Stn.view_recustodied (c := some s.ward) s.ward).trans view, noCustody, Option.isSome_iff_exists.2 ⟨_, now⟩,
    fun k inside other => ?_, notJoining⟩
  have same : s.wardBack.custodian k = s.custodian k := Stn.custodian_recustodied_of_ne (c := some s.ward) other
  rw [same]
  exact noOther k inside other

/-- Of the period, the release of the grant makes the pending close's at most. -/
theorem Stn.released_period (s : Stn) :
    s.released.bill.period = s.bill.period ∨ s.bill.pendingClose = some s.released.bill.period := by
  unfold Stn.released
  split
  · exact .inl rfl
  · exact .inl rfl
  next close _ => exact .inr close

/-- Settles O41: a returned record with each change of phase, a copy, the end of a return, and the mirror walk's end. -/
theorem takenNotesOfTheWalks : Obligations.TakenNotesOfTheWalks := by
  unfold Obligations.TakenNotesOfTheWalks
  intro s r p heard f n x hears keeps noneWaits takes notes outbox dest serial i t
  let v : Stn := { s.stn.passWindow r with bus.outbox := [] }
  have ran {u : Stn} (noForward : n.forwardTag? = none) (does : v.noteTaken n.body = u) (keeps' : ChangesNothing u p f)
      (empty : u.bus.outbox = []) (waiting : u.intake.waiting = s.stn.intake.waiting)
      (pend : u.req.pend = s.stn.req.pend) : exec i s = .next { s with stn := u.listened p r f } :=
    exec_windowReading_of_take hears takes notes outbox dest serial does keeps' empty (waiting.trans hears.2.2.1)
      (pend ▸ noneWaits.none_sending outbox noForward)
  refine ⟨fun a tag zone m body => ?_, fun phase pos body walks isWard held early => ?_, fun refresh body => ?_⟩
  · have noForward : n.forwardTag? = none := by rw [Note.forwardTag?, body]
    have acted : v.noteTaken n.body = v.returnTakenByWard a := by rw [body]; rfl
    refine ⟨fun rec found => ?_, fun absent => ?_⟩
    · intro left moved
      have record : v.noteTaken n.body = (v.givenBack a rec v.subs.ret).advanceReturn :=
        acted.trans (Stn.returnTakenByWard_of_record (s := v) found)
      have goes {ret : ReturnWalk} (advanced : (v.givenBack a rec v.subs.ret).advanceReturn = v.givenBack a rec ret) :
          exec i s = .next (moved ret) := ran noForward (record.trans advanced) keeps rfl rfl rfl
      refine ⟨fun gone pos walks => ?_, fun more pos walks => ?_, fun above pos walks => ?_, fun q walks more behind => ?_⟩
      · exact goes (Stn.advanceReturn_of_gone (s := v.givenBack a rec v.subs.ret) gone walks)
      · exact goes ((Stn.advanceReturn_of_revisit (s := v.givenBack a rec v.subs.ret) more walks).trans
          (congrArg (v.givenBack a rec) walks))
      · obtain ⟨y, mem, returning, after⟩ := above
        exact goes ((Stn.advanceReturn_of_above (s := v.givenBack a rec v.subs.ret) walks
          ⟨y, mem, returning, fun q is => after q (is ▸ walks)⟩).trans (congrArg (v.givenBack a rec) walks))
      · exact goes (Stn.advanceReturn_of_behind (s := v.givenBack a rec v.subs.ret) walks more
          fun y mem returning => ⟨q, rfl, behind y mem returning⟩)
    · exact ran noForward (acted.trans (Stn.returnTakenByWard_of_copy (s := v) absent)) keeps rfl rfl rfl
  · have noForward : n.forwardTag? = none := by rw [Note.forwardTag?, body]
    have quiet : Unasked v := ⟨rfl, noneWaits.none_sending outbox noForward⟩
    subst isWard
    have other : v.custodian v.ward ≠ some v.ward := by
      rw [show v.custodian v.ward = some s.stn.self from held]
      exact fun same => hears.2.1 (Option.some.inj same).symm
    have given : v.noteTaken n.body = v.wardBack.released := by
      rw [body]
      exact Stn.returnEndTakenByWard_of_running quiet walks other
    obtain ⟨ctl, intake, req, bus, cust⟩ := v.wardBack.released_frame
    have keeps' : ChangesNothing v.wardBack.released s.stn.ward f := by
      refine ⟨(KeepsTheMap.wardBack (s := v) keeps.1).congr ctl cust, ?_⟩
      obtain same | closes := v.wardBack.released_period
      · rw [same]
        exact keeps.2
      · exact early _ closes
    rw [ran noForward given keeps' (by rw [bus]; rfl) (by rw [intake]; rfl) (by rw [req]; rfl), ← Stn.released_listened]
    rw [show v.wardBack.listened s.stn.ward r f = (v.listened s.stn.ward r f).wardBack from v.wardBack_listened r f]
    rfl
  · have noForward : n.forwardTag? = none := by rw [Note.forwardTag?, body]
    refine ⟨fun pos first walks => ?_, fun others => ?_⟩
    · have idle : v.noteTaken n.body = { v with subs.mirror := .idle } := by
        have walk : v.subs.mirror = .running pos first true := walks
        rw [body]
        simp only [Stn.noteTaken, walk]
      exact ran noForward idle keeps rfl rfl rfl
    · have still : v.noteTaken n.body = v := by
        rw [body]
        simp only [Stn.noteTaken]
        split
        next pos first walk => exact absurd walk (others pos first)
        next => rfl
      exact ran noForward still keeps rfl rfl rfl

end Sys2Proof.Machine
end


section
/-!
SUPPORT. Changes of views and custodians where no request waits (R32 to R34, R38, R39, R42): what each leaves of the
station, and the office map behind several of them.
-/

namespace Sys2Proof.Machine

/-! ### The view of a peer changes where no note is in the way (R33, R34, R38) -/

/-- The station with the view of k changed in its office map. -/
def Stn.viewed (s : Stn) (k : Station) (v : View) : Stn := s.mapped k fun e => { e with view := v }

section
variable {s : Stn} {k : Station} {v : View}

theorem Stn.updEntry_view (s : Stn) (k : Station) (v : View) : s.updEntry k (fun e => { e with view := v }) = s.viewed k v :=
  s.updEntry_eq_withEntry k _

theorem Stn.view_viewed_of_ne {h : Station} (other : h ≠ k) : (s.viewed k v).view h = s.view h :=
  Stn.view_mapped_of_ne (f := fun e => { e with view := v }) (fun _ => rfl) other

theorem Stn.view_viewed_same (peer : k ≠ s.self) (entry : (s.entry? k).isSome = true) : (s.viewed k v).view k = v := by
  obtain ⟨e, found⟩ := Option.isSome_iff_exists.1 entry
  have after := s.cust.entry?_withEntry_same (k := k) (f := fun e => { e with view := v }) fun _ => rfl
  rw [Stn.view_eq, if_neg (show k ≠ (s.viewed k v).self from peer), Custody.viewOf]
  refine (congrArg (fun o : Option MapEntry => (o.map (·.view)).getD .failed) after).trans ?_
  rw [← Stn.entry?_eq, found]
  rfl

theorem Stn.custodian_viewed (h : Station) : (s.viewed k v).custodian h = s.custodian h :=
  Stn.custodian_mapped (f := fun e => { e with view := v }) (fun _ => rfl) (fun _ => rfl) h

/-- A peer that is not viewed FAILED has an entry. -/
theorem Stn.entry?_of_view (peer : k ≠ s.self) (notFailed : s.view k ≠ .failed) : (s.entry? k).isSome = true := by
  rw [Stn.view, if_neg peer] at notFailed
  cases found : s.entry? k with
  | none => exact absurd (by rw [found]; rfl) notFailed
  | some e => rfl

theorem updWhere_of_none {α : Type} {g : α → Bool} {l : List α} (none : ∀ x ∈ l, g x = false) (f : α → α) :
    updWhere g f l = l :=
  (List.map_congr_left fun x mem => if_neg (Bool.eq_false_iff.1 (none x mem))).trans (List.map_id' l)

theorem Stn.holdNotes_of_noForward (none : ∀ n ∈ s.bus.outbox, n.body.isForward = false) (k : Station) (v : View) :
    s.holdNotes k v = s := by
  cases v with
  | silent | foreign | joining | reclaiming | live =>
    simp only [Stn.holdNotes]
    rw [updWhere_of_none fun n mem => by simp [none n mem]]
  | failed => rfl

theorem Stn.dropNotes_of_empty (empty : s.bus.outbox = []) (k : Station) : s.dropNotes k = s := by
  have same : ({ s with bus.outbox := [], bus.failed := s.bus.failed } : Stn) = s := by rw [← empty]
  simp only [Stn.dropNotes, empty, List.filter_nil, List.any_nil, List.foldl_nil, Bool.false_eq_true, if_false, same]
  split <;> rfl

theorem Stn.loseReceipts_of_unasked (quiet : Unasked s) (k : Station) : s.loseReceipts k = s := by
  obtain ⟨empty, none⟩ := quiet
  have waiting : (s.req.pend.filter fun e => decide (e.route = .receipt k) && s.waitsForPlace e) = [] := by
    refine List.filter_eq_nil_iff.2 fun e mem both => ?_
    exact none e mem (Stn.waitsForPlace_iff.1 (Bool.and_eq_true_iff.1 both).2).1
  have due : ((s.bus.outbox.filter fun n => decide (n.route = .receipt k) && !n.awaiting).filterMap
      Note.forwardTag?) = [] := by
    rw [empty]
    rfl
  simp only [Stn.loseReceipts, waiting, due, List.map_nil, List.append_nil, List.foldl_nil]
  rw [updWhere_of_none (by rw [empty]; exact fun _ mem => nomatch mem)]

theorem Stn.viewNotes_of_empty (empty : s.bus.outbox = []) (notFailed : v ≠ .failed) (k : Station) : s.viewNotes k v = s := by
  have held := s.holdNotes_of_noForward (by rw [empty]; exact fun _ mem => nomatch mem) k v
  simp only [Stn.viewNotes, held, Stn.dropNotes_of_empty empty, if_neg notFailed, ite_self]

theorem Stn.viewNotes_of_unasked (quiet : Unasked s) (k : Station) (v : View) : s.viewNotes k v = s := by
  have held := s.holdNotes_of_noForward (by rw [quiet.1]; exact fun _ mem => nomatch mem) k v
  simp only [Stn.viewNotes, held, Stn.dropNotes_of_empty quiet.1, Stn.loseReceipts_of_unasked quiet, ite_self]

/-! ### The walks at a view change (R50, R53, R56, R58) -/

theorem Stn.abortReturn_of_idle (idle : s.subs.ret = .idle) : s.abortReturn = s := by
  simp only [Stn.abortReturn, idle]

theorem Stn.viewReturn_of_other (other : k ≠ s.ward) (w : Places) (old : View) (episode : Bool) :
    s.viewReturn w k old v episode = s := if_neg other

theorem Stn.viewReturn_of_down (down : v.down = true) (idle : s.subs.ret = .idle) (w : Places) (old : View) (episode : Bool) :
    s.viewReturn w k old v episode = s := by
  simp only [Stn.viewReturn, down, idle, if_true, Stn.abortReturn_of_idle idle, ite_self]

theorem Stn.viewReturn_of_heard (up : v.down = false) {old : View} (was : old ≠ .silent ∧ old ≠ .foreign) (w : Places)
    (episode : Bool) : s.viewReturn w k old v episode = s := by
  obtain ⟨notSilent, notForeign⟩ := was
  simp only [Stn.viewReturn, up, notSilent, notForeign, or_self, decide_false, Bool.and_false, Bool.false_and,
    Bool.false_eq_true, if_false, ite_self]

/-- No change of a view but to LIVE or FAILED bears on the mirror walk or the entry into LIVE. -/
theorem Stn.viewBuddy_of_none (notLive : v = .live → s.cust.state ≠ .live)
    (notFailed : v = .failed → s.cust.state = .reclaiming → s.cust.returnTaken = false) (w : Places) (k : Station) :
    s.viewBuddy w k v = s := by
  have still : ¬(v = .live ∧ s.cust.state = .live) := fun both => notLive both.1 both.2
  have stays : ¬(v = .failed ∧ s.cust.state = .reclaiming ∧ s.cust.returnTaken = true) := fun ⟨fails, state, taken⟩ => by
    rw [notFailed fails state] at taken
    cases taken
  simp only [Stn.viewBuddy, if_neg still, if_neg stays, ite_self]

/-- The mirror walk behind a change to LIVE. -/
def Stn.mirrorsTo (s : Stn) (k : Station) : Stn := if k = s.buddy ∧ s.cust.state = .live then s.mirrored else s

theorem Stn.viewBuddy_of_live (starts : s.startMirror = s.mirrored) (w : Places) (k : Station) :
    s.viewBuddy w k .live = s.mirrorsTo k := by
  simp only [Stn.viewBuddy, Stn.mirrorsTo, starts, true_and, reduceCtorEq, false_and, if_false]
  rw [ite_and]

/-! ### A view change and its consequences (R38, R39) -/

theorem Stn.changeView_eq (other : s.view k ≠ v) (w : Places) (episode : Bool) : s.changeView w k v episode =
    (((s.viewed k v).viewNotes k v).viewReturn w k (s.view k) v episode).viewBuddy w k v := by
  simp only [Stn.changeView, if_neg other, Stn.updEntry_view]

theorem Stn.changeView_failed (quiet : Unasked s) (other : s.view k ≠ .failed) (idle : s.subs.ret = .idle)
    (stays : s.cust.state = .reclaiming → s.cust.returnTaken = false) (w : Places) (episode : Bool) :
    s.changeView w k .failed episode = s.viewed k .failed := by
  have notes := Stn.viewNotes_of_unasked (s := s.viewed k .failed) quiet k .failed
  rw [Stn.changeView_eq other, notes, Stn.viewReturn_of_down (s := s.viewed k .failed) rfl idle,
    Stn.viewBuddy_of_none (s := s.viewed k .failed) (v := .failed) nofun fun _ => stays]

theorem Stn.changeView_live (empty : s.bus.outbox = []) (other : s.view k ≠ .live)
    (noReturn : k = s.ward → s.view k ≠ .silent ∧ s.view k ≠ .foreign) (w : Places) (episode : Bool) :
    s.changeView w k .live episode = (s.viewed k .live).mirrorsTo k := by
  have notes := Stn.viewNotes_of_empty (s := s.viewed k .live) empty (v := .live) nofun k
  have returns : (s.viewed k .live).viewReturn w k (s.view k) .live episode = s.viewed k .live := by
    by_cases ward : k = s.ward
    · exact Stn.viewReturn_of_heard rfl (noReturn ward) w episode
    · exact Stn.viewReturn_of_other (s := s.viewed k .live) ward w _ _
  rw [Stn.changeView_eq other, notes, returns]
  exact Stn.viewBuddy_of_live (Stn.startMirror_of_empty (s := s.viewed k .live) empty) w k

/-- Where no peer is down but those of the list, and each of them has a buddy that is not FAILED, no double failure is
due. -/
theorem OthersUp.noDoubleFailure {down : List Station} (up : OthersUp s down)
    (heard : ∀ k ∈ down, k ∈ s.roster → (s.view k).down = true → s.view (buddyOf s.img.roster k) = .failed →
      s.view k = .failed ∧ s.custodian k = none) : NoDoubleFailure s := by
  intro k inside peer down_ failed
  by_cases mem : k ∈ down
  · exact heard k mem inside down_ failed
  · rw [up k inside peer mem] at down_
    cases down_

end

end Sys2Proof.Machine
end


section
/-!
SUPPORT. The lists of a VALID frame, where no request waits (R23, R38 to R42): the parts of the Custody Unit's work,
and the row that they make.
-/

namespace Sys2Proof.Machine

/-! ### The row of a frame without takes and notes (R23) -/

/-- The station that has heard a VALID frame, before its lists are read. -/
def Stn.hearing (s : Stn) (p : Station) (r : RoundPos) (f : RoundFrame) : Stn :=
  ((s.passWindow r).claimsKept p r f).mapped p (MapEntry.heardIn f)

/-- What a VALID frame leaves at its end: the sender's state, and its period and drain. -/
def Stn.closing (s : Stn) (p : Station) (f : RoundFrame) : Stn :=
  { s with
    bus.lastSender := s.bus.lastSender.set p.val (some f.state) p.isLt
    bill.peers := s.bill.peers.set p.val (some (f.period, f.draining)) p.isLt }

theorem Stn.heard_eq_closing (s : Stn) (p : Station) (r : RoundPos) (f : RoundFrame) :
    s.heard p r f = (s.hearing p r f).closing p f := rfl

section
variable {s : State} {r : RoundPos} {p : Station} {heard : List Byte} {f : RoundFrame} {u v : Stn}

theorem Stn.clearMemory_of_no_episode {s : Stn} (none : s.joiningEpisode p f.state = false) : s.clearMemory p f.state = s := by
  rw [Stn.clearMemory, none]
  rfl

theorem exec_windowReading_of_custody (hears : Hears s.stn r p heard f) (lists : BringsLists s.stn f)
    (noEpisode : s.stn.joiningEpisode p f.state = false)
    (custody : ((s.stn.passWindow r).claimsKept p r f).custodyPart p f =
      { v with bus.lastSender := v.bus.lastSender.set p.val (some f.state) p.isLt })
    (period : v.bill.period = s.stn.bill.period) (none : ∀ n ∈ v.bus.outbox, n.dest = p → n.awaiting = false)
    (waiting : v.intake.waiting = []) (noneWaits : NoEntryWaits v) :
    exec (.windowReading p heard) s = .next { s with stn := v.closing p f } := by
  obtain ⟨takes, notes, early⟩ := lists
  have memory : (s.stn.passWindow r).clearMemory p f.state = s.stn.passWindow r :=
    Stn.clearMemory_of_no_episode (s := s.stn.passWindow r) noEpisode
  have notLater : later f.period v.bill.period = false := by rw [period]; exact early
  have valid : (s.stn.passWindow r).validFrame p r f = v.closing p f := by
    unfold Stn.validFrame
    simp only [memory, takes, notes, List.foldl_nil, Stn.peerClaimsRead_eq, custody]
    exact Stn.billingPart_of_not_later
      (s := { v with bus.lastSender := v.bus.lastSender.set p.val (some f.state) p.isLt }) notLater
  rw [exec_windowReading_valid hears, valid, Stn.resolve_of_none (s := v.closing p f) none,
    Stn.settledFrom_of_none (s := v.closing p f) waiting noneWaits]

end

/-! ### The Custody Unit's part (R38, R40, R41, R51) -/

section
variable {s u v : Stn} {p k : Station} {f : RoundFrame}

/-- The view that the state of a frame gives its sender, and the other parts in turn. -/
theorem Stn.custodyPart_of_parts (noEpisode : s.joiningEpisode p f.state = false)
    (notJoining : ∀ x, s.cust.join ≠ .running x) {h : Stn} (view : s.validView p f false = h)
    (listed : (members f.custody).foldl (Stn.listed p) (h.liveAgain p f.state) = u)
    (stays : u.mustStandDown f = false) (dropped : u.dropped p f = v) :
    s.custodyPart p f = { v with bus.lastSender := v.bus.lastSender.set p.val (some f.state) p.isLt } := by
  have recorded : s.recordHeard p f = s := by
    unfold Stn.recordHeard
    split
    next x running => exact absurd running (notJoining x)
    next => rfl
  have noReturn : h.wardJoins p false = h := if_neg fun both => nomatch both.1
  simp only [Stn.custodyPart, noEpisode, recorded, view, noReturn, listed, stays, Bool.false_eq_true, if_false, dropped]

theorem Stn.validView_of_same (same : s.view p = f.state.view) : s.validView p f false = s.mapped p (MapEntry.heardIn f) := by
  have view := (s.view_heardIn p p f).trans same
  have updated : s.updEntry p (fun e => { e with silent := 0, silence := f.silence }) =
      s.mapped p (MapEntry.heardIn f) := s.updEntry_eq_withEntry p _
  unfold Stn.validView
  simp only [updated]
  have stays (w : Places) (episode : Bool) : (s.mapped p (MapEntry.heardIn f)).setView w p f.state.view episode =
      s.mapped p (MapEntry.heardIn f) := if_pos view
  cases state : f.state with
  | joining =>
    rw [state] at stays
    exact stays .atEnd false
  | reclaiming | live =>
    rw [state] at view stays
    exact (if_neg (by rw [view]; nofun)).trans (stays .atEnd false)

theorem Stn.validView_of_failed (notJoining : f.state ≠ .joining) (failed : s.view p = .failed) :
    s.validView p f false = s.mapped p (MapEntry.heardIn f) := by
  have view := (s.view_heardIn p p f).trans failed
  have updated : s.updEntry p (fun e => { e with silent := 0, silence := f.silence }) =
      s.mapped p (MapEntry.heardIn f) := s.updEntry_eq_withEntry p _
  unfold Stn.validView
  simp only [updated]
  cases state : f.state with
  | joining => exact absurd state notJoining
  | reclaiming | live => exact if_pos view

theorem Stn.liveAgain_of_held (held : f.state = .live → (s.custodian p).isSome = true) : s.liveAgain p f.state = s := by
  refine if_neg fun both => ?_
  have some_ := held both.1
  rw [both.2] at some_
  cases some_

theorem Stn.mustStandDown_of_unlisted (unlisted : inSet f.custody s.self = false) : s.mustStandDown f = false := by
  rw [Stn.mustStandDown, unlisted, Bool.and_false, Bool.false_and]

theorem Stn.mustStandDown_of_heard (heard : inSet f.silence s.self = false) : s.mustStandDown f = false := by
  rw [Stn.mustStandDown, heard, Bool.and_false]

/-! ### The stations that a frame no longer lists (R41) -/

theorem Stn.dropped_of_none (none : ∀ k ∈ s.roster, k ≠ p → inSet f.custody k = false → s.custodian k ≠ some p) :
    s.dropped p f = s := by
  unfold Stn.dropped
  split
  · rfl
  · refine foldl_of_fixed fun k mem => if_neg ?_
    obtain ⟨inside, both⟩ := List.mem_filter.1 mem
    obtain ⟨other, unlisted⟩ := Bool.and_eq_true_iff.1 both
    exact none k inside (of_decide_eq_true other) ((Bool.not_eq_eq_eq_not).mp unlisted)

theorem members_nodup (m : StationSet) : (members m).Nodup := (List.nodup_finRange 16).filter _

/-- A step that changes the state at one element of the list alone. -/
theorem foldl_of_once {α β : Type} {f : β → α → β} {l : List α} {a : α} {b c : β} (unique : l.Nodup) (mem : a ∈ l)
    (step : f b a = c) (before : ∀ x ∈ l, x ≠ a → f b x = b) (behind : ∀ x ∈ l, x ≠ a → f c x = c) : l.foldl f b = c := by
  obtain ⟨front, rest, rfl⟩ := List.append_of_mem mem
  rw [List.nodup_middle, List.nodup_cons, List.mem_append, not_or] at unique
  obtain ⟨⟨notFront, notRest⟩, -⟩ := unique
  rw [List.foldl_append, List.foldl_cons,
    foldl_of_fixed fun x there => before x (List.mem_append_left _ there) (ne_of_mem_of_not_mem there notFront), step]
  exact foldl_of_fixed fun x there => behind x (List.mem_append_right _ (List.mem_cons_of_mem _ there))
    (ne_of_mem_of_not_mem there notRest)

theorem Stn.dropped_of_one {t : Stn} (notJoining : f.state ≠ .joining) (inside : k ∈ s.roster) (other : k ≠ p)
    (unlisted : inSet f.custody k = false) (held : s.custodian k = some p) (none : HoldsNoneBut s p k)
    (back : s.giveBack k = t) (same : ∀ j, j ≠ k → t.custodian j = s.custodian j) : s.dropped p f = t := by
  have only (j : Station) (mem : j ∈ s.roster.filter fun k => decide (k ≠ p) && !inSet f.custody k) (apart : j ≠ k) :
      s.custodian j ≠ some p := by
    obtain ⟨there, both⟩ := List.mem_filter.1 mem
    exact none j there (of_decide_eq_true (Bool.and_eq_true_iff.1 both).1) apart
  have found : k ∈ s.roster.filter fun k => decide (k ≠ p) && !inSet f.custody k :=
    List.mem_filter.2 ⟨inside, by rw [unlisted, decide_eq_true other]; rfl⟩
  unfold Stn.dropped
  split
  next state => exact absurd state notJoining
  · refine foldl_of_once ((members_nodup _).filter _) found ((if_pos held).trans back) (fun j mem apart => ?_)
      fun j mem apart => ?_
    · exact if_neg (only j mem apart)
    · exact if_neg (by rw [same j apart]; exact only j mem apart)

/-! ### Custody goes back (R41) -/

theorem Stn.giveBack_of_up (quiet : Unasked s) (other : s.custodian k ≠ some k) (up : s.view k ≠ .failed) :
    s.giveBack k = s.recustodied k (some k) := by
  simp only [Stn.giveBack, Stn.setCustodian_some_of_unasked quiet other]
  refine if_neg fun ⟨_, failed⟩ => up ?_
  rwa [Stn.view_recustodied] at failed

/-- A FAILED view becomes LIVE with it. -/
theorem Stn.giveBack_of_failed (quiet : Unasked s) (peer : k ≠ s.self) (other : s.custodian k ≠ some k)
    (failed : s.view k = .failed) (none : NoDoubleFailure ((s.recustodied k (some k)).viewed k .live)) :
    s.giveBack k = ((s.recustodied k (some k)).viewed k .live).mirrorsTo k := by
  have view : (s.recustodied k (some k)).view k = .failed := (Stn.view_recustodied k).trans failed
  have changed : (s.recustodied k (some k)).changeView .atEnd k .live false =
      ((s.recustodied k (some k)).viewed k .live).mirrorsTo k :=
    Stn.changeView_live (s := s.recustodied k (some k)) quiet.1 (by rw [view]; nofun)
      (fun _ => by rw [view]; exact ⟨nofun, nofun⟩) .atEnd false
  have still : NoDoubleFailure (((s.recustodied k (some k)).viewed k .live).mirrorsTo k) := by
    unfold Stn.mirrorsTo
    split <;> exact none
  simp only [Stn.giveBack, Stn.setCustodian_some_of_unasked quiet other]
  rw [if_pos ⟨peer, view⟩, Stn.setView, if_neg (by rw [view]; nofun), changed]
  simp only [reduceCtorEq, if_false]
  exact Stn.doubleFailure_of_none still .atEnd

/-! ### A listed station (R40) -/

theorem Stn.listed_of_own : Stn.listed p s s.self = s.setCustodian .atEnd s.self (some p) := if_pos rfl

theorem Stn.listed_of_held (peer : k ≠ s.self) (held : inSet s.cust.custody k = true ∨ s.custodian k = some p) :
    Stn.listed p s k = s := by
  rw [Stn.listed, if_neg peer]
  by_cases mine : inSet s.cust.custody k = true
  · exact if_pos mine
  · rw [if_neg mine]
    exact if_pos (held.resolve_left mine)

theorem Stn.listed_of_up (quiet : Unasked s) (peer : k ≠ s.self) (notMine : inSet s.cust.custody k = false)
    (other : s.custodian k ≠ some p) (up : s.view k ≠ .silent ∧ s.view k ≠ .foreign) :
    Stn.listed p s k = s.recustodied k (some p) := by
  obtain ⟨notSilent, notForeign⟩ := up
  rw [Stn.listed, if_neg peer, notMine, if_neg nofun, if_neg other]
  simp only [Stn.setCustodian_some_of_unasked quiet other, Stn.view_recustodied]

theorem Stn.listed_of_down (quiet : Unasked s) (peer : k ≠ s.self) (notMine : inSet s.cust.custody k = false)
    (other : s.custodian k ≠ some p) (down : s.view k = .silent ∨ s.view k = .foreign) :
    Stn.listed p s k = (s.recustodied k (some p)).setView .atEnd k .failed false := by
  rw [Stn.listed, if_neg peer, notMine, if_neg nofun, if_neg other]
  simp only [Stn.setCustodian_some_of_unasked quiet other, Stn.view_recustodied]
  obtain silent | foreign := down
  · simp only [silent]
  · simp only [foreign]

theorem members_setAdd_zero (k : Station) : members (setAdd 0 k) = [k] := by
  revert k
  decide

theorem inSet_setAdd_zero (k j : Station) : inSet (setAdd 0 k) j = decide (j = k) := by
  revert k j
  decide

end

end Sys2Proof.Machine
end


section
/-!
SUPPORT. The office map behind several changes of views and custodians, and the failure of a custodian (R39, R42).
-/

namespace Sys2Proof.Machine

/-! ### The roster's ring (R16) -/

theorem mem_members (m : StationSet) (k : Station) : k ∈ members m ↔ inSet m k = true := by
  simp [members]

section
variable {m : StationSet} {k p : Station}

/-- The buddy of k is the nearest station of the set behind it. -/
theorem buddyOf_nearest (k : Station) (inside : inSet m p = true) :
    inSet m (buddyOf m k) = true ∧ (buddyOf m k - (k + 1)).val ≤ (p - (k + 1)).val := by
  have found : ((List.finRange 16).map fun i => k + 1 + i).find? (inSet m) ≠ none := by
    rw [Ne, List.find?_eq_none]
    intro none
    refine none (k + 1 + (p - (k + 1))) (List.mem_map.2 ⟨_, List.mem_finRange _, rfl⟩) ?_
    rw [add_sub_cancel]
    exact inside
  obtain ⟨b, is⟩ := Option.ne_none_iff_exists'.1 found
  have buddy : buddyOf m k = b := by rw [buddyOf, is]; rfl
  obtain ⟨holds, i, bound, here, before⟩ := List.find?_eq_some_iff_getElem.1 is
  rw [buddy]
  refine ⟨holds, ?_⟩
  simp only [List.getElem_map, List.getElem_finRange] at here before
  rw [← here, add_sub_cancel_left]
  by_contra farther
  have no := before (p - (k + 1)).val (Nat.not_le.1 farther)
  simp only [Fin.cast_mk, Fin.eta, add_sub_cancel, inside] at no
  cases no

theorem buddyOf_ne_self (inside : inSet m p = true) (other : p ≠ k) : buddyOf m k ≠ k := by
  intro same
  have near := (buddyOf_nearest k inside).2
  rw [same] at near
  have last : ∀ k p : Fin 16, (k - (k + 1)).val ≤ (p - (k + 1)).val → p = k := by decide
  exact other (last k p near)

/-- Two stations that are each other's buddies are the whole roster. -/
theorem buddyOf_two_cycle {w : Station} (inside : inSet m p = true) (forth : buddyOf m w = k) (back : buddyOf m k = w) :
    p = k ∨ p = w := by
  have first := (buddyOf_nearest w inside).2
  have second := (buddyOf_nearest k inside).2
  rw [forth] at first
  rw [back] at second
  have between : ∀ k w p : Fin 16, (k - (w + 1)).val ≤ (p - (w + 1)).val → (w - (k + 1)).val ≤ (p - (k + 1)).val →
      p = k ∨ p = w := by decide
  exact between k w p first second

end

/-! ### The map behind several changes (R39) -/

/-- Station u is station t but for its office map, in which this function gives each entry. -/
def Stn.Remaps (t u : Stn) (g : Station → MapEntry → MapEntry) : Prop :=
  u = { t with cust.map := u.cust.map } ∧ ∀ h, u.entry? h = (t.entry? h).map (g h)

section
variable {t u v : Stn} {g g' : Station → MapEntry → MapEntry} {k : Station}

theorem Stn.Remaps.refl (t : Stn) : t.Remaps t fun _ e => e := ⟨rfl, fun _ => Option.map_id'.symm⟩

theorem Stn.Remaps.trans (first : t.Remaps u g) (second : u.Remaps v g') : t.Remaps v fun h e => g' h (g h e) := by
  obtain ⟨fields, entries⟩ := first
  obtain ⟨fields', entries'⟩ := second
  refine ⟨?_, fun h => ?_⟩
  · rw [fields'] at *
    rw [fields]
  · rw [entries', entries, Option.map_map]
    rfl

theorem Stn.Remaps.congr (maps : t.Remaps u g) (same : ∀ h e, t.entry? h = some e → g h e = g' h e) : t.Remaps u g' := by
  obtain ⟨fields, entries⟩ := maps
  refine ⟨fields, fun h => ?_⟩
  rw [entries h]
  cases found : t.entry? h with
  | none => rfl
  | some e => exact congrArg some (same h e found)

theorem Stn.Remaps.of_mapped (t : Stn) (k : Station) {f : MapEntry → MapEntry} (keeps : ∀ e, (f e).station = e.station) :
    t.Remaps (t.mapped k f) fun h e => if h = k then f e else e := by
  refine ⟨rfl, fun h => ?_⟩
  by_cases here : h = k
  · subst here
    simp only [if_true]
    exact t.cust.entry?_withEntry_same keeps
  · simp only [if_neg here, Option.map_id']
    exact t.cust.entry?_withEntry_other keeps here

/-- What is no part of the office map stands. -/
theorem Stn.Remaps.fields (maps : t.Remaps u g) : u.ctl = t.ctl ∧ u.req = t.req ∧ u.subs = t.subs ∧ u.bus = t.bus ∧
    u.cust.state = t.cust.state ∧ u.cust.returnTaken = t.cust.returnTaken := by
  rw [maps.1]
  exact ⟨rfl, rfl, rfl, rfl, rfl, rfl⟩

theorem Stn.Remaps.self (maps : t.Remaps u g) : u.self = t.self := congrArg (·.station) maps.fields.1

theorem Stn.Remaps.img (maps : t.Remaps u g) : u.img = t.img := congrArg (fun c => c.image.getD Image.blank) maps.fields.1

theorem Stn.Remaps.roster (maps : t.Remaps u g) : u.roster = t.roster := congrArg (fun i : Image => members i.roster) maps.img

theorem Stn.Remaps.view (maps : t.Remaps u g) (same : ∀ e, (g k e).view = e.view) : u.view k = t.view k := by
  rw [Stn.view, Stn.view, maps.2 k, maps.self, maps.fields.2.2.2.2.1, Option.map_map]
  rw [show (fun x : MapEntry => x.view) ∘ g k = fun e => e.view from funext same]

theorem Stn.Remaps.custodian (maps : t.Remaps u g) : u.custodian k = (t.entry? k).bind fun e => (g k e).custodian := by
  rw [Stn.custodian, maps.2 k, Option.bind_map]
  rfl

theorem Stn.Remaps.custodian_of_same (maps : t.Remaps u g) (same : ∀ e, (g k e).custodian = e.custodian) :
    u.custodian k = t.custodian k := by
  rw [maps.custodian, Stn.custodian]
  exact congrArg (Option.bind (t.entry? k)) (funext same)

end

/-! ### The failure of a custodian (R41, R42) -/

/-- No request waits, and the route cache is empty. -/
def Quiet (s : Stn) : Prop := Unasked s ∧ s.req.cache = []

/-- The custodian that a station's own entry gets where it has none. -/
def Stn.ownOr (s : Stn) (h : Station) : Option Station := if h = s.self ∧ s.cust.state = .live then some s.self else none

section
variable {s t u : Stn} {h j k : Station} {g : Station → MapEntry → MapEntry}

theorem Quiet.of_remaps (quiet : Quiet t) (maps : t.Remaps u g) : Quiet u := by
  obtain ⟨-, req, -, bus, -⟩ := maps.fields
  rw [Quiet, Unasked, req, bus]
  exact quiet

theorem Stn.ownOr_of_remaps (maps : t.Remaps u g) (h : Station) : u.ownOr h = t.ownOr h := by
  rw [Stn.ownOr, maps.self, maps.fields.2.2.2.2.1, Stn.ownOr]

theorem Stn.recustodied_remaps (quiet : Quiet s) (h : Station) (c : Option Station) :
    s.Remaps (s.recustodied h c) fun i e => if i = h then { e with custodian := c } else e := by
  have mapped : s.recustodied h c = s.mapped h fun e => { e with custodian := c } := by
    rw [Stn.recustodied, ← quiet.2]
    rfl
  rw [mapped]
  exact .of_mapped s h fun _ => rfl

theorem Stn.changeCustodian_remaps (quiet : Quiet s) (w : Places) (h : Station) (c : Option Station) :
    s.Remaps (s.changeCustodian w h c) fun i e => if i = h then { e with custodian := c } else e := by
  by_cases same : s.custodian h = c
  · rw [Stn.changeCustodian_of_same same]
    refine (Stn.Remaps.refl s).congr fun i e found => ?_
    split
    next here =>
      rw [here] at found
      rw [Stn.custodian, found] at same
      rw [← same]
      rfl
    next => rfl
  · rw [Stn.changeCustodian_of_unasked quiet.1 same]
    exact Stn.recustodied_remaps quiet h c

/-- A custodian that becomes NONE, this station's own excepted while it is LIVE. -/
theorem Stn.setCustodian_none_remaps (quiet : Quiet s) (w : Places) (h : Station) :
    s.Remaps (s.setCustodian w h none) fun i e => if i = h then { e with custodian := s.ownOr h } else e := by
  have first := Stn.changeCustodian_remaps quiet w h none
  simp only [Stn.setCustodian, first.self, first.fields.2.2.2.2.1, true_and]
  by_cases own : h = s.self ∧ s.cust.state = .live
  · rw [if_pos own]
    refine (first.trans (Stn.changeCustodian_remaps (quiet.of_remaps first) w h _)).congr fun i e _ => ?_
    by_cases here : i = h <;> simp only [here, if_true, if_false, Stn.ownOr, if_pos own]
  · rw [if_neg own]
    refine first.congr fun i e _ => ?_
    simp only [Stn.ownOr, if_neg own]

/-- The entries of these stations whose custodian is j lose it. -/
theorem foldl_setCustodian_remaps (peer : j ≠ t.self) (w : Places) (l : List Station) (quiet : Quiet t) :
    t.Remaps (l.foldl (fun s h => if s.custodian h = some j then s.setCustodian w h none else s) t) fun h e =>
      if h ∈ l ∧ e.custodian = some j then { e with custodian := t.ownOr h } else e := by
  induction l generalizing t with
  | nil => exact (Stn.Remaps.refl t).congr fun h e _ => (if_neg fun both => nomatch both.1).symm
  | cons a l ih =>
    rw [List.foldl_cons]
    have notAgain (h : Station) : t.ownOr h ≠ some j := by
      unfold Stn.ownOr
      split
      · exact fun is => peer (Option.some.inj is).symm
      · nofun
    by_cases held : t.custodian a = some j
    · rw [if_pos held]
      have first := Stn.setCustodian_none_remaps quiet w a
      have rest := ih (t := t.setCustodian w a none) (by rw [first.self]; exact peer) (quiet.of_remaps first)
      refine (first.trans rest).congr fun h e found => ?_
      simp only [Stn.ownOr_of_remaps first, List.mem_cons]
      by_cases here : h = a
      · subst here
        have mine : e.custodian = some j := by
          rw [Stn.custodian, found] at held
          exact held
        simp only [if_true, true_or, true_and, mine, if_neg fun both : _ ∧ t.ownOr h = some j => notAgain h both.2]
      · simp only [here, false_or, if_false]
    · rw [if_neg held]
      refine (ih peer quiet).congr fun h e found => ?_
      have other : h = a → e.custodian ≠ some j := by
        rintro rfl is
        rw [Stn.custodian, found] at held
        exact held is
      by_cases here : h = a
      · simp only [other here, and_false, if_false]
      · simp only [List.mem_cons, here, false_or]

theorem Stn.failCustodian_remaps (peer : j ≠ t.self) (quiet : Quiet t) (w : Places) :
    t.Remaps (t.failCustodian w j) fun h e =>
      if inSet t.img.roster h = true ∧ e.custodian = some j then { e with custodian := t.ownOr h } else e :=
  (foldl_setCustodian_remaps peer w t.roster quiet).congr fun h e _ => by
    simp only [Stn.roster, mem_members]

theorem Stn.viewed_remaps (s : Stn) (k : Station) (v : View) :
    s.Remaps (s.viewed k v) fun i e => if i = k then { e with view := v } else e := .of_mapped s k fun _ => rfl

end

end Sys2Proof.Machine
end


section
/-!
SUPPORT and RESULT. A listed station that fails, and with it its ward (R38 to R42); the custody list of a VALID frame.
-/

namespace Sys2Proof.Machine

/-! ### A peer becomes FAILED (R38, R42) -/

/-- The station whose view of k has become FAILED, with the first check of double failure. -/
def Stn.failing (s : Stn) (w : Places) (k : Station) : Stn := (s.viewed k .failed).failCustodian w k

section
variable {s : Stn} {k p j : Station} {w : Places}

theorem Stn.setView_failed_eq (quiet : Unasked s) (other : s.view k ≠ .failed) (idle : s.subs.ret = .idle)
    (stays : s.cust.state = .reclaiming → s.cust.returnTaken = false) (episode : Bool) :
    s.setView w k .failed episode = (s.failing w k).doubleFailure w := by
  rw [Stn.setView, if_neg other, Stn.changeView_failed quiet other idle stays]
  rfl

theorem Stn.failView_eq (quiet : Unasked s) (other : s.view k ≠ .failed) (idle : s.subs.ret = .idle)
    (stays : s.cust.state = .reclaiming → s.cust.returnTaken = false) : s.failView w k = s.failing w k := by
  rw [Stn.failView, if_neg other, Stn.changeView_failed quiet other idle stays]
  rfl

/-- The entry of h behind the failure of k. -/
def Stn.failedEntry (s : Stn) (k h : Station) (e : MapEntry) : MapEntry :=
  { e with
    view := if h = k then .failed else e.view
    custodian := if inSet s.img.roster h = true ∧ e.custodian = some k then s.ownOr h else e.custodian }

theorem Stn.failing_remaps (peer : k ≠ s.self) (quiet : Quiet s) (w : Places) :
    s.Remaps (s.failing w k) (s.failedEntry k) := by
  have viewed := s.viewed_remaps k .failed
  have fails := Stn.failCustodian_remaps (j := k) (by rw [viewed.self]; exact peer) (quiet.of_remaps viewed) w
  refine (viewed.trans fails).congr fun h e _ => ?_
  simp only [viewed.img, Stn.ownOr_of_remaps viewed, Stn.failedEntry]
  by_cases here : h = k
  · simp only [here, if_true]
    split <;> rfl
  · simp only [here, if_false]
    split <;> rfl

theorem Stn.view_failing_of_ne (peer : k ≠ s.self) (quiet : Quiet s) (other : j ≠ k) : (s.failing w k).view j = s.view j :=
  (Stn.failing_remaps peer quiet w).view fun _ => if_neg other

theorem Stn.ownOr_ne (peer : k ≠ s.self) (h : Station) : s.ownOr h ≠ some k := by
  unfold Stn.ownOr
  split
  · exact fun is => peer (Option.some.inj is).symm
  · nofun

/-- The buddy of a station is another roster station, and with no other down it is not FAILED. -/
theorem OthersUp.buddy_up {t : Stn} {down : List Station} (up : OthersUp s down) (same : ∀ h, h ∉ down → t.view h = s.view h)
    (self : t.self = s.self) (notDown : buddyOf s.img.roster k ∉ down) (inside : inSet s.img.roster p = true) :
    t.view (buddyOf s.img.roster k) ≠ .failed := by
  have there : buddyOf s.img.roster k ∈ s.roster := (mem_members _ _).2 (buddyOf_nearest k inside).1
  by_cases own : buddyOf s.img.roster k = s.self
  · rw [own, ← self]
    exact t.view_self_ne_failed
  · intro failed
    rw [same _ notDown] at failed
    have heard := up _ there own notDown
    rw [failed] at heard
    cases heard

/-- No double failure is due where k alone is down. -/
theorem Stn.failing_noDoubleFailure (peer : k ≠ s.self) (quiet : Quiet s) (inside : inSet s.img.roster p = true)
    (other : p ≠ k) (up : OthersUp s [k]) : NoDoubleFailure (s.failing w k) := by
  have maps := Stn.failing_remaps peer quiet w
  have same (h : Station) (apart : h ∉ [k]) : (s.failing w k).view h = s.view h :=
    Stn.view_failing_of_ne peer quiet (by simpa using apart)
  intro h there notSelf down failed
  rw [maps.roster] at there
  rw [maps.self] at notSelf
  rw [maps.img] at failed
  by_cases here : h = k
  · subst here
    have notDown : buddyOf s.img.roster h ∉ [h] := by simpa using buddyOf_ne_self inside other
    exact absurd failed (up.buddy_up same maps.self notDown inside)
  · have apart : h ∉ [k] := by simpa using here
    rw [same h apart, up h there notSelf apart] at down
    cases down

end

/-! ### A station that fails, and its ward (R42) -/

/-- The station meets the second check of double failure. -/
def Stn.DoublyDown (s : Stn) (k : Station) : Prop :=
  k ≠ s.self ∧ (s.view k).down = true ∧ s.view (buddyOf s.img.roster k) = .failed ∧
    ¬(s.view k = .failed ∧ s.custodian k = none)

theorem Stn.bothDown?_of_only {s : Stn} {x : Station} (inside : x ∈ s.roster) (meets : s.DoublyDown x)
    (only : ∀ h ∈ s.roster, s.DoublyDown h → h = x) : s.bothDown? = some x := by
  have test (h : Station) : (decide (h ≠ s.self) && (s.view h).down && decide (s.view (buddyOf s.img.roster h) = .failed) &&
      !decide (s.view h = .failed ∧ s.custodian h = none)) = true ↔ s.DoublyDown h := by
    simp only [Stn.DoublyDown, Bool.and_eq_true, decide_eq_true_eq, Bool.not_eq_true', decide_eq_false_iff_not, and_assoc]
  cases found : s.bothDown? with
  | none => exact absurd ((test x).2 meets) (List.find?_eq_none.1 found x inside)
  | some h =>
    have holds := List.find?_some (show List.find? _ s.roster = some h from found)
    exact congrArg some (only h (List.mem_of_find?_eq_some found) ((test h).1 holds))

section
variable {s : Stn} {k p x : Station}

theorem Stn.doubleFailure_of_some {t u : Stn} {w : Places} (found : t.bothDown? = some x)
    (fails : (t.failView w x).setCustodian w x .none = u) (none : NoDoubleFailure u) : t.doubleFailure w = u := by
  simp only [Stn.doubleFailure, Stn.bothDown, found, fails, Stn.bothDown?_eq_none_iff.2 none]

/-- The station whose peer x has failed in the second check of double failure. -/
def Stn.failingWard (s : Stn) (w : Places) (x : Station) : Stn := (s.failing w x).setCustodian w x none

theorem Stn.failingWard_remaps (peer : x ≠ s.self) (quiet : Quiet s) (w : Places) :
    s.Remaps (s.failingWard w x) fun h e =>
      if h = x then { s.failedEntry x h e with custodian := none } else s.failedEntry x h e := by
  have fails := Stn.failing_remaps peer quiet w
  refine (fails.trans (Stn.setCustodian_none_remaps (quiet.of_remaps fails) w x)).congr fun h e _ => ?_
  have none : (s.failing w x).ownOr x = .none := by
    rw [Stn.ownOr_of_remaps fails, Stn.ownOr, if_neg fun both => peer both.1]
  simp only [none]

variable (peer : k ≠ s.self) (quiet : Quiet s) (inside : inSet s.img.roster p = true) (other : p ≠ k) (upWard : p ≠ x)
  (isRoster : x ∈ s.roster) (notSelf : x ≠ s.self) (apart : x ≠ k) (buddy : buddyOf s.img.roster x = k)
  (silent : s.view x = .silent) (up : OthersUp s [k, x])
include peer quiet inside other upWard isRoster notSelf apart buddy silent up

omit peer quiet isRoster notSelf apart silent in
/-- The buddy of k is up. -/
theorem Stn.buddy_of_failing_up {t : Stn} (same : ∀ h, h ∉ [k, x] → t.view h = s.view h) (self : t.self = s.self) :
    t.view (buddyOf s.img.roster k) ≠ .failed := by
  refine up.buddy_up same self ?_ inside
  simp only [List.mem_cons, List.not_mem_nil, or_false, not_or]
  exact ⟨buddyOf_ne_self inside other, fun back => (buddyOf_two_cycle inside buddy back).elim other upWard⟩

theorem Stn.bothDown?_failing (entry : (s.entry? k).isSome = true) (w : Places) : (s.failing w k).bothDown? = some x := by
  have maps := Stn.failing_remaps peer quiet w
  have same (h : Station) (mem : h ∉ [k, x]) : (s.failing w k).view h = s.view h :=
    Stn.view_failing_of_ne peer quiet fun is => mem (is ▸ List.mem_cons_self)
  have wardView : (s.failing w k).view x = .silent := (Stn.view_failing_of_ne peer quiet apart).trans silent
  have failed : (s.failing w k).view k = .failed := by
    obtain ⟨e, found⟩ := Option.isSome_iff_exists.1 entry
    rw [Stn.view, maps.self, if_neg peer, maps.2 k, found]
    exact if_pos rfl
  refine Stn.bothDown?_of_only (by rw [maps.roster]; exact isRoster) ?_ fun h there meets => ?_
  · rw [Stn.DoublyDown, maps.self, maps.img, buddy, wardView, failed]
    exact ⟨notSelf, rfl, rfl, fun both => nomatch both.1⟩
  · obtain ⟨peer', down, buddyFailed, -⟩ := meets
    rw [maps.roster] at there
    rw [maps.self] at peer'
    rw [maps.img] at buddyFailed
    by_contra notWard
    by_cases here : h = k
    · subst here
      exact Stn.buddy_of_failing_up inside other upWard buddy up same maps.self buddyFailed
    · have outside : h ∉ [k, x] := by simp [here, notWard]
      rw [same h outside, up h there peer' outside] at down
      cases down

/-- No double failure is due once k and its ward x have failed. -/
theorem Stn.failingWard_noDoubleFailure (w : Places) : NoDoubleFailure ((s.failing w k).failingWard w x) := by
  have first := Stn.failing_remaps peer quiet w
  have second := Stn.failingWard_remaps (s := s.failing w k) (x := x) (by rw [first.self]; exact notSelf)
    (quiet.of_remaps first) w
  have maps := first.trans second
  have same (h : Station) (mem : h ∉ [k, x]) : ((s.failing w k).failingWard w x).view h = s.view h := by
    simp only [List.mem_cons, List.not_mem_nil, or_false, not_or] at mem
    refine maps.view fun e => ?_
    simp only [if_neg mem.2, Stn.failedEntry, if_neg mem.1]
  have noCustodian : ((s.failing w k).failingWard w x).custodian x = none := by
    rw [maps.custodian]
    cases s.entry? x <;> simp
  intro h there peer' down failed
  rw [maps.roster] at there
  rw [maps.self] at peer'
  rw [maps.img] at failed
  by_cases here : h = k
  · subst here
    exact absurd failed (Stn.buddy_of_failing_up inside other upWard buddy up same maps.self)
  · by_cases ward : h = x
    · subst ward
      obtain ⟨e, found⟩ := Option.isSome_iff_exists.1 (Stn.entry?_of_view notSelf (by rw [silent]; nofun))
      refine ⟨?_, noCustodian⟩
      rw [Stn.view, maps.self, if_neg notSelf, maps.2 h, found]
      simp [Stn.failedEntry]
    · have outside : h ∉ [k, x] := by simp [here, ward]
      rw [same h outside, up h there peer' outside] at down
      cases down

/-- The failure of k takes its silent ward along. -/
theorem Stn.doubleFailure_failing (entry : (s.entry? k).isSome = true) (idle : s.subs.ret = .idle)
    (stays : s.cust.state = .reclaiming → s.cust.returnTaken = false) (w : Places) :
    (s.failing w k).doubleFailure w = (s.failing w k).failingWard w x := by
  have maps := Stn.failing_remaps peer quiet w
  obtain ⟨-, -, subs, -, state, taken⟩ := maps.fields
  have view : (s.failing w k).view x ≠ .failed := by
    rw [Stn.view_failing_of_ne peer quiet apart, silent]
    nofun
  refine Stn.doubleFailure_of_some
    (Stn.bothDown?_failing peer quiet inside other upWard isRoster notSelf apart buddy silent up entry w) ?_
    (Stn.failingWard_noDoubleFailure peer quiet inside other upWard isRoster notSelf apart buddy silent up w)
  rw [Stn.failView_eq (quiet.of_remaps maps).1 view (by rw [subs]; exact idle) (by rw [state, taken]; exact stays)]
  rfl

end

end Sys2Proof.Machine
end


section
/-!
RESULT. The custody list of a VALID frame (R38 to R42).
-/

namespace Sys2Proof.Machine

section
variable {s : Stn} {r : RoundPos} {p k x : Station} {f : RoundFrame}

theorem Stn.view_hearing (s : Stn) (p : Station) (r : RoundPos) (f : RoundFrame) (k : Station) :
    (s.hearing p r f).view k = s.view k := Stn.view_heardIn ((s.passWindow r).claimsKept p r f) p k f

theorem Stn.custodian_hearing (s : Stn) (p : Station) (r : RoundPos) (f : RoundFrame) (k : Station) :
    (s.hearing p r f).custodian k = s.custodian k := Stn.custodian_heardIn ((s.passWindow r).claimsKept p r f) p k f

theorem Stn.entry?_hearing (s : Stn) (p : Station) (r : RoundPos) (f : RoundFrame) (k : Station) :
    (s.hearing p r f).entry? k = (s.entry? k).map fun e => if k = p then e.heardIn f else e :=
  (Stn.Remaps.of_mapped ((s.passWindow r).claimsKept p r f) p (f := MapEntry.heardIn f) fun _ => rfl).2 k

theorem Stn.entry?_recustodied (s : Stn) (k : Station) (c : Option Station) (h : Station) :
    (s.recustodied k c).entry? h = (s.entry? h).map fun e => if h = k then { e with custodian := c } else e :=
  (Stn.Remaps.of_mapped s k (f := fun e => { e with custodian := c }) fun _ => rfl).2 h

/-- A station whose custody is back and whose view is LIVE again. -/
theorem Stn.viewed_recustodied (s : Stn) (k : Station) (c : Option Station) (v : View) :
    (s.recustodied k c).viewed k v = { s with
      cust := s.cust.withEntry k fun e => { e with custodian := c, view := v }
      req.cache := [] } :=
  congrArg (fun m => { s.recustodied k c with cust := m })
    (Custody.withEntry_withEntry (f := fun e => { e with custodian := c }) (fun _ => rfl) fun e => { e with view := v })

/-- With its view LIVE again, and no other station down, no double failure is due. -/
theorem OthersUp.liveAgain (up : OthersUp s [k]) (peer : k ≠ s.self) (entry : (s.entry? k).isSome = true)
    (c : Option Station) : NoDoubleFailure ((s.recustodied k c).viewed k .live) := by
  have found : ((s.recustodied k c).entry? k).isSome = true := by
    rw [Stn.entry?_recustodied, Option.isSome_map]
    exact entry
  have live := Stn.view_viewed_same (s := s.recustodied k c) (v := .live) peer found
  refine OthersUp.noDoubleFailure (down := []) (fun j there own _ => ?_) fun _ mem => nomatch mem
  by_cases here : j = k
  · rw [here, live]
    rfl
  · have view : ((s.recustodied k c).viewed k .live).view j = s.view j :=
      (Stn.view_viewed_of_ne here).trans (Stn.view_recustodied j)
    rw [view]
    exact up j there own (by simpa using here)

theorem Stn.mirrorsTo_eq (s : Stn) (k : Station) : s.mirrorsTo k = { s with
    subs.mirror := if k = s.buddy ∧ s.cust.state = .live then .running none true false else s.subs.mirror } := by
  unfold Stn.mirrorsTo
  split <;> rfl

/-- Custody of a FAILED station goes back, and its view is LIVE again. -/
theorem Stn.giveBack_eq (quiet : Unasked s) (other : s.custodian k ≠ some k) (failed : s.view k = .failed)
    (entry : (s.entry? k).isSome = true) (up : OthersUp s [k]) : s.giveBack k = { s with
      cust := s.cust.withEntry k fun e => { e with custodian := some k, view := .live }
      req.cache := []
      subs.mirror := if k = s.buddy ∧ s.cust.state = .live then .running none true false else s.subs.mirror } := by
  have peer : k ≠ s.self := fun own => s.view_self_ne_failed (own ▸ failed)
  rw [Stn.giveBack_of_failed quiet peer other failed (up.liveAgain peer entry _), Stn.mirrorsTo_eq, Stn.viewed_recustodied]
  rfl

/-- The sender whose entry has been heard keeps it so when it is changed again. -/
theorem Stn.hearing_withEntry (s : Stn) (p : Station) (r : RoundPos) (f : RoundFrame) (g : MapEntry → MapEntry) :
    (s.hearing p r f).cust.withEntry p (fun e => g (e.heardIn f)) = (s.hearing p r f).cust.withEntry p g := by
  have twice (g : MapEntry → MapEntry) : (s.hearing p r f).cust.withEntry p g =
      s.cust.withEntry p fun e => g (e.heardIn f) :=
    Custody.withEntry_withEntry (c := s.cust) (f := MapEntry.heardIn f) (fun _ => rfl) g
  rw [twice, twice]
  rfl

theorem Stn.noEpisode_of_state (state : f.state ≠ .joining) : s.joiningEpisode p f.state = false :=
  decide_eq_false fun both => state both.1

theorem Stn.noEpisode_of_sender (last : s.bus.lastSender.get p = some .joining) : s.joiningEpisode p f.state = false :=
  decide_eq_false fun both => both.2 last

/-- The row of a frame whose lists lead to station v, where no request waits. -/
theorem exec_windowReading_of_lists {s : State} {heard : List Byte} {u v : Stn} (hears : Hears s.stn r p heard f)
    (lists : BringsLists s.stn f) (quiet : NoRequests s.stn) (noEpisode : s.stn.joiningEpisode p f.state = false)
    (view : s.stn.view p = f.state.view ∨ f.state ≠ .joining ∧ s.stn.view p = .failed)
    (listed : (members f.custody).foldl (Stn.listed p) ((s.stn.hearing p r f).liveAgain p f.state) = u)
    (stays : u.mustStandDown f = false) (dropped : u.dropped p f = v) (period : v.bill.period = s.stn.bill.period)
    (waiting : v.intake.waiting = s.stn.intake.waiting) (outbox : v.bus.outbox = s.stn.bus.outbox)
    (pend : v.req.pend = s.stn.req.pend) : exec (.windowReading p heard) s = .next { s with stn := v.closing p f } := by
  obtain ⟨empty, noPend, notJoining⟩ := quiet
  have same : ((s.stn.passWindow r).claimsKept p r f).validView p f false = s.stn.hearing p r f := by
    obtain same | ⟨state, failed⟩ := view
    · exact Stn.validView_of_same (s := (s.stn.passWindow r).claimsKept p r f) same
    · exact Stn.validView_of_failed (s := (s.stn.passWindow r).claimsKept p r f) state failed
  refine exec_windowReading_of_custody hears lists noEpisode
    (Stn.custodyPart_of_parts (s := (s.stn.passWindow r).claimsKept p r f) noEpisode notJoining same listed stays dropped)
    period ?_ (waiting.trans hears.2.2.1) ?_
  · rw [outbox, empty]
    exact fun _ mem => nomatch mem
  · intro e mem
    rw [pend, noPend] at mem
    cases mem

/-! ### The map behind the failure of a listed station -/

/-- The entry of h behind the list's failure of k, with its ward where x is one. -/
def Stn.listFailed (s : Stn) (p k : Station) (x : Option Station) (h : Station) (e : MapEntry) : MapEntry :=
  if h = k then { e with view := .failed, custodian := some p }
  else if x = some h then { e with view := .failed, custodian := none }
  else if inSet s.img.roster h = true ∧ (e.custodian = some k ∨ x ≠ none ∧ e.custodian = x) then
    { e with custodian := s.ownOr h }
  else e

theorem Stn.failedEntry_recustodied (other : p ≠ k) (h : Station) (e : MapEntry) :
    (s.recustodied k (some p)).failedEntry k h (if h = k then { e with custodian := some p } else e) =
      s.listFailed p k none h e := by
  have img : (s.recustodied k (some p)).img = s.img := rfl
  have own : (s.recustodied k (some p)).ownOr h = s.ownOr h := rfl
  have notSame : some p ≠ some k := fun is => other (Option.some.inj is)
  simp only [Stn.failedEntry, Stn.listFailed, img, own, reduceCtorEq, if_false, ne_eq, not_true, false_and, or_false]
  by_cases here : h = k
  · simp only [here, if_true, notSame, and_false, if_false]
  · simp only [here, if_false]
    split <;> rfl

theorem Stn.failingWard_listFailed {t : Stn} (ward : x ≠ s.self) (otherWard : p ≠ x) (apart : x ≠ k)
    (img : t.img = s.img) (ownOr : ∀ h, t.ownOr h = s.ownOr h) (h : Station) (e : MapEntry) :
    (if h = x then { t.failedEntry x h (s.listFailed p k none h e) with custodian := none }
      else t.failedEntry x h (s.listFailed p k none h e)) = s.listFailed p k (some x) h e := by
  have notOwn : s.ownOr h ≠ some x := Stn.ownOr_ne ward h
  have notThis : some p ≠ some x := fun is => otherWard (Option.some.inj is)
  simp only [Stn.failedEntry, Stn.listFailed, img, ownOr, reduceCtorEq, if_false, ne_eq, not_true, false_and, or_false,
    not_false_eq_true, true_and, Option.some.injEq]
  by_cases isWard : h = x
  · have notK : ¬h = k := isWard ▸ apart
    simp only [if_neg notK, if_pos isWard, if_pos isWard.symm]
    split <;> rfl
  · have notX : ¬x = h := fun is => isWard is.symm
    simp only [if_neg isWard, if_neg notX]
    by_cases here : h = k
    · simp only [if_pos here, if_neg fun both : _ ∧ some p = some x => notThis both.2]
    · simp only [if_neg here]
      by_cases inside : inSet s.img.roster h = true
      · by_cases held : e.custodian = some k
        · simp only [inside, held, true_and, true_or, if_true, if_neg notOwn]
        · simp only [inside, held, true_and, false_or, if_false]
          split <;> rfl
      · simp only [inside, Bool.false_eq_true, false_and, if_false]

theorem Stn.listFailed_custodian {y : Option Station} {j : Station} {e : MapEntry} (peer : p ≠ s.self) (apart : j ≠ k)
    (is : (s.listFailed p k y j e).custodian = some p) : e.custodian = some p := by
  rw [Stn.listFailed, if_neg apart] at is
  split at is
  · cases is
  · split at is
    · exact absurd is (Stn.ownOr_ne peer j)
    · exact is

end

/-- Settles O42: a station listed, one listed no longer, a sender without a custodian, and the frames that change no
custodian. -/
theorem custodyListsAreRead : Obligations.CustodyListsAreRead := by
  unfold Obligations.CustodyListsAreRead
  intro s r p heard f hears lists quiet i t live entered mirror
  let h := s.stn.hearing p r f
  have unasked : Unasked h := ⟨quiet.1, by rw [show h.req.pend = [] from quiet.2.1]; exact fun _ mem => nomatch mem⟩
  have view (k : Station) : h.view k = s.stn.view k := s.stn.view_hearing p r f k
  have custodian (k : Station) : h.custodian k = s.stn.custodian k := s.stn.custodian_hearing p r f k
  have peer : p ≠ s.stn.self := hears.2.1
  refine ⟨fun k isLive held only notSender none => ?_, fun isLive held no k inside notSender mine none => ?_,
    fun isLive none no others => ?_, fun state failed held no none => ?_, fun state joining last no => ?_⟩
  · have again : (members f.custody).foldl (Stn.listed p) (h.liveAgain p f.state) = Stn.listed p h k := by
      rw [only, members_setAdd_zero, List.foldl_cons, List.foldl_nil,
        Stn.liveAgain_of_held fun _ => (custodian p).symm ▸ held]
    have noEpisode : s.stn.joiningEpisode p f.state = false := Stn.noEpisode_of_state (by rw [isLive.1]; nofun)
    have sameView : s.stn.view p = f.state.view := by rw [isLive.1, isLive.2]; rfl
    have ran {v : Stn} (listed : Stn.listed p h k = v) (own : k = s.stn.self → inSet f.silence s.stn.self = false)
        (self : v.self = s.stn.self) (roster : v.roster = s.stn.roster)
        (custodians : ∀ j, j ≠ k → v.custodian j = some p → s.stn.custodian j = some p)
        (period : v.bill.period = s.stn.bill.period) (waiting : v.intake.waiting = s.stn.intake.waiting)
        (outbox : v.bus.outbox = s.stn.bus.outbox) (pend : v.req.pend = s.stn.req.pend) :
        exec i s = .next { s with stn := v.closing p f } := by
      refine exec_windowReading_of_lists hears lists quiet noEpisode (.inl sameView) (again.trans listed) ?_ ?_ period
        waiting outbox pend
      · by_cases isOwn : k = s.stn.self
        · exact Stn.mustStandDown_of_heard (by rw [self]; exact own isOwn)
        · exact Stn.mustStandDown_of_unlisted (by
            rw [only, inSet_setAdd_zero, self]
            exact decide_eq_false fun is => isOwn is.symm)
      · refine Stn.dropped_of_none fun j there other unlisted => ?_
        rw [roster] at there
        rw [only, inSet_setAdd_zero] at unlisted
        have apart : j ≠ k := of_decide_eq_false unlisted
        exact fun is => none j there other apart (custodians j apart is)
    have still (listed : Stn.listed p h k = h) (own : k = s.stn.self → inSet f.silence s.stn.self = false) :
        exec i s = .next t := ran listed own rfl rfl (fun j _ is => custodian j ▸ is) rfl rfl rfl rfl
    have moves (listed : Stn.listed p h k = h.recustodied k (some p))
        (own : k = s.stn.self → inSet f.silence s.stn.self = false) :
        exec i s = .next (entered k fun e => { e with custodian := some p }) :=
      ran listed own rfl rfl (fun j apart is => by rwa [Stn.custodian_recustodied_of_ne apart, custodian] at is) rfl rfl rfl rfl
    refine ⟨fun own quietHere => ⟨fun same => ?_, fun other => ?_⟩, fun notOwn held' => ?_,
      fun notOwn notMine other => ⟨fun up => ?_, fun down inside idle stays => ?_⟩⟩
    · refine still ?_ fun _ => quietHere
      subst own
      exact Stn.listed_of_own.trans (Stn.setCustodian_some_of_same ((custodian _).trans same) _)
    · refine moves ?_ fun _ => quietHere
      subst own
      exact Stn.listed_of_own.trans (Stn.setCustodian_some_of_unasked unasked (by rw [custodian]; exact other) _)
    · exact still (Stn.listed_of_held notOwn (held'.imp_right fun is => (custodian k).trans is)) fun is => absurd is notOwn
    · exact moves (Stn.listed_of_up unasked notOwn notMine (by rw [custodian]; exact other) (by rw [view]; exact up))
        fun is => absurd is notOwn
    · let a := h.recustodied k (some p)
      have quietA : Quiet a := ⟨unasked, rfl⟩
      have viewA (j : Station) : a.view j = s.stn.view j := (Stn.view_recustodied j).trans (view j)
      have notFailed : a.view k ≠ .failed := by
        rw [viewA]
        obtain is | is := down <;> rw [is] <;> nofun
      have listed : Stn.listed p h k = (a.failing .atEnd k).doubleFailure .atEnd :=
        (Stn.listed_of_down unasked notOwn notMine (by rw [custodian]; exact other) (by rw [view]; exact down)).trans
          (Stn.setView_failed_eq (s := a) quietA.1 notFailed idle stays false)
      have fails := Stn.failing_remaps (s := a) notOwn quietA .atEnd
      have ends {w : Option Station} {v : Stn} {g : Station → MapEntry → MapEntry}
          (double : (a.failing .atEnd k).doubleFailure .atEnd = v) (maps : a.Remaps v g)
          (is : ∀ j e, g j (if j = k then { e with custodian := some p } else e) = h.listFailed p k w j e) :
          ∃ u, exec i s = .next u ∧
            MapsTo u { t with stn.req.cache := [] } (h.listFailed p k w) := by
        have entries (j : Station) : v.entry? j = (h.entry? j).map (h.listFailed p k w j) := by
          rw [maps.2 j, Stn.entry?_recustodied, Option.map_map]
          exact congrArg (fun f => Option.map f (h.entry? j)) (funext fun e => is j e)
        have fields {α : Type} (get : Stn → α) (same : ∀ m, get { a with cust.map := m } = get a) : get v = get a := by
          rw [maps.1]
          exact same _
        refine ⟨{ s with stn := v.closing p f }, ran (listed.trans double) (fun is => absurd is notOwn) maps.self maps.roster
          (fun j apart held' => ?_) (fields (·.bill.period) fun _ => rfl) (fields (·.intake.waiting) fun _ => rfl)
          (fields (·.bus.outbox) fun _ => rfl) (fields (·.req.pend) fun _ => rfl), ?_, entries⟩
        · rw [Stn.custodian, entries j] at held'
          rw [← custodian, Stn.custodian]
          cases found : h.entry? j with
          | none =>
            rw [found] at held'
            cases held'
          | some e =>
            rw [found] at held'
            exact Stn.listFailed_custodian peer apart held'
        · exact congrArg (fun v => ({ s with stn := v.closing p f } : State)) maps.1
      refine ⟨fun alone => ?_, fun x isRoster notSelf apart buddy silent up => ?_⟩
      · have upA : OthersUp a [k] := fun j there own outside => by rw [viewA]; exact alone j there own outside
        have noDouble := Stn.failing_noDoubleFailure (s := a) (w := .atEnd) notOwn quietA inside notSender.symm upA
        exact ends (Stn.doubleFailure_of_none noDouble .atEnd) fails
          (Stn.failedEntry_recustodied (s := h) notSender.symm)
      · have upA : OthersUp a [k, x] := fun j there own outside => by rw [viewA]; exact up j there own outside
        have upWard : p ≠ x := by
          rintro rfl
          rw [isLive.2] at silent
          cases silent
        have entry : (a.entry? k).isSome = true := Stn.entry?_of_view (s := a) notOwn notFailed
        have double := Stn.doubleFailure_failing (s := a) (k := k) (x := x) notOwn quietA inside notSender.symm upWard
          isRoster notSelf apart buddy ((viewA x).trans silent) upA entry idle stays .atEnd
        have wardFails := Stn.failingWard_remaps (s := a.failing .atEnd k) (x := x) (by rw [fails.self]; exact notSelf)
          (quietA.of_remaps fails) .atEnd
        refine ends double (fails.trans wardFails) fun j e => ?_
        rw [Stn.failedEntry_recustodied (s := h) notSender.symm]
        have own (j : Station) : (a.failing .atEnd k).ownOr j = h.ownOr j := Stn.ownOr_of_remaps fails j
        exact Stn.failingWard_listFailed (s := h) notSelf upWard apart fails.img own j e
  · have noEpisode : s.stn.joiningEpisode p f.state = false := Stn.noEpisode_of_state (by rw [isLive.1]; nofun)
    have sameView : s.stn.view p = f.state.view := by rw [isLive.1, isLive.2]; rfl
    have unlisted (j : Station) : inSet f.custody j = false := by rw [no]; simp [inSet]
    have listed : (members f.custody).foldl (Stn.listed p) (h.liveAgain p f.state) = h := by
      rw [no, members_zero, List.foldl_nil, Stn.liveAgain_of_held fun _ => (custodian p).symm ▸ held]
    have notBack : h.custodian k ≠ some k := by
      rw [custodian, mine]
      exact fun is => notSender (Option.some.inj is).symm
    have ran {v : Stn} (back : h.giveBack k = v) (same : ∀ j, j ≠ k → v.custodian j = h.custodian j)
        (period : v.bill.period = s.stn.bill.period) (waiting : v.intake.waiting = s.stn.intake.waiting)
        (outbox : v.bus.outbox = s.stn.bus.outbox) (pend : v.req.pend = s.stn.req.pend) :
        exec i s = .next { s with stn := v.closing p f } :=
      exec_windowReading_of_lists hears lists quiet noEpisode (.inl sameView) listed
        (Stn.mustStandDown_of_unlisted (unlisted _))
        (Stn.dropped_of_one (by rw [isLive.1]; nofun) inside notSender (unlisted k) ((custodian k).trans mine)
          (fun j there other apart => by rw [custodian]; exact none j there other apart) back same)
        period waiting outbox pend
    refine ⟨fun up => ?_, fun failed up => ?_⟩
    · exact ran (Stn.giveBack_of_up unasked notBack (by rw [view]; exact up))
        (fun j apart => Stn.custodian_recustodied_of_ne apart) rfl rfl rfl rfl
    · have upH : OthersUp h [k] := fun j there own outside => by rw [view]; exact up j there own outside
      have entry : (h.entry? k).isSome = true := Stn.entry?_of_custodian ((custodian k).trans mine)
      exact ran (Stn.giveBack_eq unasked notBack ((view k).trans failed) entry upH)
        (fun j apart => Custody.custodianOf_withEntry_of_ne (f := fun e => { e with custodian := some k, view := .live })
          (fun _ => rfl) apart) rfl rfl rfl rfl
  · have noEpisode : s.stn.joiningEpisode p f.state = false := Stn.noEpisode_of_state (by rw [isLive]; nofun)
    have unlisted (j : Station) : inSet f.custody j = false := by rw [no]; simp [inSet]
    have notBack : h.custodian p ≠ some p := by
      rw [custodian, none]
      nofun
    have again : h.liveAgain p f.state = h.giveBack p := if_pos ⟨isLive, (custodian p).trans none⟩
    have ran {v : Stn} (viewed : s.stn.view p = f.state.view ∨ f.state ≠ .joining ∧ s.stn.view p = .failed)
        (back : h.giveBack p = v) (same : ∀ j, j ≠ p → v.custodian j = h.custodian j) (roster : v.roster = s.stn.roster)
        (period : v.bill.period = s.stn.bill.period) (waiting : v.intake.waiting = s.stn.intake.waiting)
        (outbox : v.bus.outbox = s.stn.bus.outbox) (pend : v.req.pend = s.stn.req.pend) :
        exec i s = .next { s with stn := v.closing p f } := by
      refine exec_windowReading_of_lists hears lists quiet noEpisode viewed ?_ (Stn.mustStandDown_of_unlisted (unlisted _))
        (Stn.dropped_of_none fun j there other _ => ?_) period waiting outbox pend
      · rw [no, members_zero, List.foldl_nil, again, back]
      · rw [same j other, custodian]
        exact others j (roster ▸ there) other other
    have twice := s.stn.hearing_withEntry p r f
    refine ⟨fun up => ?_, fun failed up entry => ?_⟩
    · have run := ran (.inl (by rw [isLive, up]; rfl)) (Stn.giveBack_of_up unasked notBack (by rw [view, up]; nofun))
        (fun j apart => Stn.custodian_recustodied_of_ne apart) rfl rfl rfl rfl rfl
      rw [run, Stn.recustodied, ← twice]
      rfl
    · have upH : OthersUp h [p] := fun j there own outside => by rw [view]; exact up j there own outside
      have entryH : (h.entry? p).isSome = true := by
        rw [Stn.entry?_hearing, Option.isSome_map]
        exact Option.isSome_iff_exists.2 entry
      have run := ran (.inr ⟨by rw [isLive]; nofun, failed⟩)
        (Stn.giveBack_eq unasked notBack ((view p).trans failed) entryH upH)
        (fun j apart => Custody.custodianOf_withEntry_of_ne (f := fun e => { e with custodian := some p, view := .live })
          (fun _ => rfl) apart) rfl rfl rfl rfl rfl
      rw [run, ← twice]
      rfl
  · have unlisted (j : Station) : inSet f.custody j = false := by rw [no]; simp [inSet]
    refine exec_windowReading_of_lists (u := h) (v := h) hears lists quiet (Stn.noEpisode_of_state state) (.inr ⟨state, failed⟩) ?_
      (Stn.mustStandDown_of_unlisted (unlisted _)) (Stn.dropped_of_none fun j there other _ => ?_) rfl rfl rfl rfl
    · rw [no, members_zero, List.foldl_nil, Stn.liveAgain_of_held fun _ => (custodian p).symm ▸ held]
    · rw [custodian]
      exact none j there other other
  · have unlisted (j : Station) : inSet f.custody j = false := by rw [no]; simp [inSet]
    refine exec_windowReading_of_lists (u := h) (v := h) hears lists quiet (Stn.noEpisode_of_sender last)
      (.inl (by rw [state]; exact joining)) ?_ (Stn.mustStandDown_of_unlisted (unlisted _)) ?_ rfl rfl rfl rfl
    · rw [no, members_zero, List.foldl_nil, Stn.liveAgain_of_held (by rw [state]; nofun)]
    · rw [Stn.dropped, state]

end Sys2Proof.Machine
end


section
/-!
RESULT. SILENT_VIEW, and the NOTHING reading that brings it (R18, R38, R56, R178).
-/

namespace Sys2Proof.Machine

theorem NoDoubleFailure.of_same {s t : Stn} (none : NoDoubleFailure s) (ctl : t.ctl = s.ctl) (cust : t.cust = s.cust) :
    NoDoubleFailure t :=
  none.congr ctl (fun k _ => Stn.view_congr ctl cust k) fun k _ => by
    rw [Stn.custodian_eq, cust, Stn.custodian_eq]

/-! ### A window in which nothing is heard (R22, R127) -/

/-- The station whose peer's window is lost, where the peer is heard (R127). -/
def Stn.windowLost (s : Stn) (r : RoundPos) (heard : Bool) : Stn :=
  if r.index ≠ 3 ∧ heard = true then s.abstained (r.frame + 2) else s

/-- The silent count of p one higher. -/
def Stn.silentCounted (s : Stn) (p : Station) : Stn := s.mapped p fun e => { e with silent := satInc8 e.silent }

section
variable {s : Stn} {r : RoundPos} {p : Station} {e : MapEntry}

theorem Stn.view_of_entry (peer : p ≠ s.self) (entry : s.entry? p = some e) : s.view p = e.view := by
  rw [Stn.view, if_neg peer, entry]
  rfl

theorem Stn.readingAbstain_passWindow (s : Stn) (r : RoundPos) (v : View) :
    (s.passWindow r).readingAbstain r.frame r.index v true = (s.windowLost r v.heard).passWindow r := by
  have test : (true && v.heard && decide (r.index ≠ 3)) = true ↔ r.index ≠ 3 ∧ v.heard = true := by
    rw [Bool.true_and, Bool.and_eq_true, decide_eq_true_eq, and_comm]
  rw [Stn.readingAbstain, Stn.windowLost]
  by_cases lost : r.index ≠ 3 ∧ v.heard = true
  · rw [if_pos (test.2 lost), if_pos lost, Stn.abstainFrom_eq]
    unfold Stn.abstained
    by_cases marked : r.frame + 2 ∈ s.air.abstain
    · rw [if_pos marked]
      exact if_pos marked
    · rw [if_neg marked]
      exact if_neg marked
  · rw [if_neg (mt test.1 lost), if_neg lost]

theorem Stn.windowLost_frame (s : Stn) (r : RoundPos) (heard : Bool) : (s.windowLost r heard).ctl = s.ctl ∧
    (s.windowLost r heard).intake = s.intake ∧ (s.windowLost r heard).req = s.req ∧
    (s.windowLost r heard).subs = s.subs ∧ (s.windowLost r heard).bill = s.bill ∧
    (s.windowLost r heard).bus = s.bus ∧ (s.windowLost r heard).cust = s.cust := by
  unfold Stn.windowLost Stn.abstained
  split
  · split <;> exact ⟨rfl, rfl, rfl, rfl, rfl, rfl, rfl⟩
  · exact ⟨rfl, rfl, rfl, rfl, rfl, rfl, rfl⟩

/-- The row of a window in which nothing is heard. -/
theorem exec_windowReading_nothing {s : State} (opens : AtWindow s.stn r p) (peer : p ≠ s.stn.self)
    (entry : s.stn.entry? p = some e) : exec (.windowReading p []) s = .next { s with
      stn := ((((s.stn.windowLost r e.view.heard).passWindow r).readNothing p).resolve p).settledFrom s.stn } := by
  have read : (s.stn.passWindow r).applyReading p r ((s.stn.passWindow r).classify p r.index []) =
      ((s.stn.windowLost r e.view.heard).passWindow r).readNothing p := by
    have view : (s.stn.passWindow r).view p = e.view := Stn.view_of_entry (s := s.stn.passWindow r) peer entry
    rw [← Stn.readingAbstain_passWindow, ← view]
    rfl
  rw [exec_windowReading_eq opens peer, Stn.windowEnd, ← read]
  rfl

/-- The count of a peer whose reading is NOTHING, and what it makes of the view (R38). -/
theorem Stn.readNothing_eq (peer : p ≠ s.self) (entry : s.entry? p = some e) : s.readNothing p =
    if s.img.silence ≤ (satInc8 e.silent).toNat ∧ e.view.down = false then
      (s.silentCounted p).setView .atOnce p .silent false
    else s.silentCounted p := by
  have updated : s.updEntry p (fun e => { e with silent := satInc8 e.silent }) = s.silentCounted p :=
    s.updEntry_eq_withEntry p _
  have found := s.cust.entry?_withEntry_same (k := p) (f := fun e => { e with silent := satInc8 e.silent }) fun _ => rfl
  have count : (s.silentCounted p).silentCount p = satInc8 e.silent := by
    rw [Stn.silentCount, show (s.silentCounted p).entry? p = _ from found, ← Stn.entry?_eq, entry]
    rfl
  have view : (s.silentCounted p).view p = e.view :=
    (Stn.view_mapped (f := fun e => { e with silent := satInc8 e.silent }) (fun _ => rfl) (fun _ => rfl) p).trans
      (Stn.view_of_entry peer entry)
  simp only [Stn.readNothing, updated, count, view]

/-! ### A peer falls SILENT (R18, R38, R56) -/

/-- The entry of p when the view has become SILENT. -/
def Stn.fallenSilent (s : Stn) (p : Station) : Stn :=
  { s with cust := s.cust.withEntry p fun e => { e with silent := satInc8 e.silent, view := .silent } }

theorem Stn.silentCounted_viewed (s : Stn) (p : Station) : (s.silentCounted p).viewed p .silent = s.fallenSilent p :=
  Stn.mapped_mapped (s := s) (f := fun e => { e with silent := satInc8 e.silent }) (fun _ => rfl) _

/-- Where no station's buddy is FAILED, a silent peer makes no double failure. -/
theorem NoneFailed.fallenSilent (none : NoneFailed s) (peer : p ≠ s.self) (entry : s.entry? p = some e) :
    NoDoubleFailure (s.fallenSilent p) := by
  intro k inside _ _ failed
  refine absurd failed ?_
  by_cases here : buddyOf s.img.roster k = p
  · have found := s.cust.entry?_withEntry_same (k := p)
      (f := fun e => { e with silent := satInc8 e.silent, view := .silent }) fun _ => rfl
    have silent : (s.fallenSilent p).view p = .silent := by
      rw [Stn.view, if_neg (show p ≠ (s.fallenSilent p).self from peer), show (s.fallenSilent p).entry? p = _ from found,
        ← Stn.entry?_eq, entry]
      rfl
    rw [show buddyOf (s.fallenSilent p).img.roster k = p from here, silent]
    nofun
  · rw [show (s.fallenSilent p).view (buddyOf (s.fallenSilent p).img.roster k) = s.view (buddyOf s.img.roster k) from
      Stn.view_mapped_of_ne (f := fun e => { e with silent := satInc8 e.silent, view := .silent }) (fun _ => rfl) here]
    exact none k inside

/-- What a change does to the return walk, and what it does not look at. -/
def LeavesMapAndBus (t : Stn → Stn) : Prop :=
  ∀ s, ((t s).ctl = s.ctl ∧ (t s).intake = s.intake) ∧
    ∀ cust bus, t { s with cust := cust, bus := bus } = { t s with cust := cust, bus := bus }

/-- The view becomes SILENT, and the return walk meets it so. -/
theorem Stn.setView_silentCounted {t : Stn → Stn} (leaves : LeavesMapAndBus t) (empty : s.bus.outbox = [])
    (peer : p ≠ s.self) (entry : s.entry? p = some e) (up : e.view.down = false) (none : NoneFailed s)
    (returns : (s.fallenSilent p).viewReturn .atOnce p e.view .silent false = t (s.fallenSilent p)) :
    (s.silentCounted p).setView .atOnce p .silent false = (t s).fallenSilent p := by
  have view : (s.silentCounted p).view p = e.view :=
    (Stn.view_mapped (f := fun e => { e with silent := satInc8 e.silent }) (fun _ => rfl) (fun _ => rfl) p).trans
      (Stn.view_of_entry peer entry)
  have other : (s.silentCounted p).view p ≠ .silent := by
    rw [view]
    intro silent
    rw [silent] at up
    cases up
  have notes : (s.fallenSilent p).viewNotes p .silent = s.fallenSilent p :=
    Stn.viewNotes_of_empty (s := s.fallenSilent p) empty (v := .silent) nofun p
  obtain ⟨⟨ctl, -⟩, changes⟩ := leaves (s.fallenSilent p)
  have same : t (s.fallenSilent p) = (t s).fallenSilent p := by
    obtain ⟨-, changes⟩ := leaves s
    have known : (t s).bus = s.bus ∧ (t s).cust = s.cust := by
      have self := changes s.cust s.bus
      exact ⟨congrArg (·.bus) self, congrArg (·.cust) self⟩
    refine (changes (s.fallenSilent p).cust s.bus).trans ?_
    simp only [Stn.fallenSilent, known.1, known.2]
  have cust : (t (s.fallenSilent p)).cust = (s.fallenSilent p).cust :=
    congrArg (·.cust) (changes (s.fallenSilent p).cust (s.fallenSilent p).bus)
  have still : NoDoubleFailure (t (s.fallenSilent p)) := (none.fallenSilent peer entry).of_same ctl cust
  rw [Stn.setView, if_neg other, Stn.changeView_eq other, Stn.silentCounted_viewed, notes, view, returns,
    Stn.viewBuddy_of_none (v := .silent) nofun nofun]
  simp only [reduceCtorEq, if_false]
  rw [Stn.doubleFailure_of_none still, same]

theorem Stn.viewReturn_of_waiting (ward : p = s.ward) (waiting : s.subs.ret = .waiting) (w : Places) (old : View) :
    s.viewReturn w p old .silent false = { s with subs.ret := .idle } := by
  have down : View.silent.down = true := rfl
  simp only [Stn.viewReturn, if_pos ward, down, if_true, waiting]

/-- The station whose return walk is aborted, its records freed (R56). -/
def Stn.unreturned (s : Stn) : Stn :=
  Stn.released { s with subs := { s.subs with
    active := s.subs.active.map fun r => { r with returning := false }
    ret := .idle } }

theorem Stn.viewReturn_of_running (empty : s.bus.outbox = []) (ward : p = s.ward) {phase : ReturnPhase} {pos : Option Nat}
    (walks : s.subs.ret = .running phase pos) (w : Places) (old : View) :
    s.viewReturn w p old .silent false = s.unreturned := by
  have down : View.silent.down = true := rfl
  have cleared : s.clearReturnWalk = { s with subs := { s.subs with
      active := s.subs.active.map fun r => { r with returning := false }
      ret := .idle } } := by
    rw [Stn.clearReturnWalk, empty, List.filter_nil, ← empty]
  simp only [Stn.viewReturn, if_pos ward, down, if_true, walks, Stn.abortReturn, Stn.releaseGrant_eq, cleared]
  rfl

theorem leavesMapAndBus_unreturned : LeavesMapAndBus Stn.unreturned := by
  intro s
  refine ⟨⟨(Stn.released_frame _).1, (Stn.released_frame _).2.1⟩, fun cust bus => ?_⟩
  simp only [Stn.unreturned, Stn.released]
  split <;> rfl

end

/-- Settles O47: the last count of the row, and of a NOTHING reading, by what the view's change makes of the return
walk. -/
theorem silenceMakesThePeerSilent : Obligations.SilenceMakesThePeerSilent := by
  unfold Obligations.SilenceMakesThePeerSilent
  intro s p e peer entry up last empty waiting none silent ends
  have counts : s.stn.img.silence ≤ e.silent.toNat + 1 := by
    refine last.trans ?_
    unfold satInc8
    split
    · exact Nat.le_succ _
    · rw [BitVec.toNat_add]
      exact Nat.mod_le _ _
  have does {t : Stn → Stn} (leaves : LeavesMapAndBus t) (returns : ∀ u : Stn, u.ctl = s.stn.ctl → u.subs = s.stn.subs →
      u.bus.outbox = [] → u.viewReturn .atOnce p e.view .silent false = t u) : ends t := by
    refine ⟨?_, fun r opens => ?_⟩
    · have row : exec (.silentView p) s = .next { s with
          stn := ((s.stn.silentCounted p).setView .atOnce p .silent false).settledFrom s.stn } := by
        have test : p ≠ s.stn.self ∧ e.view.down = false ∧ s.stn.img.silence ≤ e.silent.toNat + 1 := ⟨peer, up, counts⟩
        show execSilentView p s = _
        simp only [execSilentView, entry, if_pos test]
        exact congrArg (fun u => Host.Outcome.next { s with stn := (u.setView .atOnce p .silent false).settledFrom s.stn })
          (s.stn.updEntry_eq_withEntry p fun e => { e with silent := satInc8 e.silent })
      have change := Stn.setView_silentCounted leaves empty peer entry up none
        (returns (s.stn.fallenSilent p) rfl rfl empty)
      obtain ⟨⟨-, intake⟩, changes⟩ := leaves s.stn
      have bus : (t s.stn).bus = s.stn.bus := congrArg (·.bus) (changes s.stn.cust s.stn.bus)
      rw [row, change, Stn.settledFrom_of_le (s := (t s.stn).fallenSilent p)]
      · rfl
      · rw [show ((t s.stn).fallenSilent p).intake = (t s.stn).intake from rfl, intake, waiting]
      · rw [empty]
        exact Nat.zero_le _
    · intro lost
      let l := lost.passWindow r
      obtain ⟨ctl, lostIntake, -, subs, -, bus, cust⟩ : lost.ctl = s.stn.ctl ∧ _ := s.stn.windowLost_frame r e.view.heard
      have same : ({ l with ctl := s.stn.ctl, cust := s.stn.cust } : Stn) = l := by rw [← ctl, ← cust]; rfl
      have entryL : l.entry? p = some e := by rw [← same]; exact entry
      have peerL : p ≠ l.self := by rw [← same]; exact peer
      have noneL : NoneFailed l := by rw [← same]; exact none
      have lastL : l.img.silence ≤ (satInc8 e.silent).toNat := by rw [← same]; exact last
      have emptyL : l.bus.outbox = [] := (congrArg Bus.outbox bus).trans empty
      have change := Stn.setView_silentCounted leaves emptyL peerL entryL up noneL
        (returns (l.fallenSilent p) ctl subs emptyL)
      obtain ⟨⟨-, intake⟩, changes⟩ := leaves lost
      have moved : t l = { t lost with bus := l.bus } := changes lost.cust l.bus |>.trans (by
        rw [show lost.cust = (t lost).cust from (congrArg (·.cust) (changes lost.cust lost.bus)).symm])
      have kept : (t lost).bus = lost.bus := congrArg (·.bus) (changes lost.cust lost.bus)
      rw [exec_windowReading_nothing opens peer entry]
      show Host.Outcome.next { s with stn := ((l.readNothing p).resolve p).settledFrom s.stn } = _
      rw [Stn.readNothing_eq peerL entryL, if_pos ⟨lastL, up⟩, change, moved,
        Stn.resolve_of_none (s := ({ t lost with bus := l.bus } : Stn).fallenSilent p), Stn.settledFrom_of_le]
      · simp only [silent, kept]
        rfl
      · exact (congrArg Intake.waiting (intake.trans lostIntake)).trans waiting
      · rw [empty]
        exact Nat.zero_le _
      · rw [show (({ t lost with bus := l.bus } : Stn).fallenSilent p).bus.outbox = [] from emptyL]
        exact fun _ mem => nomatch mem
  refine ⟨fun noReturn => ?_, fun ward waits => ?_, fun phase pos ward walks => ?_⟩
  · refine does (t := id) (fun _ => ⟨⟨rfl, rfl⟩, fun _ _ => rfl⟩) fun u ctl subs _ => ?_
    obtain other | idle := noReturn
    · refine Stn.viewReturn_of_other ?_ _ _ _
      rw [show u.ward = s.stn.ward by rw [Stn.ward, Stn.img, Stn.self, ctl]; rfl]
      exact other
    · exact Stn.viewReturn_of_down rfl (subs ▸ idle) _ _ _
  · refine does (t := fun u => { u with subs.ret := .idle }) (fun _ => ⟨⟨rfl, rfl⟩, fun _ _ => rfl⟩)
      fun u ctl subs _ => Stn.viewReturn_of_waiting ?_ (subs ▸ waits) _ _
    rw [ward, Stn.ward, Stn.ward, Stn.img, Stn.self, Stn.img, Stn.self, ctl]
  · refine does leavesMapAndBus_unreturned fun u ctl subs none => Stn.viewReturn_of_running none ?_ (subs ▸ walks) _ _
    rw [ward, Stn.ward, Stn.ward, Stn.img, Stn.self, Stn.img, Stn.self, ctl]

end Sys2Proof.Machine
end


section
/-!
RESULT. A note without its take: due again, or failed (R26, R27, R32).
-/

namespace Sys2Proof.Machine

section
variable {s : Stn} {p : Station} {x : NoteSerial} {n : Note} {older younger : List Note}

/-! ### The notes that no walk's abort takes along -/

theorem Note.receiptLost_of_not_forward (other : n.body.isForward = false) : n.receiptLost = false := by
  unfold Note.receiptLost
  split
  · rw [other, Bool.and_false]
  · rfl

theorem Note.receiptLost_of_not_stale (fresh : n.stale = false) : n.receiptLost = false := by
  unfold Note.receiptLost
  split
  · rw [fresh]
    rfl
  · rfl

theorem Note.receiptLost_iff : n.receiptLost = true ↔ (∃ h, n.route = .receipt h) ∧ n.stale = true ∧ n.body.isForward = true := by
  unfold Note.receiptLost
  cases n.route <;> simp

theorem Note.forwardTag?_eq_none_iff : n.forwardTag? = none ↔ n.body.isForward = false := by
  unfold Note.forwardTag? NoteBody.isForward
  cases n.body <;> simp

/-! ### The end of a window for one note (R26, R27) -/

/-- The station that has counted the failure of a note and removed it. -/
def Stn.noteFailed (s : Stn) (rest : List Note) : Stn :=
  { s with bus := { s.bus with outbox := rest, failed := satInc s.bus.failed } }

section
variable (outbox : s.bus.outbox = older ++ n :: younger) (dest : n.dest = p) (serial : n.serial = some x)
  (others : ∀ o ∈ older ++ younger, ¬(o.dest = p ∧ o.serial = some x)) (waits : n.awaiting = true)
include outbox dest serial others waits

theorem Stn.resolveOne_of_failed (last : 8 ≤ n.sends) (kept : n.receiptLost = false) :
    s.resolveOne p x = s.failNote p x n.body := by
  have found : s.bus.outbox.find? (isNote p x) = some n := by rw [outbox, find?_isNote dest serial others]
  simp only [Stn.resolveOne, found, waits, if_true]
  exact if_pos ⟨last, kept⟩

theorem Stn.resolveOne_of_due (again : n.sends < 8 ∨ n.receiptLost = true) : s.resolveOne p x = s.dueNote p x n := by
  have found : s.bus.outbox.find? (isNote p x) = some n := by rw [outbox, find?_isNote dest serial others]
  simp only [Stn.resolveOne, found, waits, if_true]
  refine if_neg fun ⟨last, kept⟩ => ?_
  obtain few | lost := again
  · exact absurd last (Nat.not_le.2 few)
  · rw [kept] at lost
    cases lost

omit waits in
theorem Stn.failNote_removed : ({ s.removeNote p x with bus.failed := satInc s.bus.failed } : Stn) =
    s.noteFailed (older ++ younger) := by
  simp only [Stn.removeNote, outbox, filter_isNote dest serial others]
  rfl

omit outbox in
/-- The row of NOTE_FAILURE, for a note that awaits its take and has been sent eight times. -/
theorem exec_noteFailure_of_last {t : State} (outbox : t.stn.bus.outbox = older ++ n :: younger) (last : 8 ≤ n.sends) :
    exec (.noteFailure p x) t = .next { t with stn := (t.stn.resolveOne p x).settledFrom t.stn } := by
  have found : t.stn.bus.outbox.find? (isNote p x) = some n := by rw [outbox, find?_isNote dest serial others]
  show execNoteFailure p x t = _
  simp only [execNoteFailure, found]
  exact congrArg Host.Outcome.next (if_pos ⟨waits, last⟩)

end

/-- The entries that wait in SENDING have their FORWARDs still. -/
theorem NoEntryWaits.of_kept {u : Stn} (noneWaits : NoEntryWaits s)
    (pend : ∀ e ∈ u.req.pend, e.state = .sending → e ∈ s.req.pend)
    (notes : ∀ e ∈ u.req.pend, ∀ o ∈ s.bus.outbox, o.forwardTag? = some e.tag →
      ∃ o ∈ u.bus.outbox, o.forwardTag? = some e.tag) : NoEntryWaits u := by
  intro e mem sending
  obtain ⟨o, there, held⟩ := noneWaits e (pend e mem sending) sending
  exact notes e mem o there held

/-- A note that is no FORWARD goes, and others that are none. -/
theorem NoEntryWaits.of_noteGone {u : Stn} (noneWaits : NoEntryWaits s) (outbox : s.bus.outbox = older ++ n :: younger)
    (other : n.forwardTag? = none) (pend : u.req.pend = s.req.pend)
    (kept : ∀ o ∈ older ++ younger, o.forwardTag? ≠ none → o ∈ u.bus.outbox) : NoEntryWaits u := by
  refine noneWaits.of_kept (fun e mem _ => pend ▸ mem) fun e _ o there held => ⟨o, kept o ?_ ?_, held⟩
  · rw [outbox] at there
    obtain rfl | elsewhere := List.mem_cons.1 (List.perm_middle.mem_iff.1 there)
    · rw [other] at held
      cases held
    · exact elsewhere
  · rw [held]
    nofun

/-! ### The notes of one walk (R26, R56, R58) -/

theorem NoteBody.isForward_of_isReturn {body : NoteBody} (ret : body.isReturn = true) : body.isForward = false := by
  cases body <;> simp [NoteBody.isReturn, NoteBody.isForward] at ret ⊢

theorem Stn.failNote_of_return {t : Stn} {body : NoteBody} (ret : body.isReturn = true) : t.failNote p x body =
    { ({ t.removeNote p x with bus.failed := satInc t.bus.failed } : Stn).abortReturn with
      cust.retryDelay := some Config.retryRounds } := by
  cases body <;> simp only [NoteBody.isReturn, Bool.false_eq_true] at ret <;> rfl

theorem Stn.failNote_of_mirror {t : Stn} {body : NoteBody} (mirror : body.isMirror = true) : t.failNote p x body =
    ({ t.removeNote p x with bus.failed := satInc t.bus.failed } : Stn).mirrorToRestart := by
  cases body <;> simp only [NoteBody.isMirror, Bool.false_eq_true] at mirror <;> rfl

/-- A failed RETURN aborts the running return walk, whose retry waits 16 rounds. -/
theorem Stn.failReturn_eq {t : Stn} {phase : ReturnPhase} {pos : Option Nat} (walks : t.subs.ret = .running phase pos) :
    ({ t.abortReturn with cust.retryDelay := some Config.retryRounds } : Stn) = Stn.released { t with
      bus.outbox := t.bus.outbox.filter fun o => decide (o.walk ≠ .ret)
      subs := { t.subs with
        active := t.subs.active.map fun r => { r with returning := false }
        ret := .idle }
      cust.retryDelay := some 16 } := by
  simp only [Stn.abortReturn, walks, Stn.releaseGrant_eq, Stn.clearReturnWalk, Stn.released]
  cases t.bill.pendingClose <;> rfl

/-! ### The only note of the outbox is due again (R26, R33) -/

section
variable {u : Stn} (only : u.bus.outbox = [n]) (dest : n.dest = p) (serial : n.serial = some x)
include only dest serial

theorem Stn.resolve_of_only (waits : n.awaiting = true) : u.resolve p = u.resolveOne p x := by
  have all : u.awaitingTo p = [x] := by simp [Stn.awaitingTo, only, dest, waits, serial]
  rw [Stn.resolve, all]
  rfl

theorem Stn.dueNote_of_other (other : n.forwardTag? = none) :
    u.dueNote p x n = { u with bus.outbox := [{ n with awaiting := false }] } := by
  have due : updWhere (isNote p x) (fun o => { o with awaiting := false }) u.bus.outbox = [{ n with awaiting := false }] := by
    rw [only]
    exact congrArg (fun o => [o]) (if_pos ((isNote_iff p x n).2 ⟨dest, serial⟩))
  simp only [Stn.dueNote, due]
  split
  next body => simp [Note.forwardTag?, body] at other
  next => rfl

theorem Stn.dueNote_of_forward (forward : n.forwardTag? ≠ none) (fresh : n.stale = false) : u.dueNote p x n =
    { u with bus.outbox := [{ n with
      awaiting := false
      held := decide (u.view p = .silent ∨ u.view p = .foreign) }] } := by
  have due : updWhere (isNote p x) (fun o => { o with awaiting := false }) u.bus.outbox = [{ n with awaiting := false }] := by
    rw [only]
    exact congrArg (fun o => [o]) (if_pos ((isNote_iff p x n).2 ⟨dest, serial⟩))
  simp only [Stn.dueNote, due]
  split
  next tag text body =>
    have own : isForwardOf tag { n with awaiting := false } = true := by simp [isForwardOf, body]
    refine (if_neg (by rw [fresh]; nofun)).trans ?_
    exact congrArg (fun o => ({ u with bus.outbox := [o] } : Stn)) (if_pos own)
  next other =>
    obtain ⟨tag, some⟩ := Option.ne_none_iff_exists'.1 forward
    unfold Note.forwardTag? at some
    split at some
    next tag text body => exact absurd body (other tag text)
    next => cases some

end

/-- The FORWARD of a lost receipt goes uncounted, and answers UNKNOWN RECEIPT. -/
theorem Stn.dueNote_of_receiptLost {tag : Tag} {text : List Byte} (outbox : s.bus.outbox = older ++ n :: younger)
    (others : ∀ o ∈ older ++ younger, ¬(o.dest = p ∧ o.serial = some x))
    (body : n.body = .forward tag text) (lost : n.receiptLost = true)
    (single : ∀ o ∈ older ++ younger, o.forwardTag? ≠ some tag) :
    s.dueNote p x n = ({ s with bus.outbox := older ++ younger } : Stn).finish tag (str "X/UNKNOWN RECEIPT") := by
  obtain ⟨⟨h, route⟩, stale, -⟩ := Note.receiptLost_iff.1 lost
  have kept : (updWhere (isNote p x) (fun n => { n with awaiting := false }) s.bus.outbox).filter
      (fun o => !isForwardOf tag o) = older ++ younger := by
    have same : ∀ l : List Note, (∀ o ∈ l, o ∈ older ++ younger) →
        (updWhere (isNote p x) (fun n => { n with awaiting := false }) l).filter (fun o => !isForwardOf tag o) = l := by
      intro l inside
      rw [updWhere_of_none fun o mem => Bool.eq_false_iff.2 (mt (isNote_iff p x o).1 (others o (inside o mem))),
        List.filter_eq_self]
      intro o mem
      rw [Bool.not_eq_true', ← Bool.not_eq_true, isForwardOf_iff]
      exact single o (inside o mem)
    have own : isForwardOf tag (if isNote p x n = true then { n with awaiting := false } else n) = true := by
      split <;> simp [isForwardOf, body]
    rw [outbox, updWhere, List.map_append, List.filter_append, List.map_cons, List.filter_cons_of_neg (by simp [own])]
    exact congrArg₂ (· ++ ·) (same older fun o => List.mem_append_left _) (same younger fun o => List.mem_append_right _)
  simp only [Stn.dueNote, body, Stn.dueForward, stale, if_true, route, Stn.dropForward, kept]
  rfl

end

/-- Settles O48: the end of a NOTHING window for the one note of the outbox, and NOTE_FAILURE by the note's body. -/
theorem notesWithoutTheirTakeAreResentOrFail : Obligations.NotesWithoutTheirTakeAreResentOrFail := by
  unfold Obligations.NotesWithoutTheirTakeAreResentOrFail
  intro s p x n waiting dest serial waits noneWaits
  refine ⟨fun r e opens peer entry only keeps fresh => ?_, fun older younger outbox last others => ?_⟩
  · intro lost read
    let l := lost.passWindow r
    let u := l.silentCounted p
    obtain ⟨ctl, intake, req, -, -, bus, cust⟩ : lost.ctl = s.stn.ctl ∧ lost.intake = s.stn.intake ∧
        lost.req = s.stn.req ∧ lost.subs = s.stn.subs ∧ lost.bill = s.stn.bill ∧ lost.bus = s.stn.bus ∧
        lost.cust = s.stn.cust := s.stn.windowLost_frame r e.view.heard
    have onlyU : u.bus.outbox = [n] := (congrArg Bus.outbox bus).trans only
    have same : ({ l with ctl := s.stn.ctl, cust := s.stn.cust } : Stn) = l := by rw [← ctl, ← cust]; rfl
    have entryL : l.entry? p = some e := by rw [← same]; exact entry
    have peerL : p ≠ l.self := by rw [← same]; exact peer
    have few : ¬(l.img.silence ≤ (satInc8 e.silent).toNat ∧ e.view.down = false) := by
      rw [← same]
      rintro ⟨reached, up⟩
      obtain below | down := keeps
      · exact absurd reached (Nat.not_le.2 below)
      · rw [up] at down
        cases down
    have row : exec (.windowReading p []) s = .next { s with stn := (u.resolveOne p x).settledFrom s.stn } := by
      rw [exec_windowReading_nothing opens peer entry]
      show Host.Outcome.next { s with stn := ((l.readNothing p).resolve p).settledFrom s.stn } = _
      rw [Stn.readNothing_eq peerL entryL, if_neg few, Stn.resolve_of_only onlyU dest serial waits]
    have due : n.sends < 8 → u.resolveOne p x = u.dueNote p x n := fun again =>
      Stn.resolveOne_of_due (older := []) (younger := []) onlyU dest serial (fun _ mem => nomatch mem) waits (.inl again)
    have settles (outbox : List Note) (failed : Count) {v : Stn} (does : u.resolveOne p x = v)
        (is : v = { u with bus := { u.bus with outbox := outbox, failed := failed } }) (none : NoEntryWaits v) :
        exec (.windowReading p []) s = .next (read outbox failed) := by
      subst is
      rw [row, does, Stn.settledFrom_of_none (s := { u with bus := { u.bus with outbox := outbox, failed := failed } })
        ((congrArg Intake.waiting intake).trans waiting) none]
      simp only [u, l, Stn.silentCounted, Stn.mapped, Stn.passWindow, bus, cust]
      rfl
    have pendU : u.req.pend = s.stn.req.pend := congrArg Requests.pend req
    have failedU : u.bus.failed = s.stn.bus.failed := by
      show lost.bus.failed = _
      rw [bus]
    have kept (m : Note) (tag : m.forwardTag? = n.forwardTag?) : NoEntryWaits { u with bus.outbox := [m] } := by
      refine noneWaits.of_kept (fun e mem _ => pendU ▸ mem) fun e _ o there held => ⟨m, List.mem_singleton_self m, ?_⟩
      rw [only, List.mem_singleton] at there
      rw [tag, ← there, held]
    refine ⟨fun again other => ?_, fun again forward => ?_, fun last ⟨tag, res, answer⟩ => ?_⟩
    · exact settles _ _ ((due again).trans (Stn.dueNote_of_other onlyU dest serial other)) (by rw [← failedU]) (kept _ rfl)
    · have view : u.view p = e.view :=
        (Stn.view_mapped (f := fun e => { e with silent := satInc8 e.silent }) (fun _ => rfl) (fun _ => rfl) p).trans
          (Stn.view_of_entry peerL entryL)
      rw [← view]
      exact settles _ _ ((due again).trans (Stn.dueNote_of_forward onlyU dest serial forward fresh)) (by rw [← failedU])
        (kept _ rfl)
    · have fails : u.resolveOne p x = u.noteFailed [] := by
        rw [Stn.resolveOne_of_failed (older := []) (younger := []) onlyU dest serial (fun _ mem => nomatch mem) waits last
          (n.receiptLost_of_not_stale fresh), answer]
        exact Stn.failNote_removed (older := []) (younger := []) onlyU dest serial fun _ mem => nomatch mem
      refine settles _ _ fails (by rw [← failedU]; rfl) fun e mem sending => ?_
      exact absurd sending (noneWaits.none_sending only (by simp [Note.forwardTag?, answer]) e (pendU ▸ mem))
  · intro i rest failed gone
    have row : exec i s = .next { s with stn := (s.stn.resolveOne p x).settledFrom s.stn } :=
      exec_noteFailure_of_last dest serial others waits outbox last
    have fails (kept : n.receiptLost = false) : s.stn.resolveOne p x = s.stn.failNote p x n.body :=
      Stn.resolveOne_of_failed outbox dest serial others waits last kept
    have removed : ({ s.stn.removeNote p x with bus.failed := satInc s.stn.bus.failed } : Stn) = s.stn.noteFailed rest :=
      Stn.failNote_removed outbox dest serial others
    have settles {t u : Stn} (does : s.stn.resolveOne p x = t) (same : t = u) (intake : u.intake.waiting = s.stn.intake.waiting)
        (none : NoEntryWaits u) : exec i s = .next { s with stn := u } := by
      rw [row, does, same, Stn.settledFrom_of_none (s := u) (by rw [intake, waiting]) none]
    have ofOther (other : n.forwardTag? = none) : n.receiptLost = false :=
      n.receiptLost_of_not_forward (Note.forwardTag?_eq_none_iff.1 other)
    have noneLeft (tag : Tag) (text : List Byte) (e : PendEntry) (forward : n.body = .forward tag text)
        (live : s.stn.pend? tag = some e) (u : Stn) (bus : u.bus.outbox = rest)
        (pend : u.req.pend = s.stn.req.pend.filter fun x => decide (x.tag ≠ e.tag))
        (single : ∀ o ∈ rest, o.forwardTag? ≠ some tag) : NoEntryWaits u := by
      have own : n.forwardTag? = some tag := by simp [Note.forwardTag?, forward]
      refine noneWaits.of_dropped (tag := tag) ?_ fun w mem _ => ?_
      · have others : rest.filter (fun o => decide (o.forwardTag? ≠ some tag)) = rest :=
          List.filter_eq_self.2 fun o mem => decide_eq_true (single o mem)
        rw [List.filter_append] at others
        rw [bus, outbox, List.filter_append, List.filter_cons_of_neg (by simp [own]), others]
      · rw [pend, List.mem_filter, decide_eq_true_eq, Stn.pend?_tag live] at mem
        exact mem
    refine ⟨fun tag res answer => ?_, fun tag text e forward live order fits single => ⟨fun kept => ?_, fun lost => ?_⟩,
      fun phase pos ret walks tagged => ?_, fun pos first ended mirror walks => ?_, fun mirror quiet => ?_⟩
    · have other : n.forwardTag? = none := by simp [Note.forwardTag?, answer]
      refine settles (fails (ofOther other)) (u := s.stn.noteFailed rest) ?_ rfl
        (noneWaits.of_noteGone outbox other rfl fun o mem _ => mem)
      rw [answer]
      exact removed
    · refine settles (fails kept) (u := (s.stn.noteFailed rest).finished e (str "X/OFFICE BUSY")) ?_ rfl
        (noneLeft tag text e forward live _ rfl rfl single)
      rw [forward]
      refine (congrArg (Stn.finish · tag (refusal .officeBusy)) removed).trans ?_
      exact Stn.finish_of_room (s := s.stn.noteFailed rest) live fits order _
    · refine settles (Stn.resolveOne_of_due outbox dest serial others waits (.inr lost))
        (u := ({ s.stn with bus.outbox := rest } : Stn).finished e (str "X/UNKNOWN RECEIPT")) ?_ rfl
        (noneLeft tag text e forward live _ rfl rfl single)
      rw [Stn.dueNote_of_receiptLost outbox others forward lost single]
      exact Stn.finish_of_room (s := { s.stn with bus.outbox := rest }) live fits order _
    · have other : n.forwardTag? = none := Note.forwardTag?_eq_none_iff.2 (NoteBody.isForward_of_isReturn ret)
      refine settles (fails (ofOther other)) ((Stn.failNote_of_return ret).trans ?_)
        (congrArg Intake.waiting (Stn.released_frame _).2.1)
        (noneWaits.of_noteGone outbox other (congrArg Requests.pend (Stn.released_frame _).2.2.1) ?_)
      · rw [removed, Stn.failReturn_eq (t := s.stn.noteFailed rest) walks]
        rfl
      · intro o mem forward
        rw [(Stn.released_frame _).2.2.2.1]
        exact List.mem_filter.2 ⟨mem, decide_eq_true (tagged o mem forward)⟩
    · have other : n.forwardTag? = none := Note.forwardTag?_of_isMirror mirror
      refine settles (fails (ofOther other)) ((Stn.failNote_of_mirror mirror).trans ?_) rfl
        (noneWaits.of_noteGone outbox other rfl fun o mem forward => List.mem_filter.2 ⟨mem, ?_⟩)
      · rw [removed]
        exact Stn.mirrorToRestart_of_running (s := s.stn.noteFailed rest) walks
      · rw [Bool.not_eq_true', ← Bool.not_eq_true]
        exact mt Note.forwardTag?_of_isMirror forward
    · have other : n.forwardTag? = none := Note.forwardTag?_of_isMirror mirror
      refine settles (fails (ofOther other)) ((Stn.failNote_of_mirror mirror).trans ?_) rfl
        (noneWaits.of_noteGone outbox other rfl fun o mem _ => mem)
      rw [removed]
      exact Stn.mirrorToRestart_of_not_running (s := s.stn.noteFailed rest) quiet

end Sys2Proof.Machine
end


section
/-!
RESULT. What a LIVE frame of a peer starts: the mirror walk and the drain walk (R58, R177, R178).
-/

namespace Sys2Proof.Machine

section
variable {s : Stn} {r : RoundPos} {p k : Station} {f : RoundFrame}

/-! ### The buddy becomes LIVE (R38, R58) -/

/-- The outbox holds no note but those of the mirror walk that runs. -/
def Stn.MirrorsAlone (s : Stn) : Prop :=
  s.bus.outbox = [] ∨ (∀ n ∈ s.bus.outbox, n.body.isMirror = true) ∧
    ∃ pos first ended, s.subs.mirror = .running pos first ended

/-- The mirror walk starts, afresh where it runs. -/
theorem Stn.startMirror_of_alone (alone : s.MirrorsAlone) : s.startMirror = { s.mirrored with bus.outbox := [] } := by
  obtain empty | ⟨mirrors, pos, first, ended, runs⟩ := alone
  · rw [Stn.startMirror_of_empty empty, ← empty]
    rfl
  · have none : s.bus.outbox.filter (fun n => !n.body.isMirror) = [] :=
      List.filter_eq_nil_iff.2 fun n mem => by rw [mirrors n mem]; nofun
    simp only [Stn.startMirror, runs, none]
    rfl

theorem Stn.changeView_live_of_alone (alone : s.MirrorsAlone) (buddy : k = s.buddy) (state : s.cust.state = .live)
    (other : s.view k ≠ .live) (noReturn : k = s.ward → s.view k ≠ .silent ∧ s.view k ≠ .foreign) (w : Places)
    (episode : Bool) : s.changeView w k .live episode = { (s.viewed k .live).mirrored with bus.outbox := [] } := by
  have noForward : ∀ n ∈ s.bus.outbox, n.body.isForward = false := by
    obtain empty | ⟨mirrors, -⟩ := alone
    · rw [empty]
      exact fun _ mem => nomatch mem
    · exact fun n mem => Note.forwardTag?_eq_none_iff.1 (Note.forwardTag?_of_isMirror (mirrors n mem))
  have notes : (s.viewed k .live).viewNotes k .live = s.viewed k .live :=
    Stn.holdNotes_of_noForward (s := s.viewed k .live) noForward k .live
  have returns : (s.viewed k .live).viewReturn w k (s.view k) .live episode = s.viewed k .live := by
    by_cases ward : k = s.ward
    · exact Stn.viewReturn_of_heard rfl (noReturn ward) w episode
    · exact Stn.viewReturn_of_other (s := s.viewed k .live) ward w _ _
  rw [Stn.changeView_eq other, notes, returns, ← Stn.startMirror_of_alone (s := s.viewed k .live) alone]
  exact (if_pos (show k = (s.viewed k .live).buddy from buddy)).trans (if_pos ⟨rfl, state⟩)

/-- With its view LIVE, and no other station down, no double failure is due. -/
theorem OthersUp.viewed (up : OthersUp s [k]) (peer : k ≠ s.self) (entry : (s.entry? k).isSome = true) :
    NoDoubleFailure (s.viewed k .live) := by
  refine OthersUp.noDoubleFailure (down := []) (fun j there own _ => ?_) fun _ mem => nomatch mem
  by_cases here : j = k
  · rw [here, Stn.view_viewed_same peer entry]
    rfl
  · rw [Stn.view_viewed_of_ne here]
    exact up j there own (by simpa using here)

theorem Stn.validView_of_other (live : f.state = .live) (notFailed : s.view p ≠ .failed) :
    s.validView p f false = (s.mapped p (MapEntry.heardIn f)).setView .atEnd p .live false := by
  have updated : s.updEntry p (fun e => { e with silent := 0, silence := f.silence }) =
      s.mapped p (MapEntry.heardIn f) := s.updEntry_eq_withEntry p _
  unfold Stn.validView
  simp only [updated, live]
  exact if_neg (by rw [s.view_heardIn p p f]; exact notFailed)

theorem Stn.setView_live_of_alone (alone : s.MirrorsAlone) (buddy : k = s.buddy) (state : s.cust.state = .live)
    (other : s.view k ≠ .live) (noReturn : k = s.ward → s.view k ≠ .silent ∧ s.view k ≠ .foreign) (up : OthersUp s [k])
    (peer : k ≠ s.self) (entry : (s.entry? k).isSome = true) (w : Places) :
    s.setView w k .live false = { (s.viewed k .live).mirrored with bus.outbox := [] } := by
  rw [Stn.setView, if_neg other, Stn.changeView_live_of_alone alone buddy state other noReturn]
  exact Stn.doubleFailure_of_none (s := { (s.viewed k .live).mirrored with bus.outbox := [] }) (up.viewed peer entry) w

/-! ### A later period (R177, R178) -/

theorem Stn.followPeriod_of_nobody (grant : s.subs.grant = .nobody) (q : Period) : s.followPeriod q = { s with
    bill := { s.bill with period := q, forming := [], pause := .none }
    subs := { s.subs with grant := .drain, drain := .running none } } := by
  rw [Stn.followPeriod, grant]
  rfl

theorem Stn.followPeriod_of_granted (grant : s.subs.grant ≠ .nobody) (q : Period) :
    s.followPeriod q = { s with bill.pendingClose := some (laterOf s.bill.pendingClose q) } := by
  unfold Stn.followPeriod
  split
  next is => exact absurd is grant
  next => rfl

/-- The row of a frame of a later period that keeps the map. -/
theorem exec_windowReading_of_later {s : State} {heard : List Byte} {v : Stn} (hears : Hears s.stn r p heard f)
    (takes : f.takes = []) (notes : f.notes = []) (keeps : KeepsTheMap s.stn p f)
    (sent : ∀ n ∈ s.stn.bus.outbox, n.dest = p → n.awaiting = false)
    (bills : ((s.stn.passWindow r).claimsKept p r f |>.listens p f).billingPart p f = v)
    (bus : v.bus = (s.stn.heard p r f).bus) (intake : v.intake = s.stn.intake) :
    exec (.windowReading p heard) s = .next { s with stn := v } := by
  have custody : ((s.stn.passWindow r).claimsKept p r f).custodyPart p f =
      ((s.stn.passWindow r).claimsKept p r f).listens p f := Stn.custodyPart_of_keeps keeps
  have valid : (s.stn.passWindow r).validFrame p r f = v := by
    unfold Stn.validFrame
    rw [Stn.clearMemory_of_live keeps.1]
    simp only [takes, notes, List.foldl_nil]
    rw [Stn.peerClaimsRead_eq, custody, bills]
  have outbox : v.bus.outbox = s.stn.bus.outbox := by rw [bus]; rfl
  rw [exec_windowReading_valid hears, valid, Stn.resolve_of_none (by rw [outbox]; exact sent),
    Stn.settledFrom_of_le ((congrArg Intake.waiting intake).trans hears.2.2.1) (by rw [outbox])]

end

/-- The station that has heard its buddy become LIVE. -/
def Stn.buddyLive (s : Stn) (p : Station) (r : RoundPos) (f : RoundFrame) : Stn :=
  { ((s.hearing p r f).viewed p .live).mirrored with bus.outbox := [] }

theorem Stn.ctl_buddyLive (s : Stn) (p : Station) (r : RoundPos) (f : RoundFrame) : (s.buddyLive p r f).ctl = s.ctl := by
  simp only [Stn.buddyLive, Stn.mirrored, Stn.viewed, Stn.mapped, Stn.hearing, Stn.claimsKept, Stn.passWindow]

theorem Stn.roster_of_ctl {s t : Stn} (ctl : t.ctl = s.ctl) : t.roster = s.roster := by
  rw [Stn.roster, Stn.roster, Stn.img, Stn.img, ctl]

theorem Stn.buddy_of_ctl {s t : Stn} (ctl : t.ctl = s.ctl) : t.buddy = s.buddy := by
  rw [Stn.buddy, Stn.buddy, Stn.img, Stn.self, Stn.img, Stn.self, ctl]

theorem Stn.ward_of_ctl {s t : Stn} (ctl : t.ctl = s.ctl) : t.ward = s.ward := by
  rw [Stn.ward, Stn.ward, Stn.img, Stn.self, Stn.img, Stn.self, ctl]

/-- The row of a frame by which the buddy becomes LIVE. -/
theorem exec_windowReading_of_liveBuddy {s : State} {r : RoundPos} {p : Station} {f : RoundFrame} {heard : List Byte}
    (hears : Hears s.stn r p heard f) (lists : BringsLists s.stn f) (live : f.state = .live) (noCustody : f.custody = 0)
    (buddy : p = s.stn.buddy) (state : s.stn.cust.state = .live) (other : s.stn.view p ≠ .live)
    (notFailed : s.stn.view p ≠ .failed) (noReturn : p = s.stn.ward → (s.stn.view p).heard = true)
    (held : (s.stn.custodian p).isSome = true) (pend : s.stn.req.pend = []) (noJoin : ∀ x, s.stn.cust.join ≠ .running x)
    (up : OthersUp s.stn [p]) (alone : HoldsNoneBut s.stn p p) (mirrors : s.stn.MirrorsAlone) :
    exec (.windowReading p heard) s = .next { s with stn := (s.stn.buddyLive p r f).closing p f } := by
  let h := s.stn.hearing p r f
  have peer : p ≠ s.stn.self := hears.2.1
  have view (k : Station) : h.view k = s.stn.view k := s.stn.view_hearing p r f k
  have entry : (h.entry? p).isSome = true := by
    rw [Stn.entry?_hearing, Option.isSome_map]
    exact Stn.entry?_of_view peer notFailed
  have changed : ((s.stn.passWindow r).claimsKept p r f).validView p f false = s.stn.buddyLive p r f := by
    rw [Stn.validView_of_other (s := (s.stn.passWindow r).claimsKept p r f) live notFailed]
    have rosterH : h.roster = s.stn.roster := Stn.roster_of_ctl rfl
    have upH : OthersUp h [p] := fun k there own apart => by
      rw [rosterH] at there
      rw [view]
      exact up k there own apart
    have buddyH : p = h.buddy := buddy.trans (Stn.buddy_of_ctl rfl).symm
    have wardH : p = h.ward → h.view p ≠ .silent ∧ h.view p ≠ .foreign := fun ward => by
      have isHeard := noReturn (ward.trans (Stn.ward_of_ctl rfl))
      rw [view]
      constructor <;> intro is <;> rw [is] at isHeard <;> cases isHeard
    have otherH : h.view p ≠ .live := by rw [view]; exact other
    exact Stn.setView_live_of_alone (s := h) mirrors buddyH state otherH wardH upH peer entry .atEnd
  have custodian (k : Station) : (s.stn.buddyLive p r f).custodian k = s.stn.custodian k :=
    (Stn.custodian_viewed (s := h) k).trans (s.stn.custodian_hearing p r f k)
  have unlisted (j : Station) : inSet f.custody j = false := by rw [noCustody]; simp [inSet]
  have noEpisode : s.stn.joiningEpisode p f.state = false := Stn.noEpisode_of_state (by rw [live]; nofun)
  have listed : (members f.custody).foldl (Stn.listed p) ((s.stn.buddyLive p r f).liveAgain p f.state) =
      s.stn.buddyLive p r f := by
    rw [noCustody, members_zero, List.foldl_nil]
    exact Stn.liveAgain_of_held fun _ => by rw [custodian]; exact held
  have roster : (s.stn.buddyLive p r f).roster = s.stn.roster :=
    Stn.roster_of_ctl (s.stn.ctl_buddyLive p r f)
  have kept : (s.stn.buddyLive p r f).dropped p f = s.stn.buddyLive p r f := by
    refine Stn.dropped_of_none fun j there apart _ => ?_
    rw [roster] at there
    rw [custodian]
    exact alone j there apart apart
  have parts := Stn.custodyPart_of_parts (s := (s.stn.passWindow r).claimsKept p r f) noEpisode noJoin changed listed
    (Stn.mustStandDown_of_unlisted (unlisted _)) kept
  have noNotes : (s.stn.buddyLive p r f).bus.outbox = [] := rfl
  have waiting : (s.stn.buddyLive p r f).intake.waiting = [] := hears.2.2.1
  refine exec_windowReading_of_custody hears lists noEpisode parts rfl (by rw [noNotes]; exact fun _ mem => nomatch mem)
    waiting fun e mem => ?_
  rw [show (s.stn.buddyLive p r f).req.pend = [] from pend] at mem
  cases mem

/-- Settles O46: the view's change to LIVE starts the mirror walk; the billing part of a frame that keeps the map
follows a later period. -/
theorem livePeersStartTheWalks : Obligations.LivePeersStartTheWalks := by
  unfold Obligations.LivePeersStartTheWalks
  intro s r p heard f hears takes notes i t
  refine ⟨fun live early noCustody buddy state other notFailed noReturn held pend noJoin up alone mirrors => ?_,
    fun keeps late sent => ?_⟩
  · have stands : (s.stn.buddyLive p r f).closing p f = { t with
        bus.outbox := [],
        subs.mirror := .running none true false,
        cust := t.cust.withEntry p fun e => { e with view := .live } } := by
      rw [show t = (s.stn.hearing p r f).closing p f from s.stn.heard_eq_closing p r f]
      simp only [Stn.closing, Stn.buddyLive, Stn.mirrored, Stn.viewed, Stn.mapped]
    rw [exec_windowReading_of_liveBuddy hears ⟨takes, notes, early⟩ live noCustody buddy state other notFailed noReturn held
      pend noJoin up alone mirrors, stands]
  · let b := ((s.stn.passWindow r).claimsKept p r f).listens p f
    have view : b.view p = .live := (Stn.view_heardIn ((s.stn.passWindow r).claimsKept p r f) p p f).trans keeps.2.1
    have ran {v : Stn} (bills : b.billingPart p f = v) (bus : v.bus = t.bus) (intake : v.intake = s.stn.intake) :
        exec i s = .next { s with stn := v } :=
      exec_windowReading_of_later hears takes notes keeps sent bills bus intake
    have follows (state : s.stn.cust.state ≠ .joining) : b.billingPart p f = t.followPeriod f.period :=
      if_pos ⟨state, keeps.1, (show b.view p ≠ .failed by rw [view]; nofun), late⟩
    refine ⟨fun joining => ran (if_neg fun both => both.1 joining) rfl rfl, fun state => ⟨fun grant => ?_, fun grant => ?_⟩⟩
    · exact ran ((follows state).trans (Stn.followPeriod_of_nobody (s := t) grant _)) rfl rfl
    · have pends := (follows state).trans (Stn.followPeriod_of_granted (s := t) grant _)
      refine ⟨fun noClose => ?_, fun q held => ?_⟩
      · have laterOf : laterOf t.bill.pendingClose f.period = f.period := by
          rw [show t.bill.pendingClose = none from noClose]
          rfl
        exact ran (pends.trans (by rw [laterOf])) rfl rfl
      · have laterOf : laterOf t.bill.pendingClose f.period = if later f.period q = true then f.period else q := by
          rw [show t.bill.pendingClose = some q from held]
          rfl
        exact ran (pends.trans (by rw [laterOf])) rfl rfl

end Sys2Proof.Machine
end


section
/-!
SUPPORT. The parts of ROUND_END that find nothing to do (R20, R44, R47, R50, R53, R58, R92).
-/

namespace Sys2Proof.Machine

section
variable {s u v : Stn} {r : RoundPos} {k : Fin 4}

/-! ### The round position (R20) -/

theorem Stn.nextRound_of_below (before : r.index.val < 3) (next : k.val = r.index.val + 1) :
    s.nextRound r = { s with bus.round := some { r with index := k, left := s.roster } } := by
  have following : ∀ i k : Fin 4, i.val < 3 → k.val = i.val + 1 → i + 1 = k := by decide
  have is := following r.index k before next
  rw [Stn.nextRound, if_neg (fun last : r.index = 3 => by rw [last] at before; exact absurd before (by decide)), is]

theorem JoinPhase.afterRounds_of_not_running {j : JoinPhase} (rests : ∀ f, j ≠ .running f) : j.afterRounds = j := by
  unfold JoinPhase.afterRounds
  split
  next f => exact absurd rfl (rests f)
  next => rfl

theorem Stn.nextRound_of_last (last : r.index = 3) (unnoted : s.bus.noted = false) :
    s.nextRound r = { s with bus.round := none, cust.join := s.cust.join.afterRounds } := by
  simp only [Stn.nextRound, last, if_true, unnoted, Bool.false_eq_true, if_false]

theorem Stn.nextRound_of_noted (last : r.index = 3) (noted : s.bus.noted = true) (state : s.cust.state ≠ .joining)
    (rests : ∀ f, s.cust.join ≠ .running f) : s.nextRound r = { s with
      bus.round := some { frame := s.air.frame, index := 0, left := s.roster }
      bus.noted := false } := by
  have stays : ¬(s.cust.state = .joining ∧ s.cust.join = .before) := fun both => state both.1
  simp only [Stn.nextRound, last, if_true, noted, JoinPhase.afterRounds_of_not_running rests, Stn.beginRounds]
  rw [if_neg stays]

/-! ### The checks of a round end (R44, R47, R50) -/

theorem Stn.quorumCount_eq (s : Stn) : s.quorumCount = Quorum s := by
  unfold Stn.quorumCount Quorum
  congr 3
  funext j
  cases s.entry? j <;> rfl

theorem Stn.declarationCheck_of_none
    (none : s.cust.state = .live → s.view s.ward = .silent → s.cust.declaration = .none →
      inSet s.cust.custody s.ward = false → Quorum s < s.img.quorum) : s.declarationCheck = s := by
  refine if_neg fun ⟨undeclared, state, notMine, silent, reached⟩ => ?_
  rw [Stn.quorumCount_eq] at reached
  exact absurd reached (Nat.not_le.2 (none state silent undeclared notMine))

theorem Stn.redeclarationCheck_of_none
    (none : s.cust.state = .live → s.view s.ward = .silent → inSet s.cust.custody s.ward = true → s.subs.ret = .idle →
      Quorum s < s.img.quorum) : s.redeclarationCheck = s := by
  refine if_neg fun ⟨mine, idle, state, silent, reached⟩ => ?_
  rw [Stn.quorumCount_eq] at reached
  exact absurd reached (Nat.not_le.2 (none state silent mine idle))

theorem Stn.countBuddyWait_of_other (other : s.cust.state ≠ .reclaiming) : s.countBuddyWait = s := if_neg other

/-! ### The counts of a round end (R53, R58, R92) -/

theorem Stn.countRequests_of_empty (empty : s.req.pend = []) : s.countRequests = s := by
  have same : ({ s with req.pend := [] } : Stn) = s := by rw [← empty]
  simp only [Stn.countRequests, empty, List.map_nil, List.foldl_nil, same]

theorem Stn.countRetry_of_none (none : s.cust.retryDelay = none) : s.countRetry = s := by
  simp only [Stn.countRetry, none]

theorem Stn.countRestart_of_none (none : ∀ n, s.subs.mirror ≠ .restartWait n) : s.countRestart = s := by
  unfold Stn.countRestart
  split
  next n waits => exact absurd waits (none n)
  next => rfl

theorem Stn.revisit_of_idle (idle : s.subs.ret = .idle) : s.revisit = s := by
  have still : (s.subs.active.map (·.admin.sub)).foldl Stn.revisitOne s = s := by
    refine foldl_of_fixed fun sub _ => ?_
    simp only [Stn.revisitOne, idle]
  simp only [Stn.revisit, still, Stn.advanceReturn, idle]

/-! ### The round end by its parts (R20, R24) -/

theorem exec_roundEnd_eq {s : State} (ends : AtRoundEnd s.stn r) :
    exec .roundEnd s = .next { s with stn := s.stn.roundEnd r } := by
  obtain ⟨⟨closed, runs⟩, passed, undeclared⟩ := ends
  show execRoundEnd s = _
  simp only [execRoundEnd, closed, runs, if_pos (⟨passed, undeclared⟩ : r.left = [] ∧ s.stn.cust.declaration ≠ .declaring)]

/-- A round end whose checks lead to u, and whose counts lead from there to v. -/
theorem Stn.roundEnd_of_parts (checks : (s.nextRound r).declarationCheck.redeclarationCheck.countBuddyWait = u)
    (kept : u.bus.outbox.length = s.bus.outbox.length) (counts : u.countRequests.countRetry.countRestart = v)
    (gives : v.givePlaces u = v) (idle : v.subs.ret = .idle) (other : r.index ≠ 2) (waiting : v.intake.waiting = []) :
    s.roundEnd r = v := by
  have places : u.givePlaces s = u := Stn.givePlaces_of_le (Nat.le_of_eq kept.symm)
  simp only [Stn.roundEnd, checks, places, counts, gives, Stn.revisit_of_idle idle, if_neg other]
  exact Stn.settled_of_no_line waiting

/-- No check is due at a round end. -/
theorem Stn.checks_of_none (next : s.nextRound r = u) (state : u.cust.state ≠ .reclaiming)
    (none : u.cust.state = .live → u.view u.ward = .silent → Quorum u < u.img.quorum) :
    (s.nextRound r).declarationCheck.redeclarationCheck.countBuddyWait = u := by
  rw [next, Stn.declarationCheck_of_none fun live silent _ _ => none live silent,
    Stn.redeclarationCheck_of_none fun live silent _ _ => none live silent, Stn.countBuddyWait_of_other state]

end

/-! ### Counts of nothing -/

/-- No wait kept in rounds is counted. -/
theorem Stn.counts_of_none {s : Stn} (empty : s.req.pend = []) (noDelay : s.cust.retryDelay = none)
    (noRestart : ∀ n, s.subs.mirror ≠ .restartWait n) : s.countRequests.countRetry.countRestart = s := by
  rw [Stn.countRequests_of_empty empty, Stn.countRetry_of_none noDelay, Stn.countRestart_of_none noRestart]

end Sys2Proof.Machine
end


section
/-!
RESULT. The end of the JOINING rounds, and JOINING_END (R49, R50, R143, R178).
-/

namespace Sys2Proof.Machine

/-! ### The lowest of the stations (R49) -/

section
variable {α : Type} {k : Station}

theorem findSome?_finRange_eq_some {g : Station → Option α} {b : α} (here : g k = some b)
    (below : ∀ j, j < k → g j = none) : (List.finRange 16).findSome? g = some b := by
  obtain ⟨front, rest, split⟩ := List.append_of_mem (List.mem_finRange k)
  have sorted := List.pairwise_lt_finRange 16
  rw [split, List.pairwise_append] at sorted
  rw [split, List.findSome?_append, List.findSome?_eq_none_iff.2 fun j mem =>
    below j (sorted.2.2 j mem k (List.mem_cons_self ..)), List.findSome?_cons, here]
  rfl

theorem find?_finRange_eq_some {g : Station → Bool} (here : g k = true) (below : ∀ j, j < k → g j = false) :
    (List.finRange 16).find? g = some k := by
  obtain ⟨front, rest, split⟩ := List.append_of_mem (List.mem_finRange k)
  have sorted := List.pairwise_lt_finRange 16
  rw [split, List.pairwise_append] at sorted
  rw [split, List.find?_append, List.find?_eq_none.2 fun j mem => by
    rw [below j (sorted.2.2 j mem k (List.mem_cons_self ..))]; nofun, List.find?_cons_of_pos here]
  rfl

end

section
variable {s : Stn} {h : JoinHeard} {f : FrameNo}

/-- The first of the stations heard that are numbered k and of a certain kind. -/
theorem find?_station {l : List JoinHeard} {g : JoinHeard → Bool} (mem : h ∈ l) (unique : (l.map (·.station)).Nodup)
    (is : g h = true) : (l.find? fun x => decide (x.station = h.station) && g x) = some h := by
  have isHere : (decide (h.station = h.station) && g h) = true := by rw [decide_eq_true rfl, is]; rfl
  cases found : l.find? fun x => decide (x.station = h.station) && g x with
  | none => exact absurd isHere (List.find?_eq_none.1 found h mem)
  | some x =>
    have same : x.station = h.station := by
      have is := List.find?_some (p := fun x => decide (x.station = h.station) && g x) found
      exact of_decide_eq_true (Bool.and_eq_true_iff.1 is).1
    exact congrArg some (List.inj_on_of_nodup_map unique (List.mem_of_find?_eq_some found) mem same)

/-! ### The source of the numbering (R49) -/

theorem Stn.joinSource_of_self (quiet : ∀ h ∈ s.cust.heard, h.sawLive = false ∧ (h.sawJoining = true → s.self < h.station)) :
    s.joinSource = none := by
  have noLive : ((List.finRange 16).findSome? fun k =>
      s.cust.heard.find? fun h => decide (h.station = k) && h.sawLive) = none := by
    refine List.findSome?_eq_none_iff.2 fun k _ => List.find?_eq_none.2 fun h mem => ?_
    rw [(quiet h mem).1, Bool.and_false]
    nofun
  have own : ((List.finRange 16).find? fun k => decide (k = s.self) ||
      s.cust.heard.any fun h => decide (h.station = k) && h.sawJoining) = some s.self := by
    refine find?_finRange_eq_some (by rw [decide_eq_true rfl]; rfl) fun j lower => ?_
    rw [Bool.or_eq_false_iff, List.any_eq_false]
    refine ⟨decide_eq_false (ne_of_lt lower), fun h mem both => ?_⟩
    obtain ⟨station, joining⟩ := Bool.and_eq_true_iff.1 both
    obtain rfl := of_decide_eq_true station
    exact absurd lower (lt_asymm ((quiet h mem).2 joining))
  simp only [Stn.joinSource, noLive, own, if_true]

theorem Stn.joinSource_of_live (mem : h ∈ s.cust.heard) (unique : (s.cust.heard.map (·.station)).Nodup)
    (live : h.sawLive = true) (lowest : ∀ x ∈ s.cust.heard, x.sawLive = true → h.station ≤ x.station) :
    s.joinSource = some h := by
  have source : ((List.finRange 16).findSome? fun k =>
      s.cust.heard.find? fun h => decide (h.station = k) && h.sawLive) = some h := by
    refine findSome?_finRange_eq_some (k := h.station) (find?_station mem unique live) fun j lower => ?_
    refine List.find?_eq_none.2 fun x there both => ?_
    obtain ⟨station, heard⟩ := Bool.and_eq_true_iff.1 both
    obtain rfl := of_decide_eq_true station
    exact absurd lower (not_lt.2 (lowest x there heard))
  simp only [Stn.joinSource, source]

theorem Stn.joinSource_of_joining (mem : h ∈ s.cust.heard) (unique : (s.cust.heard.map (·.station)).Nodup)
    (joining : h.sawJoining = true) (below : h.station < s.self)
    (lowest : ∀ x ∈ s.cust.heard, x.sawLive = false ∧ (x.sawJoining = true → h.station ≤ x.station)) :
    s.joinSource = some h := by
  have noLive : ((List.finRange 16).findSome? fun k =>
      s.cust.heard.find? fun h => decide (h.station = k) && h.sawLive) = none := by
    refine List.findSome?_eq_none_iff.2 fun k _ => List.find?_eq_none.2 fun h mem => ?_
    rw [(lowest h mem).1, Bool.and_false]
    nofun
  have first : ((List.finRange 16).find? fun k => decide (k = s.self) ||
      s.cust.heard.any fun h => decide (h.station = k) && h.sawJoining) = some h.station := by
    refine find?_finRange_eq_some ?_ fun j lower => ?_
    · rw [Bool.or_eq_true, List.any_eq_true]
      exact .inr ⟨h, mem, by rw [decide_eq_true rfl, joining]; rfl⟩
    · rw [Bool.or_eq_false_iff, List.any_eq_false]
      refine ⟨decide_eq_false (ne_of_lt (lower.trans below)), fun x there both => ?_⟩
      obtain ⟨station, heard⟩ := Bool.and_eq_true_iff.1 both
      obtain rfl := of_decide_eq_true station
      exact absurd lower (not_lt.2 ((lowest x there).2 heard))
  have found : (s.cust.heard.find? fun x => decide (x.station = h.station)) = some h := by
    simpa using find?_station (g := fun _ => true) mem unique rfl
  simp only [Stn.joinSource, noLive, first, if_neg (ne_of_lt below), found]

/-! ### The entry into RECLAIMING or LIVE (R49, R50) -/

/-- The station at the end of JOINING, in this state. -/
def Stn.joinedAs (s : Stn) (state : Member) : Stn :=
  { s with
    bill.pendingClose := none
    cust := { s.cust with state := state, buddyWait := 0, join := .before, heard := [] } }

theorem Stn.view_of_map {s t : Stn} {k : Station} (ctl : t.ctl = s.ctl) (map : t.cust.map = s.cust.map) (peer : k ≠ s.self) :
    t.view k = s.view k := by
  have self : t.self = s.self := by rw [Stn.self, Stn.self, ctl]
  rw [Stn.view, Stn.view, self, if_neg peer, if_neg peer, Stn.entry?, Stn.entry?, map]

theorem NoDoubleFailure.of_map {s t : Stn} (none : NoDoubleFailure s) (ctl : t.ctl = s.ctl) (map : t.cust.map = s.cust.map) :
    NoDoubleFailure t :=
  none.congr ctl (fun _ peer => Stn.view_of_map ctl map peer) fun k _ => by
    rw [Stn.custodian, Stn.custodian, Stn.entry?, Stn.entry?, map]

theorem Stn.becomeLive_of_apart (apart : s.buddy ≠ s.self) (view : s.view s.buddy ≠ .live) (own : s.custodian s.self ≠ none)
    (w : Places) : s.becomeLive w = { s with cust.state := .live } := by
  let t : Stn := { s with cust.state := .live }
  have held : ¬t.custodian t.self = none := own
  have notLive : t.view t.buddy ≠ .live := by
    exact (Stn.view_of_map (s := s) (t := t) rfl rfl apart).trans_ne view
  have became : s.becomeLive w = if t.view t.buddy = .live then t.startMirror else t := by
    simp only [Stn.becomeLive]
    rw [if_neg held]
  rw [became, if_neg notLive]

/-- The entry into LIVE where the buddy is not LIVE and the station has a custodian of its own. -/
theorem Stn.enterLive_of_apart (apart : s.buddy ≠ s.self) (view : s.view s.buddy ≠ .live) (own : s.custodian s.self ≠ none)
    (none : NoDoubleFailure s) (w : Places) : s.enterLive w = { s with cust.state := .live } := by
  rw [Stn.enterLive, Stn.becomeLive_of_apart apart view own]
  exact Stn.doubleFailure_of_none (s := { s with cust.state := .live }) (none.of_map rfl rfl) w

theorem Stn.enterReclaiming_of_none (none : NoDoubleFailure s) :
    s.enterReclaiming = { s with cust := { s.cust with state := .reclaiming, buddyWait := 0, join := .before, heard := [] } } :=
  Stn.doubleFailure_of_none (s := { s with cust := { s.cust with
    state := .reclaiming, buddyWait := 0, join := .before, heard := [] } }) (none.of_map rfl rfl) .atOnce

section
variable {c : Stn} (copied : s.copyNumbering f = c) (ctl : c.ctl = s.ctl) (cust : c.cust = s.cust)
  (outbox : c.bus.outbox = s.bus.outbox) (pend : c.req.pend = s.req.pend) (quiet : c.intake.waiting = [])
  (noLocal : ∀ e ∈ s.req.pend, e.state ≠ .localHere) (noDouble : NoDoubleFailure s)
include copied ctl cust outbox pend quiet noLocal noDouble

/-- The end of JOINING behind the entry into RECLAIMING or LIVE. -/
theorem Stn.endJoining_of_entered {state : Member}
    (entered : (if (c.joinedAs .reclaiming).cust.returnEndTaken then (c.joinedAs .reclaiming).takeReturnEnd .atOnce
      else c.joinedAs .reclaiming) = c.joinedAs state) : s.endJoining f = c.joinedAs state := by
  have none : NoDoubleFailure { c with bill.pendingClose := none } := noDouble.of_map ctl (congrArg Custody.map cust)
  have reclaiming : ({ c with bill.pendingClose := Option.none } : Stn).enterReclaiming = c.joinedAs .reclaiming :=
    Stn.enterReclaiming_of_none none
  have places : (c.joinedAs state).givePlaces s = c.joinedAs state := Stn.givePlaces_of_outbox_eq outbox
  have noTags : (c.joinedAs state).localTags = [] := by
    rw [Stn.localTags, show (c.joinedAs state).req.pend = s.req.pend from pend,
      List.filter_eq_nil_iff.2 fun e mem => by rw [decide_eq_true_eq]; exact noLocal e mem]
    rfl
  simp only [Stn.endJoining, copied, reclaiming, entered, places, noTags, List.foldl_nil]
  exact Stn.settled_of_no_line quiet

theorem Stn.endJoining_of_no_return (noReturn : s.cust.returnEndTaken = false) : s.endJoining f = c.joinedAs .reclaiming := by
  refine Stn.endJoining_of_entered copied ctl cust outbox pend quiet noLocal noDouble (if_neg ?_)
  have same : (c.joinedAs .reclaiming).cust.returnEndTaken = c.cust.returnEndTaken := rfl
  rw [same, cust, noReturn]
  nofun

theorem Stn.endJoining_of_return (returned : s.cust.returnEndTaken = true) (apart : s.buddy ≠ s.self)
    (view : s.view s.buddy ≠ .live) (own : s.custodian s.self ≠ none) : s.endJoining f = c.joinedAs .live := by
  let e := c.joinedAs .reclaiming
  have ctlE : e.ctl = s.ctl := ctl
  have self : e.self = s.self := by rw [Stn.self, Stn.self, ctlE]
  have buddy : e.buddy = s.buddy := by rw [Stn.buddy, Stn.buddy, Stn.img, Stn.self, Stn.img, Stn.self, ctlE]
  have map : e.cust.map = s.cust.map := (show e.cust.map = c.cust.map from rfl).trans (congrArg Custody.map cust)
  have entered : e.enterLive .atOnce = c.joinedAs .live := by
    refine Stn.enterLive_of_apart (by rw [self, buddy]; exact apart) ?_ ?_ (noDouble.of_map ctlE map) _
    · rw [buddy, Stn.view_of_map ctlE map apart]
      exact view
    · rw [self, Stn.custodian, Stn.entry?, map]
      exact own
  refine Stn.endJoining_of_entered copied ctl cust outbox pend quiet noLocal noDouble ((if_pos ?_).trans entered)
  have same : (c.joinedAs .reclaiming).cust.returnEndTaken = c.cust.returnEndTaken := rfl
  rw [same, cust, returned]

end

theorem exec_joiningEnd_eq {s : State} (state : s.stn.cust.state = .joining) (complete : s.stn.cust.join = .complete f) :
    exec .joiningEnd s = .next { s with stn := s.stn.endJoining f } := by
  show execJoiningEnd s = _
  simp only [execJoiningEnd, state, complete]

end

/-- Settles O53: ROUND_END in the JOINING rounds, and JOINING_END by the source of the numbering. -/
theorem joiningEndCopiesTheNumbering : Obligations.JoiningEndCopiesTheNumbering := by
  unfold Obligations.JoiningEndCopiesTheNumbering
  refine ⟨fun s r f ends last state runs unnoted empty waiting idle noDelay noRestart => ?_,
    fun s f state complete waiting noLocal noDouble => ?_⟩
  · let u : Stn := { s.stn with bus.round := none, cust.join := .complete f }
    have next : s.stn.nextRound r = u := by
      rw [Stn.nextRound_of_last last unnoted, runs]
      rfl
    have checks := Stn.checks_of_none (u := u) next (by rw [show u.cust.state = .joining from state]; nofun)
      fun live => by rw [show u.cust.state = .joining from state] at live; cases live
    rw [exec_roundEnd_eq ends, Stn.roundEnd_of_parts checks rfl (Stn.counts_of_none (s := u) empty noDelay noRestart)
      (Stn.givePlaces_of_le le_rfl) idle (by rw [last]; decide) waiting]
  · intro heard joined
    have joins {c : Stn} (copied : s.stn.copyNumbering f = c) (ctl : c.ctl = s.stn.ctl) (cust : c.cust = s.stn.cust)
        (outbox : c.bus.outbox = s.stn.bus.outbox) (pend : c.req.pend = s.stn.req.pend)
        (quiet : c.intake.waiting = []) : joined c := by
      refine ⟨fun noReturn => ?_, fun returned apart view own => ?_⟩
      · rw [exec_joiningEnd_eq state complete,
          Stn.endJoining_of_no_return copied ctl cust outbox pend quiet noLocal noDouble noReturn]
        rfl
      · rw [exec_joiningEnd_eq state complete,
          Stn.endJoining_of_return copied ctl cust outbox pend quiet noLocal noDouble returned apart view own]
        rfl
    refine ⟨fun quiet => joins ?_ rfl rfl rfl rfl waiting, fun h mem unique _ lowest => ?_⟩
    · rw [Stn.copyNumbering, Stn.joinSource_of_self quiet]
    · intro d
      have source : s.stn.joinSource = some h := by
        obtain ⟨live, lowest⟩ | ⟨joining, below, lowest⟩ := lowest
        · exact Stn.joinSource_of_live mem unique live lowest
        · exact Stn.joinSource_of_joining mem unique joining below lowest
      have moved : s.stn.abstainMoved d = s.stn.air.abstain.map fun g =>
          if ∃ r ∈ s.stn.bus.round, r.frame + 2 = g then g + d else g := by
        refine List.map_congr_left fun g _ => if_congr ?_ rfl rfl
        simp only [Option.any_eq_true, decide_eq_true_eq, Option.mem_def]
      refine joins ?_ rfl rfl rfl rfl waiting
      rw [Stn.copyNumbering, source, ← moved]

end Sys2Proof.Machine
end


section
/-!
RESULT. The ward's view becomes FAILED with no other station down, and its standby records are adopted (R3, R37, R42,
R45, R46).
-/

namespace Sys2Proof.Machine

/-! ### The failure of the ward alone (R42) -/

theorem inSet_buddyOf {m : StationSet} {k : Station} (other : buddyOf m k ≠ k) : inSet m (buddyOf m k) = true := by
  unfold buddyOf at other ⊢
  cases found : ((List.finRange 16).map fun i => k + 1 + i).find? (inSet m) with
  | none => exact absurd (by rw [found]; rfl) other
  | some b => exact List.find?_some found

section
variable {s : Stn} {k p : Station} {w : Places}

/-- Where no station has k as its custodian, its failure is a change of its view alone. -/
theorem Stn.failCustodian_of_none (none : ∀ h ∈ s.roster, s.custodian h ≠ some k) (w : Places) :
    s.failCustodian w k = s :=
  foldl_of_fixed fun h mem => if_neg (none h mem)

theorem OthersUp.noDoubleFailure_failed (up : OthersUp s [k]) (inside : inSet s.img.roster p = true) (other : p ≠ k) :
    NoDoubleFailure (s.viewed k .failed) := by
  have same (h : Station) (apart : h ∉ [k]) : (s.viewed k .failed).view h = s.view h :=
    Stn.view_viewed_of_ne (by simpa using apart)
  intro h there notSelf down failed
  by_cases here : h = k
  · have notDown : buddyOf s.img.roster h ∉ [k] := by
      rw [here]
      simpa using buddyOf_ne_self inside other
    exact absurd failed (up.buddy_up (t := s.viewed k .failed) same rfl notDown inside)
  · have apart : h ∉ [k] := by simpa using here
    rw [same h apart, up h there notSelf apart] at down
    cases down

theorem Stn.setView_failed_of_alone (quiet : Unasked s) (view : s.view k ≠ .failed) (idle : s.subs.ret = .idle)
    (state : s.cust.state = .live) (none : ∀ h ∈ s.roster, s.custodian h ≠ some k) (inside : inSet s.img.roster p = true)
    (other : p ≠ k) (up : OthersUp s [k]) (w : Places) (episode : Bool) :
    s.setView w k .failed episode = s.viewed k .failed := by
  have keeps : (s.viewed k .failed).failCustodian w k = s.viewed k .failed :=
    Stn.failCustodian_of_none (fun h mem => by rw [Stn.custodian_viewed]; exact none h mem) w
  rw [Stn.setView_failed_eq quiet view idle (fun is => by rw [state] at is; cases is), Stn.failing, keeps]
  exact Stn.doubleFailure_of_none (up.noDoubleFailure_failed inside other) w

end

/-! ### One standby record (R3, R46) -/

section
variable {s : Stn} {b : StandbyRec}

/-- A key of the standby record is taken in the active table, or the table is full (R46). -/
def Stn.adoptTaken (s : Stn) (b : StandbyRec) : Prop :=
  1024 ≤ s.subs.active.length ∨ ∃ r ∈ s.subs.active, r.admin.addr = b.admin.addr ∨ r.admin.sub = b.admin.sub

theorem Stn.adoptTaken_iff (s : Stn) (b : StandbyRec) : s.adoptTaken b ↔ Config.tableCap ≤ s.subs.active.length ∨
    (s.recAt? b.admin.addr).isSome = true ∨ (s.rec? b.admin.sub).isSome = true := by
  simp only [Stn.adoptTaken, Stn.recAt?, Stn.rec?, List.find?_isSome, decide_eq_true_eq, and_or_left, exists_or]
  rfl

theorem Stn.adoptOne_of_taken (taken : s.adoptTaken b) : s.adoptOne b = { s with
    subs.standby := s.subs.standby.map fun x =>
      if x.admin.sub = b.admin.sub then { x with mark := .unadopted } else x } := by
  rw [Stn.adoptOne, if_pos ((s.adoptTaken_iff b).1 taken), Stn.updStandby, updWhere_decide]

theorem Stn.adoptOne_of_free (free : ¬s.adoptTaken b) : s.adoptOne b = { s with subs := { s.subs with
    standby := s.subs.standby.filter fun x => decide (x.admin.sub ≠ b.admin.sub)
    active := insertBy (·.admin.sub) (b.adopt s.ward s.bill.period) s.subs.active } } := by
  rw [Stn.adoptOne, if_neg (mt (s.adoptTaken_iff b).2 free)]
  rfl

/-- The only standby record. -/
theorem Stn.adoptOne_of_only {c : StandbyRec} (only : s.subs.standby = [c]) (same : c.admin = b.admin) :
    (s.adoptTaken b → s.adoptOne b = { s with subs.standby := [{ c with mark := .unadopted }] }) ∧
    (¬s.adoptTaken b → s.adoptOne b = { s with subs := { s.subs with
      standby := []
      active := insertBy (·.admin.sub) (b.adopt s.ward s.bill.period) s.subs.active } }) := by
  refine ⟨fun taken => ?_, fun free => ?_⟩
  · rw [Stn.adoptOne_of_taken taken, only]
    exact congrArg (fun x => ({ s with subs.standby := [x] } : Stn)) (if_pos (congrArg Admin.sub same))
  · rw [Stn.adoptOne_of_free free, only, List.filter_cons_of_neg (by rw [same]; simp), List.filter_nil]

/-! ### All the records of a table that is empty (R46) -/

theorem insertBy_of_above {α : Type} {key : α → Nat} {x : α} {l : List α} (above : ∀ y ∈ l, key y < key x) :
    insertBy key x l = l ++ [x] := by
  induction l with
  | nil => rfl
  | cons y ys ih =>
    rw [insertBy, if_neg (Nat.not_le.2 (above y List.mem_cons_self)),
      ih fun z mem => above z (List.mem_cons_of_mem _ mem), List.cons_append]

/-- The station whose standby table is to these records, and whose active table to those that they become. -/
def Stn.adopting (s : Stn) (done rest : List StandbyRec) : Stn :=
  { s with subs := { s.subs with active := done.map fun b => b.adopt s.ward s.bill.period, standby := rest } }

theorem Stn.foldl_adoptOne {done rest : List StandbyRec} (room : (done ++ rest).length ≤ 1024)
    (sorted : (done ++ rest).Pairwise fun a b => a.admin.sub < b.admin.sub ∧ a.admin.addr ≠ b.admin.addr) :
    rest.foldl Stn.adoptOne (s.adopting done rest) = s.adopting (done ++ rest) [] := by
  induction rest generalizing done with
  | nil => rw [List.foldl_nil, List.append_nil]
  | cons b rest ih =>
    have split : done ++ b :: rest = (done ++ [b]) ++ rest := by rw [List.append_assoc, List.singleton_append]
    obtain ⟨-, behind, before⟩ := List.pairwise_append.1 sorted
    have free : ¬(s.adopting done (b :: rest)).adoptTaken b := by
      rintro (full | ⟨x, mem, same⟩)
      · have few : (done.map fun b => b.adopt s.ward s.bill.period).length < 1024 := by
          rw [List.length_map]
          rw [List.length_append, List.length_cons] at room
          omega
        exact absurd full (Nat.not_le.2 few)
      · obtain ⟨a, there, rfl⟩ := List.mem_map.1 mem
        obtain ⟨below, apart⟩ := before a there b List.mem_cons_self
        obtain addr | sub := same
        · exact apart addr
        · exact (ne_of_lt below) sub
    have left : (b :: rest).filter (fun x => decide (x.admin.sub ≠ b.admin.sub)) = rest := by
      rw [List.filter_cons_of_neg (by simp), List.filter_eq_self]
      exact fun x mem => decide_eq_true (ne_of_gt ((List.pairwise_cons.1 behind).1 x mem).1)
    have entered : insertBy (·.admin.sub) (b.adopt s.ward s.bill.period)
        (done.map fun b => b.adopt s.ward s.bill.period) = (done ++ [b]).map fun b => b.adopt s.ward s.bill.period := by
      rw [insertBy_of_above, List.map_append]
      · rfl
      · intro x mem
        obtain ⟨a, there, rfl⟩ := List.mem_map.1 mem
        exact (before a there b List.mem_cons_self).1
    have one : (s.adopting done (b :: rest)).adoptOne b = s.adopting (done ++ [b]) rest := by
      rw [Stn.adoptOne_of_free free]
      exact congrArg₂ (fun l m => ({ s with subs := { s.subs with active := l, standby := m } } : Stn)) entered left
    rw [List.foldl_cons, one, split]
    exact ih (split ▸ room) (split ▸ sorted)

end

/-- Settles O52: the ward's entry, and the fold over its standby records. -/
theorem adoptionTakesTheWardsRecords : Obligations.AdoptionTakesTheWardsRecords := by
  unfold Obligations.AdoptionTakesTheWardsRecords
  intro s declaring waiting empty pend state notSelf ⟨e, entry, silent⟩ notMine idle buddy others ward cust after record
  let s1 : Stn := { s.stn with cust := { s.stn.cust with custody := setAdd s.stn.cust.custody ward, declaration := .none } }
  let a := s1.recustodied ward (some s.stn.self)
  have unasked : Unasked s1 := ⟨empty, by rw [show s1.req.pend = [] from pend]; exact fun _ mem => nomatch mem⟩
  have view (k : Station) : a.view k = s.stn.view k := Stn.view_recustodied (s := s1) k
  have wardView : s.stn.view ward = .silent := (Stn.view_of_entry notSelf entry).trans silent
  have mine : a.custodian ward = some s.stn.self := Stn.custodian_recustodied_same (s := s1) (by
    rw [show s1.entry? ward = some e from entry]; rfl)
  have inside : inSet s.stn.img.roster s.stn.self = true := by
    have there := inSet_buddyOf (m := s.stn.img.roster) (k := ward) (by rw [buddy]; exact notSelf.symm)
    rwa [buddy] at there
  have failed : (s1.setCustodian .atOnce ward (some s.stn.self)).setView .atOnce ward .failed false = { s.stn with
      cust := cust, req.cache := [] } := by
    rw [Stn.setCustodian_some_of_unasked unasked notMine, Stn.setView_failed_of_alone (s := a) (p := s.stn.self) unasked
      (by rw [view, wardView]; nofun) idle state (fun h mem => ?_) inside notSelf.symm fun h mem _ apart => ?_,
      Stn.viewed_recustodied]
    · rfl
    · by_cases here : h = ward
      · rw [here, mine]
        exact fun is => notSelf (Option.some.inj is).symm
      · rw [Stn.custodian_recustodied_of_ne here]
        exact (others h mem here).2
    · rw [view]
      exact (others h mem (by simpa using apart)).1
  have row {v : Stn} (adopts : s.stn.subs.standby.foldl Stn.adoptOne { s.stn with cust := cust, req.cache := [] } = v)
      (intake : v.intake = s.stn.intake) : exec .adoption s = .next { s with stn := v } := by
    have adopted : s.stn.adopt = v := by
      refine Eq.trans ?_ adopts
      simp only [Stn.adopt]
      exact congrArg (fun t : Stn => t.subs.standby.foldl Stn.adoptOne t) failed
    show execAdoption s = _
    rw [execAdoption, if_pos declaring, adopted, Stn.settledFrom_of_le ((congrArg Intake.waiting intake).trans waiting) (by
      rw [empty]; exact Nat.zero_le _)]
  let c : Stn := { s.stn with cust := cust, req.cache := [] }
  refine ⟨fun noActive room sorted => ?_, fun b only => ?_⟩
  · have start : c = c.adopting [] s.stn.subs.standby := by
      show c = { c with subs := { s.stn.subs with active := [] } }
      rw [← noActive]
    have all := Stn.foldl_adoptOne (s := c) (done := []) (rest := s.stn.subs.standby) room sorted
    rw [← start, List.nil_append] at all
    exact row all rfl
  · intro taken
    obtain ⟨stays, enters⟩ := Stn.adoptOne_of_only (s := c) (b := b) only rfl
    refine ⟨fun is => row ?_ rfl, fun isNot => row ?_ rfl⟩
    · rw [only]
      exact stays is
    · rw [only]
      exact enters isNot

end Sys2Proof.Machine
end


section
/-!
RESULT. Declaration and re-declaration of the ward (R44, R45, R47).
-/

namespace Sys2Proof.Machine

section
variable {s : Stn} {r : RoundPos}

/-! ### The checks of a round end where the quorum is reached (R44, R47) -/

theorem Stn.declarationCheck_of_due (undeclared : s.cust.declaration = .none) (state : s.cust.state = .live)
    (notMine : inSet s.cust.custody s.ward = false) (silent : s.view s.ward = .silent)
    (reached : s.img.quorum ≤ Quorum s) : s.declarationCheck = { s with cust.declaration := .pending } :=
  if_pos ⟨undeclared, state, notMine, silent, s.quorumCount_eq ▸ reached⟩

theorem Stn.redeclarationCheck_of_due (mine : inSet s.cust.custody s.ward = true) (idle : s.subs.ret = .idle)
    (state : s.cust.state = .live) (silent : s.view s.ward = .silent) (reached : s.img.quorum ≤ Quorum s) :
    s.redeclarationCheck = s.redeclare :=
  if_pos ⟨mine, idle, state, silent, s.quorumCount_eq ▸ reached⟩

/-- The station that holds its ward already, and has re-declared it, but for the standby records. -/
def Stn.redeclared (s : Stn) : Stn :=
  { s with cust := { s.cust.withEntry s.ward fun e => { e with view := .failed } with retryDelay := none } }

theorem Stn.redeclare_eq (failed : s.setView .atOnce s.ward .failed false = s.viewed s.ward .failed) : s.redeclare =
    (s.subs.standby.filter fun b => decide (b.mark ≠ .unadopted)).foldl Stn.adoptOne s.redeclared.clearReturned := by
  simp only [Stn.redeclare, failed]
  rfl

theorem Stn.clearReturned_eq (s : Stn) : s.clearReturned = { s with
    subs.standby := s.subs.standby.map fun b => if b.mark = .returned then { b with mark := .plain } else b } := by
  rw [Stn.clearReturned, updWhere_decide]

/-- No copy is left to adopt. -/
theorem Stn.clearReturned_of_empty (empty : s.subs.standby = []) : s.clearReturned = s := by
  rw [Stn.clearReturned_eq, empty, List.map_nil, ← empty]

theorem Stn.clearReturned_of_unadopted {b : StandbyRec} (only : s.subs.standby = [b]) (mark : b.mark = .unadopted) :
    s.clearReturned = s := by
  have kept : ¬b.mark = .returned := by rw [mark]; nofun
  rw [Stn.clearReturned_eq, only, List.map_cons, List.map_nil, if_neg kept, ← only]

theorem Stn.clearReturned_of_only {b : StandbyRec} (only : s.subs.standby = [b]) : s.clearReturned = { s with
    subs.standby := [if b.mark = .returned then { b with mark := .plain } else b] } := by
  rw [Stn.clearReturned_eq, only, List.map_cons, List.map_nil]

/-- The only copy is adopted again, or stays UNADOPTED. -/
theorem Stn.foldl_again_of_only {b : StandbyRec} (only : s.subs.standby = [b]) :
    let again := (s.subs.standby.filter fun b => decide (b.mark ≠ .unadopted)).foldl Stn.adoptOne s.clearReturned
    (b.mark = .unadopted ∨ s.adoptTaken b → again = { s with subs.standby := [{ b with mark := .unadopted }] }) ∧
    (b.mark ≠ .unadopted → ¬s.adoptTaken b → again = { s with subs := { s.subs with
      standby := []
      active := insertBy (·.admin.sub) (b.adopt s.ward s.bill.period) s.subs.active } }) := by
  intro again
  have unadopted (mark : b.mark = .unadopted) : again = { s with subs.standby := [{ b with mark := .unadopted }] } := by
    have none : s.subs.standby.filter (fun b => decide (b.mark ≠ .unadopted)) = [] := by
      rw [only, List.filter_cons_of_neg (by simp [mark]), List.filter_nil]
    have same : ({ b with mark := .unadopted } : StandbyRec) = b := by rw [← mark]
    show List.foldl _ _ _ = _
    rw [none, List.foldl_nil, Stn.clearReturned_of_unadopted only mark, same, ← only]
  by_cases mark : b.mark = .unadopted
  · exact ⟨fun _ => unadopted mark, fun isNot => absurd mark isNot⟩
  · have one : again = s.clearReturned.adoptOne b := by
      show List.foldl _ _ _ = _
      rw [only, List.filter_cons_of_pos (by simp [mark]), List.filter_nil, List.foldl_cons, List.foldl_nil]
    let c : StandbyRec := if b.mark = .returned then { b with mark := .plain } else b
    have admin : c.admin = b.admin ∧ ({ c with mark := .unadopted } : StandbyRec) = { b with mark := .unadopted } := by
      show (if b.mark = .returned then { b with mark := .plain } else b).admin = _ ∧ _
      unfold c
      split <;> exact ⟨rfl, rfl⟩
    have cleared : s.clearReturned = { s with subs.standby := [c] } := Stn.clearReturned_of_only only
    obtain ⟨stays, enters⟩ := Stn.adoptOne_of_only (s := { s with subs.standby := [c] }) (b := b) rfl admin.1
    rw [one, cleared]
    refine ⟨fun taken => ?_, fun _ free => enters free⟩
    rw [← admin.2]
    exact stays (taken.resolve_left mark)

/-! ### The declaring frame (R44, R45) -/

theorem Stn.testDeclaration_of_pending (pending : s.cust.declaration = .pending) : s.testDeclaration = { s with
    cust.declaration := if s.cust.state = .live ∧ s.view s.ward = .silent then .declaring else .none } := if_pos pending

end

/-- Settles O43: the two checks at a round end, and the test at the start of this station's window. -/
theorem declarationFollowsTheQuorum : Obligations.DeclarationFollowsTheQuorum := by
  unfold Obligations.DeclarationFollowsTheQuorum
  refine ⟨fun s r k ends early next state idle pend waiting noRestart => ?_,
    fun s r inRound next last empty pending => ?_⟩
  · intro ward quorum t
    let u := t.stn
    have position : s.stn.nextRound r = u := Stn.nextRound_of_below (by omega) next
    have live : u.cust.state ≠ .reclaiming := by rw [show u.cust.state = .live from state]; nofun
    have sameQuorum : Quorum u = Quorum s.stn := rfl
    have notTwo : r.index ≠ 2 := fun is => by rw [is] at early; exact absurd early (by decide)
    have ran {v : Stn} (checks : u.declarationCheck.redeclarationCheck = v) (kept : v.bus = u.bus)
        (intake : v.intake = s.stn.intake) (stateV : v.cust.state = .live) (empty : v.req = s.stn.req)
        (noDelay : v.cust.retryDelay = none) (subs : v.subs.ret = s.stn.subs.ret ∧ v.subs.mirror = s.stn.subs.mirror) :
        exec .roundEnd s = .next { s with stn := v } := by
      have all : (s.stn.nextRound r).declarationCheck.redeclarationCheck.countBuddyWait = v := by
        rw [position, checks, Stn.countBuddyWait_of_other (by rw [stateV]; nofun)]
      rw [exec_roundEnd_eq ends, Stn.roundEnd_of_parts all (by rw [kept])
        (Stn.counts_of_none (by rw [empty]; exact pend) noDelay (by rw [subs.2]; exact noRestart))
        (Stn.givePlaces_of_le le_rfl) (by rw [subs.1]; exact idle) notTwo (by rw [intake]; exact waiting)]
    refine ⟨fun noDelay => ⟨fun silent notMine reached undeclared => ?_, fun none => ?_, fun notMine declared => ?_⟩,
      fun silent mine reached empty inside up noCustody => ?_⟩
    · refine ran (v := { u with cust.declaration := .pending }) ?_ rfl rfl state rfl noDelay ⟨rfl, rfl⟩
      rw [Stn.declarationCheck_of_due (s := u) undeclared state notMine silent reached]
      refine Stn.redeclarationCheck_of_none fun _ _ mine _ => ?_
      have held : inSet s.stn.cust.custody ward = true := mine
      rw [notMine] at held
      cases held
    · have fewer : u.cust.state = .live → u.view u.ward = .silent → Quorum u < u.img.quorum := fun _ silent =>
        Nat.not_le.1 (none.resolve_left fun other => other silent)
      refine ran (v := u) ?_ rfl rfl state rfl noDelay ⟨rfl, rfl⟩
      rw [Stn.declarationCheck_of_none (s := u) fun isLive silent _ _ => fewer isLive silent,
        Stn.redeclarationCheck_of_none (s := u) fun isLive silent _ _ => fewer isLive silent]
    · refine ran (v := u) ?_ rfl rfl state rfl noDelay ⟨rfl, rfl⟩
      rw [Stn.declarationCheck_of_none (s := u) fun _ _ is _ => absurd is declared]
      refine Stn.redeclarationCheck_of_none fun _ _ mine _ => ?_
      have held : inSet s.stn.cust.custody ward = true := mine
      rw [notMine] at held
      cases held
    · intro after
      have wardView : u.view u.ward = .silent := silent
      have notSelf : s.stn.self ≠ ward := by
        intro own
        have view : s.stn.view s.stn.self = .silent := own ▸ silent
        rw [Stn.view, if_pos rfl, state] at view
        cases view
      have unasked : Unasked u := ⟨empty, by rw [show u.req.pend = [] from pend]; exact fun _ mem => nomatch mem⟩
      have failed : u.setView .atOnce u.ward .failed false = u.viewed u.ward .failed :=
        Stn.setView_failed_of_alone unasked (wardView.trans_ne nofun) idle state noCustody inside notSelf up _ _
      have checks : u.declarationCheck.redeclarationCheck =
          (s.stn.subs.standby.filter fun b => decide (b.mark ≠ .unadopted)).foldl Stn.adoptOne u.redeclared.clearReturned := by
        rw [Stn.declarationCheck_of_none (s := u) fun _ _ _ notMine => ?_,
          Stn.redeclarationCheck_of_due (s := u) mine idle state silent reached, Stn.redeclare_eq failed]
        have held : inSet s.stn.cust.custody ward = false := notMine
        rw [mine] at held
        cases held
      refine ⟨fun none => ?_, fun b only => ?_⟩
      · have same : u.redeclared.clearReturned = u.redeclared := Stn.clearReturned_of_empty none
        rw [none, List.filter_nil, List.foldl_nil, same] at checks
        rw [ran checks rfl rfl state rfl rfl ⟨rfl, rfl⟩, ← none]
        rfl
      · intro taken
        obtain ⟨stays, enters⟩ := Stn.foldl_again_of_only (s := u.redeclared) (b := b) only
        refine ⟨fun is => ?_, fun notMarked free => ?_⟩
        · exact ran (checks.trans (stays is)) rfl rfl state rfl rfl ⟨rfl, rfl⟩
        · exact ran (checks.trans (enters notMarked free)) rfl rfl state rfl rfl ⟨rfl, rfl⟩
  · intro frame sent stands
    let v (d : Declaration) : Stn := { s.stn with cust.declaration := d }
    have ran {d : Declaration} {custody : StationSet} (test : s.stn.testDeclaration = v d)
        (listed : (v d).custodySent = custody) : exec .roundFrameSend s = .next (sent d (frame custody)) := by
      have ready : s.stn.testDeclaration.windowClaims r.frame r.index = v d := by
        rw [test, Stn.windowClaims_of_last last]
      have claims : (v d).claimsSent r.index = [] := Stn.claimsSent_of_last last
      rw [execRoundFrameSend_of_next inRound next, Stn.ownWindow_of_empty ready empty, Stn.frameFor_eq claims, ← listed]
      rfl
    have test := Stn.testDeclaration_of_pending pending
    refine ⟨fun is => ?_, fun isNot => ?_⟩
    · exact ran (test.trans (congrArg v (if_pos is))) (if_pos rfl)
    · exact ran (test.trans (congrArg v (if_neg isNot))) (if_neg nofun)

end Sys2Proof.Machine
end


section
/-!
RESULT. The round end where no wait runs out, and the close of the slot map (R20, R92, R112, R129 to R132, R152, R158).
-/

namespace Sys2Proof.Machine

/-! ### The counts of the pending entries (R92) -/

section
variable {s u : Stn} {r : RoundPos} {e : PendEntry}

theorem PendEntry.count_eq_aged (e : PendEntry) : e.count = e.aged := by
  unfold PendEntry.count PendEntry.aged
  cases e.state <;> rfl

theorem PendEntry.aged_tag (e : PendEntry) : e.aged.tag = e.tag := by
  unfold PendEntry.aged
  split <;> rfl

theorem PendEntry.aged_state (e : PendEntry) : e.aged.state = e.state := by
  unfold PendEntry.aged
  split <;> rfl

theorem PendEntry.aged_rounds_le (e : PendEntry) : e.aged.rounds ≤ e.rounds + 1 := by
  unfold PendEntry.aged
  split
  · exact Nat.le_succ _
  · exact le_rfl
  · exact le_rfl

theorem PendEntry.aged_wait_le (e : PendEntry) : e.aged.wait ≤ e.wait + 1 := by
  unfold PendEntry.aged
  split
  · exact Nat.le_succ _
  · exact Nat.le_succ _
  · exact le_rfl

/-- An entry whose count brings it to none of its limits is not judged. -/
theorem Stn.judgeEntry_of_below {tag : Tag} (live : s.pend? tag = some e.aged) (below : e.staysBelow) :
    s.judgeEntry tag = s := by
  simp only [Stn.judgeEntry, live, PendEntry.aged_state]
  obtain ⟨text, holding⟩ | ⟨rounds, awaits, defers⟩ := below
  · rw [holding]
    rfl
  · by_cases held : e.state.isHolding = true
    · rw [if_pos held]
    · have early : ¬Config.overallRounds ≤ e.aged.rounds := by
        have most := e.aged_rounds_le
        rw [show Config.overallRounds = 24 from rfl]
        omega
      have most := e.aged_wait_le
      have noAnswer : ¬(e.state = .awaiting ∧ Config.answerRounds ≤ e.aged.wait) := by
        rintro ⟨state, reached⟩
        have few := awaits state
        rw [show Config.answerRounds = 12 from rfl] at reached
        omega
      have noDeferral : ¬(e.state = .deferred ∧ Config.deferralRounds ≤ e.aged.wait) := by
        rintro ⟨state, reached⟩
        have few := defers state
        rw [show Config.deferralRounds = 4 from rfl] at reached
        omega
      rw [if_neg held, if_neg early, if_neg noAnswer, if_neg noDeferral]

/-- The station whose pending entries have counted. -/
def Stn.counted (s : Stn) : Stn := { s with req.pend := s.req.pend.map PendEntry.aged }

theorem Stn.countRequests_eq (s : Stn) : s.countRequests = (s.req.pend.map (·.tag)).foldl Stn.judgeEntry s.counted := by
  have ages : s.req.pend.map PendEntry.count = s.req.pend.map PendEntry.aged :=
    List.map_congr_left fun e _ => e.count_eq_aged
  have tags : (s.req.pend.map PendEntry.aged).map (·.tag) = s.req.pend.map (·.tag) := by
    rw [List.map_map]
    exact List.map_congr_left fun e _ => e.aged_tag
  simp only [Stn.countRequests, ages, tags]
  rfl

theorem Stn.countRequests_of_below (below : ∀ e ∈ s.req.pend, e.staysBelow) : s.countRequests = s.counted := by
  rw [Stn.countRequests_eq]
  refine foldl_of_fixed fun tag _ => ?_
  cases found : s.counted.pend? tag with
  | none => simp only [Stn.judgeEntry, found]
  | some x =>
    obtain ⟨e, mem, rfl⟩ := List.mem_map.1 (List.mem_of_find?_eq_some (show List.find? _ _ = some x from found))
    exact Stn.judgeEntry_of_below found (below e mem)

/-! ### The round end of a quiet round (R20) -/

/-- No check is due while the ward is LIVE. -/
theorem QuietRound.checks (quiet : QuietRound s) (next : s.nextRound r = u) (ctl : u.ctl = s.ctl)
    (map : u.cust.map = s.cust.map) (state : u.cust.state = s.cust.state) :
    (s.nextRound r).declarationCheck.redeclarationCheck.countBuddyWait = u := by
  obtain ⟨live, ward, -⟩ := quiet
  have entry (k : Station) : u.entry? k = s.entry? k := by rw [Stn.entry?, Stn.entry?, map]
  have self : u.self = s.self := by rw [Stn.self, Stn.self, ctl]
  have view (k : Station) : u.view k = s.view k := by rw [Stn.view, Stn.view, self, state, entry]
  refine Stn.checks_of_none next (by rw [state, live]; nofun) fun _ silent => ?_
  rw [Stn.ward_of_ctl ctl, view, ward] at silent
  cases silent

/-- A round end without a slot map to close. -/
theorem QuietRound.roundEnd (quiet : QuietRound s) (other : r.index ≠ 2) (below : ∀ e ∈ s.req.pend, e.staysBelow)
    (next : s.nextRound r = u) (ctl : u.ctl = s.ctl) (cust : u.cust = s.cust) (subs : u.subs = s.subs)
    (req : u.req = s.req) (intake : u.intake = s.intake) (outbox : u.bus.outbox = s.bus.outbox) :
    s.roundEnd r = u.counted := by
  have checks := quiet.checks next ctl (by rw [cust]) (by rw [cust])
  obtain ⟨-, -, idle, noDelay, noRestart, waiting⟩ := quiet
  refine Stn.roundEnd_of_parts checks (by rw [outbox]) ?_ (Stn.givePlaces_of_le le_rfl) ?_ other ?_
  · rw [Stn.countRequests_of_below (by rw [req]; exact below), Stn.countRetry_of_none (s := u.counted),
      Stn.countRestart_of_none (s := u.counted)]
    · intro n
      show u.subs.mirror ≠ _
      rw [subs]
      exact noRestart n
    · show u.cust.retryDelay = none
      rw [cust, noDelay]
  · show u.subs.ret = .idle
    rw [subs, idle]
  · show u.intake.waiting = []
    rw [intake, waiting]

end

/-! ### The close of the slot map (R129 to R132) -/

section
variable {s : Stn} {t : FrameNo} {c : Claim} {m : Message} {rec : Record}

/-- The map for frame t can be used (R129). -/
def Stn.mapUsable (s : Stn) (t : FrameNo) : Prop :=
  t ∉ s.air.abstain ∧ reached s.air.frame t = false ∧ ∀ p ∈ s.air.buffer, reached p.target (t - 1) = true

theorem Stn.mapUnusable_iff (s : Stn) (t : FrameNo) : s.mapUnusable t = false ↔ s.mapUsable t := by
  rw [Stn.mapUnusable, Bool.or_eq_false_iff, Bool.or_eq_false_iff, List.any_eq_false, ← Bool.not_eq_true,
    List.contains_iff_mem, and_assoc]
  simp only [Stn.mapUsable, Bool.not_eq_true', Bool.not_eq_false]

theorem Stn.closeMap_of_usable {f : FrameNo} (usable : s.mapUsable (f + 2)) :
    s.closeMap f = (s.applyMap (f + 2)).emptyClaims := by
  simp only [Stn.closeMap, (s.mapUnusable_iff _).2 usable, Bool.false_eq_true, if_false]

theorem Stn.closeMap_of_unusable {f : FrameNo} (unusable : ¬s.mapUsable (f + 2)) :
    s.closeMap f = (s.voidClaims (f + 2)).emptyClaims := by
  have is : s.mapUnusable (f + 2) = true := (Bool.not_eq_false _).mp (mt (s.mapUnusable_iff _).1 unusable)
  simp only [Stn.closeMap, is, if_true]

theorem Stn.returnToFront_nil (s : Stn) : s.returnToFront [] = s := by
  simp only [Stn.returnToFront, List.foldl_nil, List.filter_nil, List.nil_append]

/-- The store whose claimed message is back at the front of its list (R112). -/
def Store.fronted (st : Store) (m : Message) : Store :=
  let back := st.withMsg m.serial fun x => { x with state := .ready, target := none }
  match m.priority with
  | .urgent => { back with urgent := m.serial :: back.urgent }
  | .normal => { back with normal := m.serial :: back.normal }

theorem Stn.returnToFront_of_one (found : s.msg? m.serial = some m) :
    s.returnToFront [m.serial] = { s with store := s.store.fronted m } := by
  simp only [Stn.returnToFront, List.foldl_cons, List.foldl_nil, List.filter_cons, List.filter_nil, Stn.isUrgent, found,
    Stn.updMsg_eq_withMsg, Store.fronted]
  cases m.priority <;> rfl

theorem Ladder.within_eq_inside (l : Ladder) (p : Plan) : l.within p = l.inside p := rfl

theorem Stn.loadPage_of_first (found : s.msg? m.serial = some m) (record : s.rec? m.sub = some rec) {tag : Tag} {l : Ladder}
    (tagged : m.tag = some tag) (ladder : m.ladder = some l) (empty : s.air.buffer = []) (first : Nat) :
    let plan := s.img.plans.get rec.admin.plan
    let l' := l.inside plan
    s.loadPage t first c m.serial = { s with
      store := s.store.withMsg m.serial fun x => { x with state := .loaded, ladder := some l' }
      air.buffer := [{ message := m.serial, target := t, number := c.number, first := first, slots := c.slots,
                       addr := rec.admin.addr, tag := tag, zones := (plan.stepAt l'.step).selector.zones rec,
                       body := m.blocks.flatten, committed := false, sent := 0 }] } := by
  intro plan l'
  have inserted (p : Page) : insertPage p s.air.buffer = [p] := by rw [empty]; rfl
  simp only [Stn.loadPage, Stn.msgRec?_eq found record, tagged, ladder, Option.getD_some, Stn.updMsg_eq_withMsg, inserted]
  rfl

/-- The station whose map for frame t is made. -/
def Stn.mappedFor (s : Stn) (t : FrameNo) : Stn :=
  { s with air.maps := s.air.maps ++ [⟨t, mapSlots (assignSlots 0 (s.claimOrder t))⟩] }

theorem Stn.applyMap_eq (s : Stn) (t : FrameNo) :
    let fit := assignSlots 0 (s.claimOrder t)
    s.applyMap t = (s.air.claims.foldl (Stn.applyClaim t fit) (s.mappedFor t)).returnToFront
      ((s.air.claims.filter fun c => (firstSlotOf s.self c fit).isNone).filterMap (·.message)) := rfl

theorem Stn.applyMap_of_none (none : s.air.claims = []) : s.applyMap t = s.mappedFor t := by
  rw [Stn.applyMap_eq, none, List.foldl_nil, List.filter_nil, List.filterMap_nil, Stn.returnToFront_nil]

theorem Stn.applyMap_of_fit (only : s.air.claims = [c]) (mine : c.message = some m.serial) {first : Nat}
    (fits : firstSlotOf s.self c (assignSlots 0 (s.claimOrder t)) = some first) :
    s.applyMap t = (s.mappedFor t).loadPage t first c m.serial := by
  have same : firstSlotOf (s.mappedFor t).self c (assignSlots 0 (s.claimOrder t)) = some first := fits
  rw [Stn.applyMap_eq, only, List.foldl_cons, List.foldl_nil, List.filter_cons_of_neg (by rw [fits]; nofun), List.filter_nil,
    List.filterMap_nil, Stn.returnToFront_nil]
  simp only [Stn.applyClaim, same, mine]

theorem Stn.applyMap_of_lost (only : s.air.claims = [c]) (mine : c.message = some m.serial) (found : s.msg? m.serial = some m)
    (misses : firstSlotOf s.self c (assignSlots 0 (s.claimOrder t)) = none) : s.applyMap t = { s.mappedFor t with
      store := s.store.fronted m
      air.claimsLost := satInc s.air.claimsLost } := by
  let lost : Stn := { s.mappedFor t with air.claimsLost := satInc s.air.claimsLost }
  have applied : Stn.applyClaim t (assignSlots 0 (s.claimOrder t)) (s.mappedFor t) c = lost := by
    have same : firstSlotOf (s.mappedFor t).self c (assignSlots 0 (s.claimOrder t)) = none := misses
    simp only [Stn.applyClaim, same]
    rfl
  have serials : [c].filterMap (·.message) = [m.serial] := by rw [List.filterMap_cons, mine]; rfl
  rw [Stn.applyMap_eq, only, List.foldl_cons, List.foldl_nil, List.filter_cons_of_pos (by rw [misses]; rfl), List.filter_nil,
    serials, applied]
  exact Stn.returnToFront_of_one (s := lost) found

theorem Stn.voidClaims_of_none (none : s.air.claims = []) : s.voidClaims t = s.abstained t := by
  rw [Stn.voidClaims, none, List.filterMap_nil, Stn.returnToFront_nil, Stn.abstainFrom_eq]

theorem Stn.voidClaims_of_one (only : s.air.claims = [c]) (mine : c.message = some m.serial)
    (found : s.msg? m.serial = some m) : s.voidClaims t = { s.abstained t with store := s.store.fronted m } := by
  have store : (s.abstained t).store = s.store := by
    unfold Stn.abstained
    split <;> rfl
  have still : (s.abstained t).msg? m.serial = some m := by rw [Stn.msg?, store]; exact found
  rw [Stn.voidClaims, only, List.filterMap_cons, mine, Stn.abstainFrom_eq]
  exact (Stn.returnToFront_of_one still).trans (by rw [store])

/-- The round end of round 2 closes the map behind it. -/
theorem exec_roundEnd_of_close {s : State} {r : RoundPos} {v : Stn} (ends : AtRoundEnd s.stn r) (quiet : QuietRound s.stn)
    (two : r.index = 2) (empty : s.stn.req.pend = []) (closes : Stn.closeMap
      { s.stn with bus.round := some { r with index := 3, left := s.stn.roster } } r.frame = v.emptyClaims)
    (intake : v.intake = s.stn.intake) : exec .roundEnd s = .next { s with stn := v.emptyClaims } := by
  let u : Stn := { s.stn with bus.round := some { r with index := 3, left := s.stn.roster } }
  have next : s.stn.nextRound r = u := Stn.nextRound_of_below (by rw [two]; decide) (by rw [two]; rfl)
  have checks := quiet.checks (u := u) next rfl rfl rfl
  obtain ⟨-, -, idle, noDelay, noRestart, waiting⟩ := quiet
  have places : u.givePlaces s.stn = u := Stn.givePlaces_of_le le_rfl
  have again : u.givePlaces u = u := Stn.givePlaces_of_le le_rfl
  have ended : s.stn.roundEnd r = v.emptyClaims := by
    simp only [Stn.roundEnd, checks, places, Stn.counts_of_none (s := u) empty noDelay noRestart, again,
      Stn.revisit_of_idle (s := u) idle, two, if_true]
    rw [show u.closeMap r.frame = v.emptyClaims from closes]
    exact Stn.settled_of_no_line ((congrArg Intake.waiting intake).trans waiting)
  rw [exec_roundEnd_eq ends, ended]

end

/-- Settles O49: the round end by the round's index, and the close of the map by its use and this station's claim. -/
theorem roundEndAdvancesTheRound : Obligations.RoundEndAdvancesTheRound := by
  unfold Obligations.RoundEndAdvancesTheRound
  refine ⟨fun s r ends quiet other below => ?_, fun s r ends quiet two empty => ?_⟩
  · intro counted
    have aged : s.stn.req.pend.map PendEntry.aged = (counted none false).stn.req.pend :=
      List.map_congr_left fun e _ => by
        unfold PendEntry.aged
        cases e.state <;> rfl
    have runs {round : Option RoundPos} {noted : Bool}
        (next : s.stn.nextRound r = { s.stn with bus := { s.stn.bus with round := round, noted := noted } }) :
        exec .roundEnd s = .next (counted round noted) := by
      rw [exec_roundEnd_eq ends, quiet.roundEnd other below next rfl rfl rfl rfl rfl rfl, Stn.counted]
      exact congrArg (fun l => Host.Outcome.next { s with stn := { s.stn with
        bus := { s.stn.bus with round := round, noted := noted }, req.pend := l } }) aged
    refine ⟨fun k early next => runs (Stn.nextRound_of_below (by omega) next), fun last rests unnoted => runs ?_,
      fun last rests noted => runs (Stn.nextRound_of_noted last noted (by rw [quiet.1]; nofun) rests)⟩
    rw [Stn.nextRound_of_last last unnoted, JoinPhase.afterRounds_of_not_running rests, ← unnoted]
  · intro t usable closed fit mapped
    let u : Stn := { s.stn with bus.round := some { r with index := 3, left := s.stn.roster } }
    have runs {v : Stn} (closes : u.closeMap r.frame = v.emptyClaims) (intake : v.intake = s.stn.intake) :=
      exec_roundEnd_of_close ends quiet two empty closes intake
    have abstains : u.abstained t = { s.stn.abstained t with bus.round := u.bus.round } := by
      unfold Stn.abstained
      split <;> rfl
    refine ⟨fun none => ⟨fun is => ?_, fun isNot => ?_⟩, fun c m rec tag l0 only mine found record tagged ladder => ?_⟩
    · exact runs ((Stn.closeMap_of_usable (s := u) is).trans (congrArg Stn.emptyClaims (Stn.applyMap_of_none none))) rfl
    · rw [runs ((Stn.closeMap_of_unusable (s := u) isNot).trans (congrArg Stn.emptyClaims (Stn.voidClaims_of_none none)))
        (by unfold Stn.abstained; split <;> rfl), abstains]
      rfl
    · intro plan l front zones
      have zone : (plan.stepAt l.step).selector.zones rec = zones := by
        unfold Selector.zones
        rfl
      have fronted : s.stn.store.fronted m = front := by
        unfold Store.fronted
        rfl
      refine ⟨fun first is noPage fits => ?_, fun is misses => ?_, fun isNot => ?_⟩
      · have loads := (Stn.applyMap_of_fit (s := u) only mine fits).trans
          (Stn.loadPage_of_first (s := u.mappedFor t) found record tagged ladder noPage first)
        rw [runs ((Stn.closeMap_of_usable (s := u) is).trans (congrArg Stn.emptyClaims loads)) rfl, ← zone]
        rfl
      · have loses := Stn.applyMap_of_lost (s := u) only mine found misses
        rw [runs ((Stn.closeMap_of_usable (s := u) is).trans (congrArg Stn.emptyClaims loses)) rfl, ← fronted]
        rfl
      · have voids := Stn.voidClaims_of_one (s := u) (t := t) only mine found
        rw [runs ((Stn.closeMap_of_unusable (s := u) isNot).trans (congrArg Stn.emptyClaims voids))
          (by unfold Stn.abstained; split <;> rfl), abstains, ← fronted]
        rfl

end Sys2Proof.Machine
end


section
/-!
SUPPORT. The last counts of the waits kept in rounds: the buddy wait, the retry delay of the return walk and RESTART
WAIT (R18, R41, R42, R50, R53, R54, R58).
-/

namespace Sys2Proof.Machine

section
variable {s : Stn} {k : Station} {w : Places}

/-! ### The buddy wait (R41, R42, R50) -/

theorem exec_buddyWaitEnd_of_last {s : State} (last : 7 ≤ s.stn.cust.buddyWait) :
    exec .buddyWaitEnd s = .next { s with stn := s.stn.countBuddyWait.settledFrom s.stn } :=
  congrArg Host.Outcome.next (if_pos (Nat.succ_le_succ last))

/-- The station that counts its buddy wait to n. -/
def Stn.waitCounted (s : Stn) (n : Nat) : Stn := { s with cust.buddyWait := n }

theorem Stn.countBuddyWait_of_live (state : s.cust.state = .reclaiming) (view : s.view s.buddy = .live) :
    s.countBuddyWait = s.waitCounted 0 := by
  rw [Stn.countBuddyWait, if_pos state]
  simp only [view, if_true]
  exact if_neg nofun

theorem Stn.countBuddyWait_of_early (state : s.cust.state = .reclaiming) (view : s.view s.buddy ≠ .live)
    (early : s.cust.buddyWait < 7) : s.countBuddyWait = s.waitCounted (s.cust.buddyWait + 1) := by
  have count : min (s.cust.buddyWait + 1) Config.buddyRounds = s.cust.buddyWait + 1 :=
    min_eq_left (Nat.succ_le_of_lt (early.trans (by decide)))
  have still : ¬(s.waitCounted (s.cust.buddyWait + 1)).buddyWaitOver = true := by
    have notYet : ¬Config.buddyRounds ≤ s.cust.buddyWait + 1 := Nat.not_le.2 (Nat.succ_lt_succ early)
    rw [Stn.buddyWaitOver, show decide (Config.buddyRounds ≤ (s.waitCounted (s.cust.buddyWait + 1)).cust.buddyWait) = false from
      decide_eq_false notYet]
    nofun
  rw [Stn.countBuddyWait, if_pos state]
  simp only [if_neg view, count]
  exact if_neg still

/-- The last count of the buddy wait, by the conditions of R50. -/
theorem Stn.countBuddyWait_of_last (state : s.cust.state = .reclaiming) (view : s.view s.buddy ≠ .live)
    (last : 7 ≤ s.cust.buddyWait) : s.countBuddyWait =
      if s.cust.returnTaken = false ∨ (s.view s.buddy).down = true then (s.waitCounted 8).enterLive .atOnce else s.waitCounted 8 := by
  have count : min (s.cust.buddyWait + 1) Config.buddyRounds = 8 := min_eq_right (Nat.succ_le_succ last)
  have isOver : (s.waitCounted 8).buddyWaitOver = true ↔ s.cust.returnTaken = false ∨ (s.view s.buddy).down = true := by
    rw [Stn.buddyWaitOver, show decide (Config.buddyRounds ≤ (s.waitCounted 8).cust.buddyWait) = true from rfl, Bool.true_and,
      Bool.or_eq_true, Bool.not_eq_true']
    exact Iff.rfl
  rw [Stn.countBuddyWait, if_pos state]
  simp only [if_neg view, count]
  exact if_congr isOver rfl rfl

/-- A FAILED peer without its custodian meets the second check no more. -/
theorem Stn.failView_of_failed (failed : s.view k = .failed) (w : Places) : s.failView w k = s := if_pos failed

theorem Stn.setCustodian_none_of_unasked (quiet : Unasked s) (held : s.custodian k ≠ none) (peer : k ≠ s.self) (w : Places) :
    s.setCustodian w k none = s.recustodied k none := by
  have changed := Stn.changeCustodian_of_unasked quiet held w
  rw [Stn.setCustodian, changed]
  exact if_neg fun ⟨_, own, _⟩ => peer own

/-- One FAILED station whose buddy is FAILED, and that has a custodian still, gets none. -/
theorem Stn.doubleFailure_of_held (quiet : Unasked s) (inside : k ∈ s.roster) (peer : k ≠ s.self) (failed : s.view k = .failed)
    (buddy : s.view (buddyOf s.img.roster k) = .failed) (held : s.custodian k ≠ none)
    (others : ∀ j ∈ s.roster, j ≠ s.self → j ≠ k → (s.view j).down = true →
      s.view (buddyOf s.img.roster j) ≠ .failed ∨ s.view j = .failed ∧ s.custodian j = none) (w : Places) :
    s.doubleFailure w = s.recustodied k none := by
  have meets : s.DoublyDown k := ⟨peer, by rw [failed]; rfl, buddy, fun both => held both.2⟩
  have found : s.bothDown? = some k := by
    refine Stn.bothDown?_of_only inside meets fun j there ⟨own, down, failed', open_⟩ => ?_
    by_contra other
    exact (others j there own other down).elim (fun up => up failed') open_
  refine Stn.doubleFailure_of_some found ?_ fun j there own down failed' => ?_
  · rw [Stn.failView_of_failed failed, Stn.setCustodian_none_of_unasked quiet held peer]
  · have views (h : Station) : (s.recustodied k none).view h = s.view h := Stn.view_recustodied h
    rw [views] at down ⊢
    rw [views] at failed'
    by_cases here : j = k
    · subst here
      obtain ⟨m, is⟩ := Option.ne_none_iff_exists'.1 held
      exact ⟨failed, Stn.custodian_recustodied_same (Stn.entry?_of_custodian is)⟩
    · rw [Stn.custodian_recustodied_of_ne here]
      exact (others j there own here down).resolve_left fun up => up failed'

/-- The entry into LIVE of a station that has no custodian, and becomes its own. -/
theorem Stn.becomeLive_of_none (quiet : Unasked s) (apart : s.buddy ≠ s.self) (view : s.view s.buddy ≠ .live)
    (none : s.custodian s.self = none) (w : Places) :
    s.becomeLive w = ({ s with cust.state := .live } : Stn).recustodied s.self (some s.self) := by
  let t : Stn := { s with cust.state := .live }
  have other : t.custodian t.self ≠ some t.self := by
    rw [show t.custodian t.self = .none from none]
    nofun
  have moved := Stn.setCustodian_some_of_unasked (s := t) quiet other w
  have notLive : (t.recustodied t.self (some t.self)).view t.buddy ≠ .live := by
    rw [Stn.view_recustodied]
    exact (Stn.view_of_map (s := s) (t := t) rfl rfl apart).trans_ne view
  have became : s.becomeLive w = if (t.setCustodian w t.self (some t.self)).view (t.setCustodian w t.self (some t.self)).buddy =
      .live then (t.setCustodian w t.self (some t.self)).startMirror else t.setCustodian w t.self (some t.self) := by
    simp only [Stn.becomeLive]
    rw [if_pos (show t.custodian t.self = .none from none)]
  rw [became, moved]
  exact if_neg notLive

/-! ### The retry delay (R18, R53, R54) -/

theorem Stn.countRetry_of_early {n : Nat} (delay : s.cust.retryDelay = some n) (idle : s.subs.ret = .idle) (early : 2 ≤ n) :
    s.countRetry = { s with cust.retryDelay := some (n - 1) } := by
  simp only [Stn.countRetry, delay, if_pos idle, if_neg (Nat.not_le.2 (show 1 < n from early))]

theorem Stn.countRetry_of_last (delay : s.cust.retryDelay = some 1) (idle : s.subs.ret = .idle) :
    s.countRetry = s.retryOver := by
  simp only [Stn.countRetry, delay, if_pos idle, le_refl, if_true]

/-- The station without its retry delay. -/
def Stn.undelayed (s : Stn) : Stn := { s with cust.retryDelay := none }

theorem Stn.retryOver_of_unheard (unheard : (s.view s.ward).heard = false) : s.retryOver = s.undelayed := by
  have same : ¬(s.undelayed.view s.undelayed.ward).heard = true := by
    show ¬(s.view s.ward).heard = true
    rw [unheard]
    nofun
  exact if_neg same

theorem Stn.retryOver_of_heard (heard : (s.view s.ward).heard = true) : s.retryOver = s.undelayed.requestReturn .atOnce :=
  if_pos heard

theorem Stn.requestReturn_of_mine (mine : inSet s.cust.custody s.ward = true) (idle : s.subs.ret = .idle) (w : Places) :
    (s.subs.grant = .nobody → s.requestReturn w = { s.undelayed with subs := s.subs.returning s.ward }) ∧
    (s.subs.grant ≠ .nobody → s.requestReturn w = { s.undelayed with subs.ret := .waiting }) := by
  have mine' : inSet s.undelayed.cust.custody s.undelayed.ward = true := mine
  have aborted : s.undelayed.abortReturn = s.undelayed := Stn.abortReturn_of_idle (s := s.undelayed) idle
  have body : s.requestReturn w = match s.undelayed.subs.grant with
      | .nobody => s.undelayed.startReturn
      | _ => { s.undelayed with subs.ret := .waiting } := by
    have step : s.requestReturn w = (fun t : Stn => match t.subs.grant with
      | .nobody => t.startReturn
      | _ => { t with subs.ret := .waiting }) s.undelayed.abortReturn :=
      congrArg (fun t : Stn => match t.abortReturn.subs.grant with
        | .nobody => t.abortReturn.startReturn
        | _ => { t.abortReturn with subs.ret := .waiting }) (if_pos mine')
    rw [step, aborted]
  refine ⟨fun nobody => ?_, fun granted => ?_⟩
  · rw [body, show s.undelayed.subs.grant = .nobody from nobody]
    exact Stn.startReturn_eq s.undelayed
  · rw [body]
    cases is : s.undelayed.subs.grant with
    | nobody => exact absurd is granted
    | drain | ret => rfl

theorem Subscribers.returning_of_none {t : Subscribers} {ward : Station}
    (away : ∀ r ∈ t.active, ¬(r.origin = .adopted ∧ r.home = ward) ∧ r.returning = false) :
    t.returning ward = { t with grant := .ret, ret := .running .standby none } := by
  have same : (t.active.map fun r => if r.origin = .adopted ∧ r.home = ward then { r with returning := true } else r) =
      t.active :=
    (List.map_congr_left fun r mem => if_neg (away r mem).1).trans (List.map_id' _)
  have noReturning : ¬t.active.any (·.returning) = true := by
    rw [List.any_eq_true]
    rintro ⟨r, mem, is⟩
    rw [(away r mem).2] at is
    cases is
  simp only [Subscribers.returning, same, if_neg noReturning]

theorem Subscribers.returning_of_some {t : Subscribers} {ward : Station}
    (mine : ∃ r ∈ t.active, r.origin = .adopted ∧ r.home = ward) : t.returning ward = { t with
      active := t.active.map fun r => if r.origin = .adopted ∧ r.home = ward then { r with returning := true } else r
      grant := .ret
      ret := .running .adopted none } := by
  obtain ⟨r, mem, is⟩ := mine
  have marked : (t.active.map fun r => if r.origin = .adopted ∧ r.home = ward then { r with returning := true } else r).any
      (·.returning) = true := by
    rw [List.any_eq_true]
    exact ⟨_, List.mem_map.2 ⟨r, mem, rfl⟩, by rw [if_pos is]⟩
  simp only [Subscribers.returning, marked, if_true]

/-! ### RESTART WAIT (R58) -/

theorem Stn.countRestart_of_early {n : Nat} (waits : s.subs.mirror = .restartWait n) (early : 2 ≤ n) :
    s.countRestart = { s with subs.mirror := .restartWait (n - 1) } := by
  simp only [Stn.countRestart, waits, if_neg (Nat.not_le.2 (show 1 < n from early))]

theorem Stn.countRestart_of_last (waits : s.subs.mirror = .restartWait 1) : s.countRestart =
    if s.cust.state = .live ∧ s.view s.buddy = .live then s.mirrored else { s with subs.mirror := .idle } := by
  have starts : s.startMirror = s.mirrored := by
    simp only [Stn.startMirror, waits]
    rfl
  simp only [Stn.countRestart, waits, le_refl, if_true, Stn.restartOver, starts]

end

end Sys2Proof.Machine
end


section
/-!
SUPPORT. Custodian changes and failures of a station whose pending request table is empty (R24, R32, R39, R42): what
they cannot change.
-/

namespace Sys2Proof.Machine

/-! ### What a custodian change leaves (R32, R39) -/

/-- Station u is station t but for its outbox, its office map and its route cache; an empty outbox stays so. -/
def Stn.Shifts (t u : Stn) : Prop :=
  u = { t with
    bus.outbox := u.bus.outbox
    cust.map := u.cust.map
    req.cache := u.req.cache } ∧ (t.bus.outbox = [] → u.bus.outbox = [])

section
variable {s t u v : Stn} {k h : Station} {w : Places}

theorem Stn.Shifts.refl (t : Stn) : t.Shifts t := ⟨rfl, id⟩

theorem Stn.Shifts.trans (first : t.Shifts u) (second : u.Shifts v) : t.Shifts v := by
  obtain ⟨fields, empty⟩ := first
  obtain ⟨fields', empty'⟩ := second
  refine ⟨?_, fun none => empty' (empty none)⟩
  conv_lhs => rw [fields', fields]

theorem Stn.Shifts.fields (shifts : t.Shifts u) : u.ctl = t.ctl ∧ u.intake = t.intake ∧ u.req.pend = t.req.pend ∧
    u.subs = t.subs ∧ u.cust.state = t.cust.state ∧ u.cust.retryDelay = t.cust.retryDelay := by
  rw [shifts.1]
  exact ⟨rfl, rfl, rfl, rfl, rfl, rfl⟩

theorem Stn.Shifts.of_outbox (t : Stn) {l : List Note} (empty : t.bus.outbox = [] → l = []) :
    t.Shifts { t with bus.outbox := l } := ⟨rfl, empty⟩

theorem Stn.Shifts.of_mapped (t : Stn) (k : Station) (f : MapEntry → MapEntry) : t.Shifts (t.mapped k f) := ⟨rfl, id⟩

theorem updWhere_nil {α : Type} (g : α → Bool) (f : α → α) : updWhere g f [] = [] := rfl

theorem Stn.pend?_of_empty (empty : s.req.pend = []) (tag : Tag) : s.pend? tag = none := by
  rw [Stn.pend?, empty]
  rfl

theorem Stn.updPend_of_empty (empty : s.req.pend = []) (tag : Tag) (f : PendEntry → PendEntry) : s.updPend tag f = s := by
  rw [Stn.updPend, empty, updWhere_nil, ← empty]

theorem Stn.finish_of_empty (empty : s.req.pend = []) (tag : Tag) (text : List Byte) : s.finish tag text = s := by
  simp only [Stn.finish, Stn.pend?_of_empty empty]

theorem Stn.runLocal_of_empty (empty : s.req.pend = []) (w : Places) (tag : Tag) : s.runLocal w tag = s := by
  simp only [Stn.runLocal, Stn.pend?_of_empty empty, Option.bind_none]

theorem NoEntryWaits.of_empty (empty : s.req.pend = []) : NoEntryWaits s := by
  intro e mem
  rw [empty] at mem
  cases mem

theorem Stn.givePlacesAt_of_empty (empty : s.req.pend = []) (w : Places) (before : Stn) : s.givePlacesAt w before = s := by
  cases w with
  | atOnce => exact Stn.givePlaces_of_none (.of_empty empty) before
  | atEnd => rfl

theorem Stn.dropForward_shifts (t : Stn) (tag : Tag) : t.Shifts (t.dropForward tag) :=
  .of_outbox t fun empty => by rw [empty, List.filter_nil]

theorem Stn.redirect_shifts (empty : s.req.pend = []) (w : Places) (h : Station) (tag : Tag) :
    s.Shifts (s.redirect w h tag) := by
  have drops := s.dropForward_shifts tag
  have dropped : (s.dropForward tag).req.pend = [] := empty
  unfold Stn.redirect
  split
  · rw [Stn.finish_of_empty dropped]
    exact drops
  · split
    · simp only [Stn.updPend_of_empty dropped, Stn.givePlacesAt_of_empty dropped, Stn.runLocal_of_empty dropped]
      exact drops
    · rw [Stn.updPend_of_empty]
      · exact .of_outbox s fun none => by rw [none, updWhere_nil]
      · exact empty

theorem foldl_shifts {α : Type} {f : Stn → α → Stn} (step : ∀ t : Stn, t.req.pend = [] → ∀ a, t.Shifts (f t a)) (l : List α)
    (empty : s.req.pend = []) : s.Shifts (l.foldl f s) := by
  induction l generalizing s with
  | nil => exact .refl s
  | cons a l ih =>
    have first := step s empty a
    exact first.trans (ih (by rw [first.fields.2.2.1, empty]))

theorem Stn.changeCustodian_shifts (empty : s.req.pend = []) (w : Places) (h : Station) (c : Option Station) :
    s.Shifts (s.changeCustodian w h c) := by
  unfold Stn.changeCustodian
  split
  · exact .refl s
  · have mapped : s.Shifts (s.updEntry h fun e => { e with custodian := c }) := ⟨rfl, id⟩
    refine mapped.trans ?_
    unfold Stn.custodianChanged
    refine Stn.Shifts.trans ⟨rfl, fun none => ?_⟩ (foldl_shifts (fun t none tag => Stn.redirect_shifts none w h tag) _ empty)
    exact (congrArg (updWhere _ _) none).trans (updWhere_nil _ _)

theorem Stn.setCustodian_shifts (empty : s.req.pend = []) (w : Places) (h : Station) (c : Option Station) :
    s.Shifts (s.setCustodian w h c) := by
  have first := Stn.changeCustodian_shifts empty w h c
  simp only [Stn.setCustodian]
  split
  · exact first.trans (Stn.changeCustodian_shifts (by rw [first.fields.2.2.1, empty]) w h _)
  · exact first

/-! ### The failures of a LIVE station's peers (R42) -/

/-- No request waits and no return walk runs at a LIVE station. -/
def Stn.Rests (s : Stn) : Prop :=
  s.bus.outbox = [] ∧ s.req.pend = [] ∧ s.subs.ret = .idle ∧ s.cust.state = .live

theorem Stn.Rests.of_shifts (rests : t.Rests) (shifts : t.Shifts u) : u.Rests := by
  obtain ⟨-, -, pend, subs, state, -⟩ := shifts.fields
  obtain ⟨none, empty, idle, live⟩ := rests
  exact ⟨shifts.2 none, pend.trans empty, by rw [subs, idle], state.trans live⟩

theorem Stn.Rests.unasked (rests : s.Rests) : Unasked s :=
  ⟨rests.1, by rw [rests.2.1]; exact fun _ mem => nomatch mem⟩

theorem Stn.failView_shifts (rests : s.Rests) (w : Places) (k : Station) : s.Shifts (s.failView w k) := by
  by_cases failed : s.view k = .failed
  · rw [Stn.failView_of_failed failed]
    exact .refl s
  · rw [Stn.failView_eq rests.unasked failed rests.2.2.1 fun is => by rw [rests.2.2.2] at is; cases is]
    have viewed : s.Shifts (s.viewed k .failed) := .of_mapped s k _
    refine viewed.trans (foldl_shifts (fun t empty h => ?_) _ (rests.of_shifts viewed).2.1)
    split
    · exact Stn.setCustodian_shifts empty w h none
    · exact .refl t

theorem Stn.bothDown_shifts (w : Places) (fuel : Nat) (rests : s.Rests) : s.Shifts (Stn.bothDown w fuel s) := by
  induction fuel generalizing s with
  | zero => exact .refl s
  | succ fuel ih =>
    unfold Stn.bothDown
    split
    · exact .refl s
    · next k _ =>
      have fails := Stn.failView_shifts rests w k
      have loses := fails.trans (Stn.setCustodian_shifts (rests.of_shifts fails).2.1 w k none)
      exact loses.trans (ih (rests.of_shifts loses))

/-- The entry into LIVE: the mirror walk may start. -/
theorem Stn.enterLive_shifts (outbox : s.bus.outbox = []) (empty : s.req.pend = []) (idle : s.subs.ret = .idle) (w : Places) :
    ∃ mirror, (mirror = s.subs.mirror ∨ mirror = .running none true false) ∧
      ({ s with cust.state := .live, subs.mirror := mirror } : Stn).Shifts (s.enterLive w) := by
  let t : Stn := { s with cust.state := .live }
  have first : t.Shifts (if t.custodian t.self = none then t.setCustodian w t.self (some t.self) else t) := by
    split
    · exact Stn.setCustodian_shifts (s := t) empty w t.self _
    · exact .refl t
  generalize is : (if t.custodian t.self = none then t.setCustodian w t.self (some t.self) else t) = u at first
  have became : s.becomeLive w = if u.view u.buddy = .live then u.startMirror else u := by
    rw [← is]
    rfl
  have restsT : t.Rests := ⟨outbox, empty, idle, rfl⟩
  have rests := restsT.of_shifts first
  rw [Stn.enterLive, became]
  by_cases live : u.view u.buddy = .live
  · rw [if_pos live, Stn.startMirror_of_empty rests.1]
    refine ⟨.running none true false, .inr rfl, Stn.Shifts.trans (u := u.mirrored) ?_ (Stn.bothDown_shifts w 16 rests)⟩
    obtain ⟨fields, none⟩ := first
    refine ⟨?_, none⟩
    rw [Stn.mirrored]
    conv_lhs => rw [fields]
  · rw [if_neg live]
    exact ⟨s.subs.mirror, .inl rfl, first.trans (Stn.bothDown_shifts w 16 rests)⟩

end

end Sys2Proof.Machine
end


section
/-!
SUPPORT. The round ends at which a wait kept in rounds is counted, or runs out (R20, R50, R53, R58).
-/

namespace Sys2Proof.Machine

section
variable {s u v : Stn} {r : RoundPos} {next : Option RoundPos}

/-! ### The round ends into the next (R20) -/

theorem EndsInto.nextRound (ends : EndsInto s r next) : s.nextRound r = { s with bus.round := next } := by
  obtain ⟨-, -, ⟨k, early, is, rfl⟩ | ⟨last, unnoted, rests, rfl⟩⟩ := ends
  · exact Stn.nextRound_of_below (by omega) is
  · rw [Stn.nextRound_of_last last unnoted, JoinPhase.afterRounds_of_not_running rests]

theorem EndsInto.index_ne (ends : EndsInto s r next) : r.index ≠ 2 := by
  obtain ⟨-, -, ⟨k, early, -⟩ | ⟨last, -⟩⟩ := ends
  · exact fun two => by rw [two] at early; exact absurd early (by decide)
  · rw [last]
    decide

theorem Stn.roundEnd_of_waits {a : Stn} (checks : (s.nextRound r).declarationCheck.redeclarationCheck.countBuddyWait = a)
    (gives : a.givePlaces s = a) (counts : a.countRequests.countRetry.countRestart = v) (again : v.givePlaces a = v)
    (revisits : v.revisit = v) (other : r.index ≠ 2) : s.roundEnd r = v.settled := by
  simp only [Stn.roundEnd, checks, gives, counts, again, revisits, if_neg other]

/-- The checks of a round end find nothing due. -/
theorem NoCheckDue.checks (none : NoCheckDue s) (ends : EndsInto s r next) :
    (s.nextRound r).declarationCheck.redeclarationCheck.countBuddyWait = { s with bus.round := next } := by
  obtain ⟨state, fewer⟩ := none
  exact Stn.checks_of_none (u := { s with bus.round := next }) ends.nextRound state fewer

/-! ### A walk that a round end leaves alone (R54) -/

theorem Stn.revisit_of_apart (apart : ∀ pos, s.subs.ret ≠ .running .revisit pos) (stays : s.advanceReturn = s) :
    s.revisit = s := by
  have still : (s.subs.active.map (·.admin.sub)).foldl Stn.revisitOne s = s := by
    refine foldl_of_fixed fun sub _ => ?_
    unfold Stn.revisitOne
    split
    next walks _ => exact absurd walks (apart _)
    next => rfl
  rw [Stn.revisit, still, stays]

theorem Stn.revisit_of_waiting (waits : s.subs.ret = .waiting) : s.revisit = s := by
  refine Stn.revisit_of_apart (by rw [waits]; nofun) ?_
  simp only [Stn.advanceReturn, waits]

theorem Stn.revisit_of_returning {t : Subscribers} (is : s.subs = t.returning s.ward) : s.revisit = s := by
  have ret : s.subs.ret = if s.subs.active.any (·.returning) then .running .adopted none else .running .standby none := by
    rw [is]
    rfl
  by_cases some : s.subs.active.any (·.returning) = true
  · rw [if_pos some] at ret
    obtain ⟨y, mem, back⟩ := List.any_eq_true.1 some
    exact Stn.revisit_of_apart (by rw [ret]; nofun)
      (Stn.advanceReturn_of_above ret ⟨y, mem, back, nofun⟩)
  · rw [if_neg some] at ret
    refine Stn.revisit_of_apart (by rw [ret]; nofun) ?_
    simp only [Stn.advanceReturn, ret]

/-- The return walk is requested where no request waits: the station begins it or waits for the grant. -/
theorem Stn.requestReturn_of_empty (empty : s.req.pend = []) (idle : s.subs.ret = .idle) (w : Places) :
    (s.requestReturn w).intake = s.intake ∧ (s.requestReturn w).req.pend = [] ∧
      (s.requestReturn w).subs.mirror = s.subs.mirror ∧ (s.requestReturn w).revisit = s.requestReturn w := by
  let b : Stn := if inSet s.undelayed.cust.custody s.undelayed.ward then s.undelayed
    else { s.undelayed with cust.custody := setAdd s.undelayed.cust.custody s.undelayed.ward }.setCustodian w s.undelayed.ward
      (some s.undelayed.self)
  have facts : b.intake = s.intake ∧ b.req.pend = [] ∧ b.subs = s.subs := by
    unfold b
    split
    · exact ⟨rfl, empty, rfl⟩
    · have shifts := Stn.setCustodian_shifts
        (s := { s.undelayed with cust.custody := setAdd s.undelayed.cust.custody s.undelayed.ward }) empty w
        s.undelayed.ward (some s.undelayed.self)
      obtain ⟨-, intake, pend, subs, -⟩ := shifts.fields
      exact ⟨intake, pend.trans empty, subs⟩
  obtain ⟨intake, pend, subs⟩ := facts
  have mirror : b.subs.mirror = s.subs.mirror := by rw [subs]
  have aborted : b.abortReturn = b := Stn.abortReturn_of_idle (by rw [subs]; exact idle)
  have step : s.requestReturn w = (fun t : Stn => match t.subs.grant with
      | .nobody => t.startReturn
      | _ => { t with subs.ret := .waiting }) b.abortReturn := rfl
  rw [step, aborted]
  dsimp only
  split
  · rw [Stn.startReturn_eq]
    exact ⟨intake, pend, mirror, Stn.revisit_of_returning rfl⟩
  · exact ⟨intake, pend, mirror, Stn.revisit_of_waiting rfl⟩

theorem Stn.retryOver_of_empty (empty : s.req.pend = []) (idle : s.subs.ret = .idle) :
    s.retryOver.req.pend = [] ∧ s.retryOver.subs.mirror = s.subs.mirror ∧ s.retryOver.revisit = s.retryOver := by
  by_cases heard : (s.view s.ward).heard = true
  · rw [Stn.retryOver_of_heard heard]
    exact (Stn.requestReturn_of_empty (s := s.undelayed) empty idle .atOnce).2
  · rw [Stn.retryOver_of_unheard (Bool.not_eq_true _ ▸ heard)]
    exact ⟨empty, rfl, Stn.revisit_of_idle (s := s.undelayed) idle⟩

end

/-! ### The counts of a round end (R50, R53, R58) -/

section
variable {s : State} {r : RoundPos} {next : Option RoundPos} (ends : EndsInto s.stn r next) (idle : s.stn.subs.ret = .idle)
  (empty : s.stn.req.pend = [])
include ends idle empty

omit idle in
/-- The round end where the counts alone lead to station v. -/
theorem exec_roundEnd_of_counts {v : Stn}
    (noCheck : NoCheckDue s.stn) (counts : ({ s.stn with bus.round := next } : Stn).countRetry.countRestart = v)
    (pend : v.req.pend = []) (revisits : v.revisit = v) :
    exec .roundEnd s = .next { s with stn := v.settled } := by
  have checks := noCheck.checks ends
  have counted : ({ s.stn with bus.round := next } : Stn).countRequests = { s.stn with bus.round := next } :=
    Stn.countRequests_of_empty empty
  rw [exec_roundEnd_eq ends.1, Stn.roundEnd_of_waits checks (Stn.givePlaces_of_le le_rfl) (by rw [counted, counts])
    (Stn.givePlaces_of_none (.of_empty pend) _) revisits ends.index_ne]

theorem exec_roundEnd_of_delay {n : Nat} (noCheck : NoCheckDue s.stn) (delay : s.stn.cust.retryDelay = some n)
    (noRestart : ∀ k, s.stn.subs.mirror ≠ .restartWait k) :
    let u : State := { s with stn.bus.round := next }
    (2 ≤ n → exec .roundEnd s = .next { u with stn.cust.retryDelay := some (n - 1) }) ∧
    (n = 1 → exec .roundEnd s = exec .returnRetryDelayEnd u) := by
  intro u
  refine ⟨fun early => ?_, fun last => ?_⟩
  · let v : Stn := { u.stn with cust.retryDelay := some (n - 1) }
    have counts : u.stn.countRetry.countRestart = v := by
      rw [Stn.countRetry_of_early (s := u.stn) delay idle early]
      exact Stn.countRestart_of_none (s := v) noRestart
    rw [exec_roundEnd_of_counts ends empty noCheck counts empty (Stn.revisit_of_idle (s := v) idle),
      Stn.settled_of_no_line (s := v) ends.2.1]
  · subst last
    obtain ⟨pend, mirror, revisits⟩ := Stn.retryOver_of_empty (s := u.stn) empty idle
    have counts : u.stn.countRetry.countRestart = u.stn.retryOver := by
      rw [Stn.countRetry_of_last (s := u.stn) delay idle]
      exact Stn.countRestart_of_none (by rw [mirror]; exact noRestart)
    have row : exec .returnRetryDelayEnd u = .next { u with stn := u.stn.countRetry.settledFrom u.stn } :=
      congrArg Host.Outcome.next (if_pos delay)
    rw [exec_roundEnd_of_counts ends empty noCheck counts pend revisits, row,
      Stn.countRetry_of_last (s := u.stn) delay idle, Stn.settledFrom, Stn.givePlaces_of_none (.of_empty pend)]

theorem exec_roundEnd_of_restart {n : Nat} (noCheck : NoCheckDue s.stn) (waits : s.stn.subs.mirror = .restartWait n)
    (noDelay : s.stn.cust.retryDelay = none) :
    let u : State := { s with stn.bus.round := next }
    (2 ≤ n → exec .roundEnd s = .next { u with stn.subs.mirror := .restartWait (n - 1) }) ∧
    (n = 1 → exec .roundEnd s = exec .mirrorRestartWaitEnd u) := by
  intro u
  have noRetry : u.stn.countRetry = u.stn := Stn.countRetry_of_none noDelay
  refine ⟨fun early => ?_, fun last => ?_⟩
  · let v : Stn := { u.stn with subs.mirror := .restartWait (n - 1) }
    have counts : u.stn.countRetry.countRestart = v := by
      rw [noRetry]
      exact Stn.countRestart_of_early (s := u.stn) waits early
    rw [exec_roundEnd_of_counts ends empty noCheck counts empty (Stn.revisit_of_idle (s := v) idle),
      Stn.settled_of_no_line (s := v) ends.2.1]
  · subst last
    have same : u.stn.countRestart.intake = s.stn.intake ∧ u.stn.countRestart.req = s.stn.req ∧
        u.stn.countRestart.subs.ret = .idle := by
      rw [Stn.countRestart_of_last (s := u.stn) waits]
      split <;> exact ⟨rfl, rfl, idle⟩
    obtain ⟨intake, req, ret⟩ := same
    have row : exec .mirrorRestartWaitEnd u = .next { u with stn := u.stn.countRestart } :=
      congrArg Host.Outcome.next (if_pos waits)
    rw [exec_roundEnd_of_counts ends empty noCheck (congrArg Stn.countRestart noRetry) (by rw [req]; exact empty)
      (Stn.revisit_of_idle ret), row, Stn.settled_of_no_line (by rw [intake]; exact ends.2.1)]

/-- The buddy wait at a round end. -/
theorem exec_roundEnd_of_buddyWait (state : s.stn.cust.state = .reclaiming) (noDelay : s.stn.cust.retryDelay = none)
    (mirror : s.stn.subs.mirror = .idle) :
    let u : State := { s with stn.bus.round := next }
    (s.stn.view s.stn.buddy = .live → exec .roundEnd s = .next { u with stn.cust.buddyWait := 0 }) ∧
    (s.stn.view s.stn.buddy ≠ .live → s.stn.cust.buddyWait < 7 →
      exec .roundEnd s = .next { u with stn.cust.buddyWait := s.stn.cust.buddyWait + 1 }) ∧
    (s.stn.view s.stn.buddy ≠ .live → 7 ≤ s.stn.cust.buddyWait → s.stn.bus.outbox = [] →
      exec .roundEnd s = exec .buddyWaitEnd u) := by
  intro u
  have notLive : u.stn.cust.state ≠ .live := by
    show s.stn.cust.state ≠ .live
    rw [state]
    nofun
  have runs {v : Stn} (counts : u.stn.countBuddyWait = v) (pend : v.req.pend = []) (delay : v.cust.retryDelay = none)
      (noRestart : ∀ n, v.subs.mirror ≠ .restartWait n) (ret : v.subs.ret = .idle) :
      exec .roundEnd s = .next { s with stn := v.settled } := by
    have checks : (s.stn.nextRound r).declarationCheck.redeclarationCheck.countBuddyWait = v := by
      rw [ends.nextRound, Stn.declarationCheck_of_none (s := u.stn) fun live => absurd live notLive,
        Stn.redeclarationCheck_of_none (s := u.stn) fun live => absurd live notLive, counts]
    rw [exec_roundEnd_eq ends.1, Stn.roundEnd_of_waits checks (Stn.givePlaces_of_none (.of_empty pend) _)
      (Stn.counts_of_none pend delay noRestart) (Stn.givePlaces_of_none (.of_empty pend) _) (Stn.revisit_of_idle ret)
      ends.index_ne]
  have counted (n : Nat) (counts : u.stn.countBuddyWait = u.stn.waitCounted n) :
      exec .roundEnd s = .next { u with stn.cust.buddyWait := n } := by
    rw [runs counts empty noDelay (fun k => by rw [show (u.stn.waitCounted n).subs.mirror = .idle from mirror]; nofun) idle,
      Stn.settled_of_no_line (s := u.stn.waitCounted n) ends.2.1]
    rfl
  refine ⟨fun view => counted 0 (Stn.countBuddyWait_of_live (s := u.stn) state view),
    fun view early => counted _ (Stn.countBuddyWait_of_early (s := u.stn) state view early), fun view last outbox => ?_⟩
  have facts : u.stn.countBuddyWait.req.pend = [] ∧ u.stn.countBuddyWait.cust.retryDelay = none ∧
      (∀ n, u.stn.countBuddyWait.subs.mirror ≠ .restartWait n) ∧ u.stn.countBuddyWait.subs.ret = .idle := by
    rw [Stn.countBuddyWait_of_last (s := u.stn) state view last]
    split
    · obtain ⟨m, is, shifts⟩ := Stn.enterLive_shifts (s := u.stn.waitCounted 8) outbox empty idle .atOnce
      obtain ⟨-, -, pend, subs, -, delay⟩ := shifts.fields
      refine ⟨pend.trans empty, delay.trans noDelay, fun n => ?_, by rw [subs]; exact idle⟩
      rw [subs]
      obtain rfl | rfl := is
      · show s.stn.subs.mirror ≠ _
        rw [mirror]
        nofun
      · nofun
    · exact ⟨empty, noDelay, fun n => by rw [show (u.stn.waitCounted 8).subs.mirror = .idle from mirror]; nofun, idle⟩
  obtain ⟨pend, delay, noRestart, ret⟩ := facts
  rw [runs rfl pend delay noRestart ret, exec_buddyWaitEnd_of_last (s := u) last, Stn.settledFrom,
    Stn.givePlaces_of_none (.of_empty pend)]

end

end Sys2Proof.Machine
end


section
/-!
RESULT. The waits kept in rounds, and the pending entries that a round end brings to their limits (R18, R20, R24, R41,
R42, R50, R53, R54, R58, R91, R92).
-/

namespace Sys2Proof.Machine

/-! ### The places that the entries which wait have been offered (R24, R90) -/

/-- Entry e waits for no place that is free. -/
def Stn.Served (s : Stn) (e : PendEntry) : Prop :=
  e.target = none ∨ e.state ≠ .sending ∨ (∃ n ∈ s.bus.outbox, n.forwardTag? = some e.tag) ∨ 32 ≤ s.bus.outbox.length

section
variable {s t u x : Stn} {e o : PendEntry} {tag k : Tag}

theorem Stn.Served.offerOne (served : s.Served e) : s.offerOne e = s := by
  obtain none | other | noted | full := served
  · simp only [Stn.offerOne, none]
  · exact Stn.offerOne_of_not_waiting (Stn.waitsForPlace_eq_false fun is => absurd is other)
  · exact Stn.offerOne_of_not_waiting (Stn.waitsForPlace_eq_false fun _ => noted)
  · exact Stn.offerOne_of_full full

theorem Stn.served_offerOne (s : Stn) (e : PendEntry) : (s.offerOne e).Served e := by
  by_cases room : s.bus.outbox.length < 32
  · by_cases waits : s.waitsForPlace e = true
    · cases target : e.target with
      | none => exact .inl target
      | some m =>
        rw [Stn.offerOne_of_room target waits room]
        exact .inr (.inr (.inl ⟨_, List.mem_append_right _ (List.mem_singleton_self _), rfl⟩))
    · rw [Stn.offerOne_of_not_waiting (Bool.not_eq_true _ ▸ waits)]
      by_cases sending : e.state = .sending
      · refine .inr (.inr (.inl ?_))
        by_contra none
        exact waits (Stn.waitsForPlace_iff.2 ⟨sending, fun n mem is => none ⟨n, mem, is⟩⟩)
      · exact .inr (.inl sending)
  · rw [Stn.offerOne_of_full (Nat.not_lt.1 room)]
    exact .inr (.inr (.inr (Nat.not_lt.1 room)))

/-- An offer only adds to the outbox. -/
theorem Stn.offerOne_outbox (s : Stn) (e : PendEntry) : ∃ l, (s.offerOne e).bus.outbox = s.bus.outbox ++ l := by
  unfold Stn.offerOne
  split
  · dsimp only
    split
    · exact ⟨_, rfl⟩
    · exact ⟨[], (List.append_nil _).symm⟩
  · exact ⟨[], (List.append_nil _).symm⟩

theorem Stn.Served.of_offerOne (served : s.Served o) (e : PendEntry) : (s.offerOne e).Served o := by
  obtain ⟨l, outbox⟩ := s.offerOne_outbox e
  rw [Stn.Served, outbox, List.length_append]
  obtain none | other | ⟨n, mem, is⟩ | full := served
  · exact .inl none
  · exact .inr (.inl other)
  · exact .inr (.inr (.inl ⟨n, List.mem_append_left _ mem, is⟩))
  · exact .inr (.inr (.inr (full.trans (Nat.le_add_right _ _))))

theorem served_foldl_offerOne (l : List PendEntry) (s : Stn) :
    (∀ e, s.Served e → (l.foldl Stn.offerOne s).Served e) ∧ ∀ e ∈ l, (l.foldl Stn.offerOne s).Served e := by
  induction l generalizing s with
  | nil => exact ⟨fun _ => id, fun _ mem => nomatch mem⟩
  | cons a l ih =>
    obtain ⟨keeps, all⟩ := ih (s.offerOne a)
    refine ⟨fun e served => keeps e (served.of_offerOne a), fun e mem => ?_⟩
    obtain rfl | mem := List.mem_cons.1 mem
    · exact keeps e (s.served_offerOne e)
    · exact all e mem

theorem Stn.offerWaiting_offerWaiting (s : Stn) : s.offerWaiting.offerWaiting = s.offerWaiting := by
  have pend : s.offerWaiting.req.pend = s.req.pend := congrArg Requests.pend s.offerWaiting_frame.2.2.1
  rw [Stn.offerWaiting, pend]
  exact foldl_of_fixed fun e mem => ((served_foldl_offerOne s.req.pend s).2 e mem).offerOne

theorem Stn.givePlaces_offerWaiting (s before : Stn) : s.offerWaiting.givePlaces before = s.offerWaiting := by
  unfold Stn.givePlaces
  rw [Stn.offerWaiting_offerWaiting, ite_self]

/-- Places once given are not given again. -/
theorem Stn.givePlaces_givePlaces (s before : Stn) : (s.givePlaces before).givePlaces before = s.givePlaces before := by
  by_cases freed : s.bus.outbox.length < before.bus.outbox.length
  · rw [show s.givePlaces before = s.offerWaiting from if_pos freed, Stn.givePlaces_offerWaiting]
  · rw [Stn.givePlaces_of_le (Nat.not_lt.1 freed), Stn.givePlaces_of_le (Nat.not_lt.1 freed)]

/-! ### What the judgement of one entry leaves of the others (R91, R92) -/

/-- From t to u the entries of the other tags and the waiting lines stand, and the places that are free since t have
been given. -/
def Stn.Judged (tag : Tag) (t u : Stn) : Prop :=
  (∀ k, k ≠ tag → u.pend? k = t.pend? k) ∧ u.intake.waiting = t.intake.waiting ∧ u.givePlaces t = u

theorem find?_updWhere_of_apart {α : Type} {g p : α → Bool} {f : α → α}
    (apart : ∀ x, g x = true → p x = false ∧ p (f x) = false) (l : List α) : (updWhere g f l).find? p = l.find? p := by
  induction l with
  | nil => rfl
  | cons x l ih =>
    rw [updWhere, List.map_cons, List.find?_cons, List.find?_cons]
    by_cases changes : g x = true
    · obtain ⟨before, behind⟩ := apart x changes
      rw [if_pos changes, before, behind]
      exact ih
    · rw [if_neg changes]
      cases p x with
      | true => rfl
      | false => exact ih

theorem Stn.pend?_updPend_of_ne {f : PendEntry → PendEntry} (keeps : ∀ e, (f e).tag = e.tag) (other : k ≠ tag) :
    (s.updPend tag f).pend? k = s.pend? k := by
  refine find?_updWhere_of_apart (fun e is => ?_) s.req.pend
  rw [keeps, and_self, of_decide_eq_true is]
  exact decide_eq_false other.symm

theorem Stn.pend?_freePend (other : k ≠ tag) : (s.freePend tag).pend? k = s.pend? k := by
  unfold Stn.pend? Stn.freePend
  rw [List.find?_filter]
  refine congrArg (fun g => List.find? g s.req.pend) (funext fun e => ?_)
  by_cases here : e.tag = k
  · simp [here, other]
  · simp [here]

theorem Stn.pend?_of_req (req : t.req = s.req) (k : Tag) : t.pend? k = s.pend? k := by rw [Stn.pend?, Stn.pend?, req]

theorem Stn.finish_others (s : Stn) (tag : Tag) (text : List Byte) :
    (∀ k, k ≠ tag → (s.finish tag text).pend? k = s.pend? k) ∧ (s.finish tag text).intake.waiting = s.intake.waiting := by
  have offered (e : PendEntry) : (s.offer e.line e.ctx e.gen text).intake.waiting = s.intake.waiting := by
    unfold Stn.offer
    split <;> rfl
  unfold Stn.finish
  split
  · exact ⟨fun _ _ => rfl, rfl⟩
  next e _ =>
    split
    · exact ⟨fun k other => Stn.pend?_updPend_of_ne (f := fun e => { e with state := .holding text }) (fun _ => rfl) other, rfl⟩
    · refine ⟨fun k other => ?_, offered e⟩
      rw [Stn.pend?_freePend other, Stn.pend?_of_req (Stn.offer_frame ..).2.1]

theorem Stn.givePlaces_others (s before : Stn) :
    (∀ k, (s.givePlaces before).pend? k = s.pend? k) ∧ (s.givePlaces before).intake.waiting = s.intake.waiting := by
  obtain ⟨-, intake, req, -⟩ := s.givePlaces_frame before
  exact ⟨Stn.pend?_of_req req, congrArg Intake.waiting intake⟩

theorem Stn.judged_finish (s : Stn) (tag : Tag) (text : List Byte) : s.Judged tag (s.finish tag text) := by
  obtain ⟨others, waiting⟩ := s.finish_others tag text
  exact ⟨others, waiting, Stn.givePlaces_of_outbox_eq (by rw [(s.finish_frame tag text).2.2.2.2.2.2.2.1])⟩

theorem Stn.judged_overallLimit (s : Stn) (tag : Tag) : s.Judged tag (s.overallLimit tag) := by
  let d := (s.dropForward tag).finish tag (refusal .retry)
  obtain ⟨others, waiting⟩ := (s.dropForward tag).finish_others tag (refusal .retry)
  obtain ⟨pend, intake⟩ := d.givePlaces_others s
  exact ⟨fun k other => (pend k).trans (others k other), intake.trans waiting, Stn.givePlaces_givePlaces d s⟩

theorem Stn.defer_others (s : Stn) (tag : Tag) :
    (∀ k, k ≠ tag → (s.defer tag).pend? k = s.pend? k) ∧ (s.defer tag).intake.waiting = s.intake.waiting := by
  unfold Stn.defer
  split
  · exact ⟨fun _ _ => rfl, rfl⟩
  · split
    · refine ⟨fun k other => Stn.pend?_updPend_of_ne ?_ other, rfl⟩
      exact fun _ => rfl
    · exact s.finish_others tag _

theorem Stn.applyResult_others (s : Stn) (tag : Tag) (res : Result) :
    (∀ k, k ≠ tag → (s.applyResult tag res).pend? k = s.pend? k) ∧
      (s.applyResult tag res).intake.waiting = s.intake.waiting := by
  unfold Stn.applyResult
  split
  · exact s.finish_others tag _
  · exact s.defer_others tag
  next m =>
    split
    next sub _ => exact Stn.defer_others { s with req.cache := installCache s.req.cache sub m } tag
    next => exact s.defer_others tag

theorem Stn.judged_runLocal (s : Stn) (tag : Tag) : s.Judged tag (s.runLocal .atOnce tag) := by
  unfold Stn.runLocal
  split
  · exact ⟨fun _ _ => rfl, rfl, Stn.givePlaces_of_le le_rfl⟩
  next q _ =>
    split
    · refine ⟨fun k other => Stn.pend?_updPend_of_ne ?_ other, rfl, Stn.givePlaces_of_le le_rfl⟩
      exact fun _ => rfl
    · let a := (s.execute q).1.applyResult tag (s.execute q).2
      obtain ⟨others, waiting⟩ := (s.execute q).1.applyResult_others tag (s.execute q).2
      obtain ⟨pend, intake⟩ := a.givePlaces_others s
      refine ⟨fun k other => (pend k).trans ((others k other).trans (Stn.pend?_of_req (s.execute_frame q).2.1 k)),
        intake.trans (waiting.trans (s.execute_line q 0).2.2), Stn.givePlaces_givePlaces a s⟩

theorem Stn.Judged.of_updPend {f : PendEntry → PendEntry} (keeps : ∀ e, (f e).tag = e.tag)
    (judged : (s.updPend tag f).Judged tag u) : s.Judged tag u := by
  obtain ⟨others, waiting, gives⟩ := judged
  exact ⟨fun k other => (others k other).trans (Stn.pend?_updPend_of_ne keeps other), waiting, gives⟩

theorem Stn.judged_routeEntry (s : Stn) (tag : Tag) : s.Judged tag (s.routeEntry tag) := by
  unfold Stn.routeEntry
  split
  · exact ⟨fun _ _ => rfl, rfl, Stn.givePlaces_of_le le_rfl⟩
  · split
    · exact s.judged_finish tag _
    next route m _ =>
      dsimp only
      refine Stn.Judged.of_updPend (f := fun e => { e with route := route, target := some m }) (fun _ => rfl) ?_
      split
      · exact Stn.judged_runLocal _ tag
      · refine Stn.Judged.of_updPend (f := fun e => { e with state := .sending, wait := 0 }) (fun _ => rfl) ?_
        obtain ⟨-, intake, req, -⟩ := Stn.offerWaiting_frame ((s.updPend tag fun e =>
          { e with route := route, target := some m }).updPend tag fun e => { e with state := .sending, wait := 0 })
        exact ⟨fun k _ => Stn.pend?_of_req req k, congrArg Intake.waiting intake, Stn.givePlaces_offerWaiting _ _⟩

theorem Stn.judged_judgeEntry (s : Stn) (tag : Tag) : s.Judged tag (s.judgeEntry tag) := by
  have still : s.Judged tag s := ⟨fun _ _ => rfl, rfl, Stn.givePlaces_of_le le_rfl⟩
  unfold Stn.judgeEntry
  split
  · exact still
  · split
    · exact still
    · split
      · exact s.judged_overallLimit tag
      · split
        · exact s.judged_finish tag _
        · split
          · exact s.judged_routeEntry tag
          · exact still

end

end Sys2Proof.Machine
end


section
/-!
RESULT. The waits kept in rounds run out (R18, R20, R24, R41, R42, R50, R53, R54, R58, R91, R92).
-/

namespace Sys2Proof.Machine

/-! ### The round end that brings one entry to a limit (R20, R92) -/

section
variable {u : Stn} {older younger : List PendEntry} {e : PendEntry}

theorem PendEntry.aged_of_tags {l : List PendEntry} {o : PendEntry} (unique : (l.map (·.tag)).Nodup) (mem : o ∈ l) :
    (l.map PendEntry.aged).find? (fun x => decide (x.tag = o.tag)) = some o.aged := by
  cases found : (l.map PendEntry.aged).find? fun x => decide (x.tag = o.tag) with
  | none =>
    exact absurd (decide_eq_true o.aged_tag) (List.find?_eq_none.1 found _ (List.mem_map.2 ⟨o, mem, rfl⟩))
  | some x =>
    obtain ⟨y, there, rfl⟩ := List.mem_map.1 (List.mem_of_find?_eq_some found)
    have same : y.aged.tag = o.tag := by simpa using List.find?_some found
    rw [PendEntry.aged_tag] at same
    rw [List.inj_on_of_nodup_map unique there mem same]

variable (pend : u.req.pend = older ++ e :: younger) (unique : (u.req.pend.map (·.tag)).Nodup)
  (below : ∀ o ∈ older ++ younger, o.staysBelow)
include pend unique

omit pend in
/-- An entry after its count, the others aged. -/
theorem Stn.pend?_counted {o : PendEntry} (mem : o ∈ u.req.pend) : u.counted.pend? o.tag = some o.aged :=
  PendEntry.aged_of_tags unique mem

theorem PendEntry.tag_ne_of_other {o : PendEntry} (mem : o ∈ older ++ younger) : o.tag ≠ e.tag := by
  rw [pend] at unique
  rw [List.map_append, List.map_cons, List.nodup_middle, List.nodup_cons, ← List.map_append] at unique
  exact fun same => unique.1 (List.mem_map.2 ⟨o, mem, same⟩)

include below

/-- Of the entries, one alone is judged. -/
theorem Stn.countRequests_of_one : u.countRequests = u.counted.judgeEntry e.tag := by
  have mem {o : PendEntry} (there : o ∈ older ++ younger) : o ∈ u.req.pend := by
    rw [pend]
    exact List.perm_middle.mem_iff.2 (List.mem_cons_of_mem _ there)
  obtain ⟨others, -⟩ := u.counted.judged_judgeEntry e.tag
  rw [Stn.countRequests_eq, pend, List.map_append, List.map_cons, List.foldl_append, List.foldl_cons,
    foldl_of_fixed (l := older.map (·.tag)), foldl_of_fixed (l := younger.map (·.tag))]
  · intro tag there
    obtain ⟨o, behind, rfl⟩ := List.mem_map.1 there
    have inside := List.mem_append_right older behind
    have live := (others o.tag (PendEntry.tag_ne_of_other pend unique inside)).trans (Stn.pend?_counted unique (mem inside))
    exact Stn.judgeEntry_of_below live (below o inside)
  · intro tag there
    obtain ⟨o, before, rfl⟩ := List.mem_map.1 there
    have inside := List.mem_append_left younger before
    exact Stn.judgeEntry_of_below (Stn.pend?_counted unique (mem inside)) (below o inside)

/-- The station in which all entries but e have counted. -/
def Stn.othersCounted (u : Stn) (older younger : List PendEntry) (e : PendEntry) : Stn :=
  { u with req.pend := older.map PendEntry.aged ++ e :: younger.map PendEntry.aged }

omit below in
theorem Stn.pend?_othersCounted : (u.othersCounted older younger e).pend? e.tag = some e ∧
    (u.othersCounted older younger e).updPend e.tag PendEntry.count = u.counted := by
  have apart {o : PendEntry} (mem : o ∈ older ++ younger) : ¬decide (o.aged.tag = e.tag) = true := by
    rw [PendEntry.aged_tag, decide_eq_true_eq]
    exact PendEntry.tag_ne_of_other pend unique mem
  refine ⟨?_, ?_⟩
  · show List.find? _ (older.map PendEntry.aged ++ e :: younger.map PendEntry.aged) = some e
    rw [List.find?_append, List.find?_eq_none.2, List.find?_cons_of_pos (p := fun x : PendEntry => decide (x.tag = e.tag)) (decide_eq_true rfl)]
    · rfl
    · intro x there
      obtain ⟨o, mem, rfl⟩ := List.mem_map.1 there
      exact apart (List.mem_append_left _ mem)
  · have same (l : List PendEntry) (inside : ∀ o ∈ l, o ∈ older ++ younger) :
        updWhere (fun x => decide (x.tag = e.tag)) PendEntry.count (l.map PendEntry.aged) = l.map PendEntry.aged := by
      refine updWhere_of_none (fun x there => ?_) _
      obtain ⟨o, mem, rfl⟩ := List.mem_map.1 there
      exact (Bool.not_eq_true _).mp (apart (inside o mem))
    have counts : updWhere (fun x => decide (x.tag = e.tag)) PendEntry.count
        (older.map PendEntry.aged ++ e :: younger.map PendEntry.aged) = u.req.pend.map PendEntry.aged := by
      have first := same older fun o => List.mem_append_left _
      have second := same younger fun o => List.mem_append_right _
      rw [updWhere] at first second ⊢
      rw [List.map_append, List.map_cons, first, second, pend, List.map_append, List.map_cons,
        if_pos (decide_eq_true rfl), PendEntry.count_eq_aged]
    exact congrArg (fun l => ({ u with req.pend := l } : Stn)) counts

end

section
variable {s : State} {r : RoundPos} {next : Option RoundPos} {older younger : List PendEntry} {e : PendEntry}
  (ends : EndsInto s.stn r next) (noCheck : NoCheckDue s.stn) (noDelay : s.stn.cust.retryDelay = none)
  (pend : s.stn.req.pend = older ++ e :: younger) (unique : (s.stn.req.pend.map (·.tag)).Nodup)
  (below : ∀ o ∈ older ++ younger, o.staysBelow)
include ends noCheck noDelay pend unique below

/-- The round end that judges entry e, where the walks stand still. -/
theorem exec_roundEnd_of_judged {x : Stn} (judged : ({ s.stn with bus.round := next } : Stn).counted.judgeEntry e.tag = x)
    (idle : x.subs.ret = .idle) (noRestart : ∀ n, x.subs.mirror ≠ .restartWait n) :
    exec .roundEnd s = .next { s with stn := x.settled } := by
  let u : Stn := { s.stn with bus.round := next }
  have checks := noCheck.checks ends
  obtain ⟨-, -, gives⟩ := u.counted.judged_judgeEntry e.tag
  have cust : x.cust = u.cust := by
    rw [← judged, (Stn.judgeEntry_frame _ _).2]
    rfl
  have counts : u.countRequests.countRetry.countRestart = x := by
    rw [Stn.countRequests_of_one (u := u) pend unique below, judged, Stn.countRetry_of_none (by rw [cust]; exact noDelay),
      Stn.countRestart_of_none noRestart]
  have again : x.givePlaces u = x := by
    rw [← judged]
    exact gives
  rw [exec_roundEnd_eq ends.1, Stn.roundEnd_of_waits checks (Stn.givePlaces_of_le le_rfl) counts again
    (Stn.revisit_of_idle idle) ends.index_ne]

end

/-- A judgement that routes no entry leaves the subscriber tables and the walks. -/
theorem Stn.judgeEntry_subs {s : Stn} {tag : Tag} {x : PendEntry} (live : s.pend? tag = some x)
    (noRoute : x.state = .deferred → 24 ≤ x.rounds) : (s.judgeEntry tag).subs = s.subs := by
  simp only [Stn.judgeEntry, live]
  split
  · rfl
  · split
    · exact (s.overallLimit_frame tag).2.1
    next early =>
      split
      · exact (s.finish_frame tag _).2.1
      · split
        next due => exact absurd (noRoute due.1) early
        next => rfl

section
variable {s : State}

/-- The buddy wait that ends without a change of state. -/
theorem exec_buddyWaitEnd_of_unmet (state : s.stn.cust.state = .reclaiming) (view : s.stn.view s.stn.buddy ≠ .live)
    (last : 7 ≤ s.stn.cust.buddyWait) (waiting : s.stn.intake.waiting = []) (taken : s.stn.cust.returnTaken = true)
    (up : (s.stn.view s.stn.buddy).down = false) : exec .buddyWaitEnd s = .next { s with stn.cust.buddyWait := 8 } := by
  have unmet : ¬(s.stn.cust.returnTaken = false ∨ (s.stn.view s.stn.buddy).down = true) := by
    rw [taken, up]
    nofun
  rw [exec_buddyWaitEnd_of_last last, Stn.countBuddyWait_of_last state view last, if_neg unmet,
    Stn.settledFrom_of_le (s := s.stn.waitCounted 8) (before := s.stn) waiting le_rfl]
  rfl

/-- The buddy wait that ends in the entry into LIVE. -/
theorem exec_buddyWaitEnd_of_met {v : Stn} (state : s.stn.cust.state = .reclaiming) (view : s.stn.view s.stn.buddy ≠ .live)
    (last : 7 ≤ s.stn.cust.buddyWait) (met : s.stn.cust.returnTaken = false ∨ (s.stn.view s.stn.buddy).down = true)
    (enters : (s.stn.waitCounted 8).enterLive .atOnce = v) (waiting : v.intake.waiting = []) (bus : v.bus = s.stn.bus) :
    exec .buddyWaitEnd s = .next { s with stn := v } := by
  rw [exec_buddyWaitEnd_of_last last, Stn.countBuddyWait_of_last state view last, if_pos met, enters,
    Stn.settledFrom_of_le waiting (by rw [bus])]

end

section
variable {s : Stn} {k : Station}

/-- The entry into LIVE, where one FAILED station with a FAILED buddy has a custodian still. -/
theorem Stn.enterLive_of_held (quiet : Unasked s) (apart : s.buddy ≠ s.self) (view : s.view s.buddy ≠ .live)
    (own : s.custodian s.self ≠ none) (inside : k ∈ s.roster) (peer : k ≠ s.self) (failed : s.view k = .failed)
    (buddy : s.view (buddyOf s.img.roster k) = .failed) (held : s.custodian k ≠ none)
    (others : ∀ j ∈ s.roster, j ≠ s.self → j ≠ k → (s.view j).down = true →
      s.view (buddyOf s.img.roster j) ≠ .failed ∨ s.view j = .failed ∧ s.custodian j = none) (w : Places) :
    s.enterLive w = ({ s with cust.state := .live } : Stn).recustodied k none := by
  let t : Stn := { s with cust.state := .live }
  have views (j : Station) (other : j ≠ s.self) : t.view j = s.view j := Stn.view_of_map (s := s) (t := t) rfl rfl other
  have buddyPeer : buddyOf s.img.roster k ≠ s.self := fun same => s.view_self_ne_failed (same ▸ buddy)
  rw [Stn.enterLive, Stn.becomeLive_of_apart apart view own]
  refine Stn.doubleFailure_of_held (s := t) quiet inside peer ((views k peer).trans failed)
    ((views _ buddyPeer).trans buddy) held (fun j there notSelf other down => ?_) w
  rw [views j notSelf] at down ⊢
  refine (others j there notSelf other down).imp_left fun up => ?_
  by_cases self : buddyOf s.img.roster j = s.self
  · show t.view (buddyOf s.img.roster j) ≠ .failed
    rw [self]
    exact t.view_self_ne_failed
  · exact (views _ self).trans_ne up

/-- The entry into LIVE of a station that becomes its own custodian. -/
theorem Stn.enterLive_of_none (quiet : Unasked s) (apart : s.buddy ≠ s.self) (view : s.view s.buddy ≠ .live)
    (none : s.custodian s.self = none) (noDouble : NoDoubleFailure s) (w : Places) :
    s.enterLive w = ({ s with cust.state := .live } : Stn).recustodied s.self (some s.self) := by
  let t : Stn := { s with cust.state := .live }
  rw [Stn.enterLive, Stn.becomeLive_of_none quiet apart view none]
  refine Stn.doubleFailure_of_none (s := t.recustodied s.self (some s.self)) (noDouble.congr rfl (fun j other => ?_)
    fun j other => Stn.custodian_recustodied_of_ne (s := t) other) w
  exact (Stn.view_recustodied (s := t) j).trans (Stn.view_of_map (s := s) (t := t) rfl rfl other)

end

/-- Settles O50: each wait's last count, and the round ends that count it or bring it to its end. -/
theorem waitsKeptInRoundsRunOut : Obligations.WaitsKeptInRoundsRunOut := by
  unfold Obligations.WaitsKeptInRoundsRunOut
  refine ⟨fun s waiting => ⟨fun state view last => ?_, fun delay idle => ?_, fun waits => ?_⟩,
    fun s r next ends idle => ?_⟩
  · let c := s.stn.waitCounted 8
    refine ⟨fun met own apart => ⟨fun noDouble => ?_, fun k inside peer noRequests failed buddy held others => ?_⟩,
      fun notTaken apart noRequests _ none noDouble => ?_, fun taken up =>
        exec_buddyWaitEnd_of_unmet state view last waiting taken up⟩
    · have enters := Stn.enterLive_of_apart (s := c) apart view own (noDouble.of_map rfl rfl) .atOnce
      exact exec_buddyWaitEnd_of_met state view last met enters waiting rfl
    · have quiet : Unasked c := ⟨noRequests.1, by
        rw [show c.req.pend = [] from noRequests.2.1]; exact fun _ mem => nomatch mem⟩
      have enters := Stn.enterLive_of_held (s := c) quiet apart view own inside peer failed buddy held others .atOnce
      exact exec_buddyWaitEnd_of_met state view last met enters waiting rfl
    · have quiet : Unasked c := ⟨noRequests.1, by
        rw [show c.req.pend = [] from noRequests.2.1]; exact fun _ mem => nomatch mem⟩
      have enters := Stn.enterLive_of_none (s := c) quiet apart view none (noDouble.of_map rfl rfl) .atOnce
      exact exec_buddyWaitEnd_of_met state view last (.inl notTaken) enters waiting rfl
  · intro isWard none'
    have runs {v : Stn} (ends : s.stn.retryOver = v) (intake : v.intake = s.stn.intake) (outbox : v.bus = s.stn.bus) :
        exec .returnRetryDelayEnd s = .next { s with stn := v } := by
      have row : exec .returnRetryDelayEnd s = .next { s with stn := s.stn.countRetry.settledFrom s.stn } :=
        congrArg Host.Outcome.next (if_pos delay)
      rw [row, Stn.countRetry_of_last delay idle, ends, Stn.settledFrom_of_le (by rw [intake, waiting]) (by rw [outbox])]
    refine ⟨fun unheard => runs (Stn.retryOver_of_unheard unheard) rfl rfl, fun heard mine => ?_⟩
    obtain ⟨begins, waits⟩ := Stn.requestReturn_of_mine (s := s.stn.undelayed) mine idle .atOnce
    have begun := Stn.retryOver_of_heard heard
    refine ⟨fun granted => ?_, fun nobody away => ?_, fun nobody held => ?_⟩
    · exact runs (begun.trans (waits (granted.trans_ne nofun))) rfl rfl
    · exact runs (begun.trans ((begins nobody).trans (congrArg (fun t => ({ s.stn.undelayed with subs := t } : Stn)) (Subscribers.returning_of_none away)))) rfl rfl
    · exact runs (begun.trans ((begins nobody).trans (congrArg (fun t => ({ s.stn.undelayed with subs := t } : Stn)) (Subscribers.returning_of_some held)))) rfl rfl
  · have row : exec .mirrorRestartWaitEnd s = .next { s with stn := s.stn.countRestart } :=
      congrArg Host.Outcome.next (if_pos waits)
    rw [row, Stn.countRestart_of_last waits]
    exact ⟨fun both => by rw [if_pos both]; rfl, fun one => by rw [if_neg one]⟩
  · intro u
    refine ⟨fun state noDelay mirror empty => exec_roundEnd_of_buddyWait ends idle empty state noDelay mirror,
      fun noCheck => ⟨fun n delay noRestart empty => exec_roundEnd_of_delay ends idle empty noCheck delay noRestart,
        fun n waits noDelay empty => exec_roundEnd_of_restart ends idle empty noCheck waits noDelay,
        fun older younger e noDelay noRestart pend unique below => ?_⟩⟩
    intro v
    have runs {x : Stn} := exec_roundEnd_of_judged ends noCheck noDelay pend unique below (x := x)
    obtain ⟨live, counted⟩ := Stn.pend?_othersCounted (u := u.stn) pend unique
    have liveV : v.stn.pend? e.tag = some e := live
    have countedV : v.stn.updPend e.tag PendEntry.count = u.stn.counted := counted
    have mem : e ∈ u.stn.req.pend := by
      rw [show u.stn.req.pend = older ++ e :: younger from pend]
      exact List.mem_append_right _ List.mem_cons_self
    have aged : u.stn.counted.pend? e.tag = some e.aged := Stn.pend?_counted unique mem
    let x := u.stn.counted.judgeEntry e.tag
    have ended (noRoute : e.aged.state = .deferred → 24 ≤ e.aged.rounds) :
        exec .roundEnd s = .next { s with stn := x.settled } := by
      have subs : x.subs = s.stn.subs := (Stn.judgeEntry_subs aged noRoute).trans rfl
      exact runs rfl (by rw [subs]; exact idle) fun k => by rw [subs]; exact noRestart k
    refine ⟨fun last holds => ?_, fun early awaiting last => ?_, fun early deferred last t row idleT noRestartT => ?_⟩
    · have due : e.state.isHolding = false ∧ Config.overallRounds ≤ e.rounds + 1 :=
        ⟨isHolding_eq_false holds, by rw [last]; decide⟩
      rw [ended fun _ => ?_]
      · show _ = execRequestOverallLimit e.tag v
        simp only [execRequestOverallLimit, liveV, if_pos due, countedV]
        rfl
      · rw [← PendEntry.count_eq_aged, (PendEntry.count_rounds holds).1, last]
    · have due : e.state = .awaiting ∧ Config.answerRounds ≤ e.wait + 1 := ⟨awaiting, by rw [last]; decide⟩
      rw [ended fun is => by rw [PendEntry.aged_state, awaiting] at is; cases is]
      show _ = execAnswerLimit e.tag v
      simp only [execAnswerLimit, liveV, if_pos due, countedV]
      rfl
    · have due : e.state = .deferred ∧ Config.deferralRounds ≤ e.wait + 1 := ⟨deferred, by rw [last]; decide⟩
      have reached : exec (.deferralEnd e.tag) v = .next { s with stn := x.settled } := by
        show execDeferralEnd e.tag v = _
        simp only [execDeferralEnd, liveV, if_pos due, countedV]
        rfl
      obtain rfl : ({ s with stn := x.settled } : State) = t := Host.Outcome.next.inj (reached.symm.trans row)
      have settled : x.settled = x := Stn.settled_of_no_line
        ((u.stn.counted.judged_judgeEntry e.tag).2.1.trans ends.2.1)
      have idleX : x.settled.subs.ret = .idle := idleT
      have noRestartX : ∀ k, x.settled.subs.mirror ≠ .restartWait k := noRestartT
      rw [settled] at idleX noRestartX
      exact runs rfl idleX noRestartX

end Sys2Proof.Machine
end


section
/-!
RESULT. A stand-down of a station whose office map has no entry of its own (R32, R42, R102).
-/

namespace Sys2Proof.Machine

/-! ### The counterexample -/

/-- Stations 1 and 2. -/
def pairImage : Image := { Image.blank with roster := 0x0006 }

/-- A request that waits for its FORWARD to station 1. -/
def forwardedEntry : PendEntry :=
  { line := 0, ctx := 3, gen := 0, role := .operator, text := str "M/1", request := none, tag := 7, route := .home 1,
    target := some 2, state := .sending, deferrals := 0, rounds := 0, wait := 0 }

/-- Station 1, LIVE, whose office map has the entry of station 2 alone, in the window of station 2. -/
def unmappedStation : State := { State.reset with stn := { Stn.reset with
  ctl := { phase := .closed, resetAsserted := false, supplyValid := true, station := 1, image := some pairImage,
           port := [] }
  cust := { Stn.reset.cust with
    state := .live
    map := [{ station := 2, view := .live, silent := 0, custodian := some 2, silence := 0 }] }
  req := { Stn.reset.req with pend := [forwardedEntry] }
  bus := { Stn.reset.bus with
    round := some ⟨0, 0, [2]⟩
    outbox := [Note.fresh 2 (.forward 7 (str "M/1")) (.home 1) .none] } } }

/-- The LIVE frame of station 2 that lists station 1 in custody and in silence. -/
def deposingFrame : RoundFrame :=
  { sender := 2, state := .live, office := pairImage.office, frame := 0, draining := false, index := 0, period := 0,
    silence := 0x0002, custody := 0x0002, takes := [], claims := [], notes := [] }

/-- The replies of line 0 behind an outcome. -/
def repliesBehind (o : Host.Outcome State Fault Refusal) : List LineReply :=
  match o with
  | .next u => (u.stn.line 0).replies
  | _ => []

theorem unmappedStation_hears :
    Hears unmappedStation.stn ⟨0, 0, [2]⟩ 2 deposingFrame.bytes deposingFrame := by
  have reads : readFrame unmappedStation.stn.img.roster deposingFrame.bytes = some deposingFrame := by decide +kernel
  refine ⟨⟨⟨rfl, rfl⟩, rfl, nofun⟩, by decide, rfl, by decide +kernel, reads, rfl, rfl, rfl⟩

/-- The custodian that the frame gives station 1 has no entry to stand in, and the request routed by it is refused
with NO_SERVICE before the stand-down answers the pending ones. -/
theorem unmappedStation_replies :
    repliesBehind (exec (.windowReading 2 deposingFrame.bytes) unmappedStation) = [⟨3, 0, refusal .noService⟩] := by
  decide +kernel

theorem Stn.replies_of_lines {s : Stn} {lines : Vector Line 4} {g : Line → Line} (is : s.intake.lines = lines.map g)
    (keeps : ∀ x, (g x).replies = x.replies) (l : LineNo) : (s.line l).replies = (lines.get l).replies := by
  rw [Stn.line, is, get_map, keeps]

/-- Refutes O44: where the map has no entry of this station, the request that waits with a FORWARD to it is answered
NO_SERVICE, and not RETRY. -/
theorem not_standDownClearsTheStation : ¬ Obligations.StandDownClearsTheStation := by
  unfold Obligations.StandDownClearsTheStation
  intro holds
  have custodian : (unmappedStation.stn.custodian 2).isSome = true := by decide +kernel
  have custody : deposingFrame.custody = setAdd 0 unmappedStation.stn.self := by decide +kernel
  have silence : inSet deposingFrame.silence unmappedStation.stn.self = true := by decide +kernel
  have noOther : HoldsNoneBut unmappedStation.stn 2 unmappedStation.stn.self := by
    unfold HoldsNoneBut
    decide +kernel
  have noneSilent : ∀ k ∈ unmappedStation.stn.roster, k ≠ unmappedStation.stn.self →
      unmappedStation.stn.view k = .silent →
      unmappedStation.stn.view (buddyOf unmappedStation.stn.img.roster k) ≠ .failed := by
    decide +kernel
  obtain ⟨-, one, -⟩ := holds unmappedStation ⟨0, 0, [2]⟩ 2 deposingFrame.bytes deposingFrame unmappedStation_hears
    ⟨rfl, rfl, rfl⟩ rfl rfl custodian custody silence noOther
  obtain ⟨u, runs, maps, -⟩ := one (by decide) noneSilent forwardedEntry rfl (fun text is => nomatch is)
    ⟨rfl, by decide +kernel⟩
  have answered : (u.stn.line 0).replies = [⟨3, 0, refusal .noService⟩] := by
    rw [← unmappedStation_replies, runs]
    rfl
  have lines := congrArg (fun v : State => v.stn.intake.lines) maps
  have retried : ((unmappedStation.finished forwardedEntry (str "X/RETRY")).stn.line 0).replies =
      [⟨3, 0, refusal .retry⟩] := by
    decide +kernel
  have stated : (u.stn.line 0).replies = [⟨3, 0, refusal .retry⟩] :=
    (Stn.replies_of_lines lines (fun _ => rfl) 0).trans retried
  rw [stated] at answered
  revert answered
  decide

end Sys2Proof.Machine
end


section
/-!
SUPPORT. The forms of the fields read back what their texts spell (R84, R85, R205).
-/

namespace Sys2Proof.Machine

/-! ### Digits and numbers -/

theorem decDigit?_decChar {d : Nat} (digit : d < 10) : decDigit? (decChar d) = some d := by
  have all : ∀ d : Fin 10, decDigit? (decChar d.val) = some d.val := by decide
  exact all ⟨d, digit⟩

theorem hexDigit?_hexChar {d : Nat} (digit : d < 16) : hexDigit? (hexChar d) = some d := by
  have all : ∀ d : Fin 16, hexDigit? (hexChar d.val) = some d.val := by decide
  exact all ⟨d, digit⟩

theorem decFrom_append (acc : Nat) (l r : List Byte) : decFrom acc (l ++ r) = (decFrom acc l).bind fun n => decFrom n r := by
  induction l generalizing acc with
  | nil => rfl
  | cons b l ih =>
    rw [List.cons_append, decFrom, decFrom]
    cases decDigit? b with
    | none => rfl
    | some d => exact ih _

theorem decFrom_decPad (acc w n : Nat) : decFrom acc (decPad w n) = some (acc * 10 ^ w + n % 10 ^ w) := by
  induction w generalizing acc with
  | zero => simp [decPad, decFrom, Nat.mod_one]
  | succ w ih =>
    simp only [decPad, decFrom, decDigit?_decChar (Nat.mod_lt (n / 10 ^ w) (by decide : 0 < 10)), ih]
    rw [Nat.mod_pow_succ, Nat.pow_succ]
    congr 1
    ring

theorem length_decPad (w n : Nat) : (decPad w n).length = w := by
  induction w with
  | zero => rfl
  | succ w ih => rw [decPad, List.length_cons, ih]

theorem decField?_of_reads {lo hi cap n : Nat} {bs : List Byte} (least : lo ≤ bs.length) (most : bs.length ≤ hi)
    (reads : decFrom 0 bs = some n) (small : n ≤ cap) : decField? lo hi cap bs = some n := by
  unfold decField?
  rw [if_pos ⟨least, most⟩, reads]
  exact if_pos small

theorem decField?_decPad {w n cap : Nat} (fits : n < 10 ^ w) (small : n ≤ cap) : decField? w w cap (decPad w n) = some n := by
  refine decField?_of_reads (length_decPad w n).ge (length_decPad w n).le ?_ small
  rw [decFrom_decPad, Nat.zero_mul, Nat.zero_add, Nat.mod_eq_of_lt fits]

theorem decFrom_dec {n : Nat} (small : n < 2 ^ 48) : decFrom 0 (dec n) = some n := by
  induction n using Nat.strong_induction_on with
  | _ n ih =>
    have one {d acc : Nat} (digit : d < 10) : decFrom acc (dec d) = some (10 * acc + d) := by
      rw [dec_of_digit digit, decFrom, decDigit?_decChar digit]
      rfl
    by_cases digit : n < 10
    · rw [one digit, Nat.mul_zero, Nat.zero_add]
    · rw [dec_of_more (Nat.not_lt.1 digit) small, decFrom_append, ih (n / 10) (by omega) (by omega), Option.bind_some,
        one (Nat.mod_lt n (by decide)), Nat.div_add_mod]

theorem length_dec {k n : Nat} (some_ : 0 < k) (fits : n < 10 ^ k) (small : n < 2 ^ 48) :
    1 ≤ (dec n).length ∧ (dec n).length ≤ k := by
  have one {d : Nat} (digit : d < 10) : (dec d).length = 1 := by rw [dec_of_digit digit]; rfl
  induction k generalizing n with
  | zero => cases some_
  | succ k ih =>
    by_cases digit : n < 10
    · rw [one digit]
      exact ⟨Nat.le_refl 1, Nat.succ_le_succ (Nat.zero_le k)⟩
    · have rest : n / 10 < 10 ^ k := by rw [pow_succ] at fits; omega
      have more : 0 < k := Nat.pos_of_ne_zero fun zero => by subst zero; omega
      have shorter := ih more rest (by omega)
      rw [dec_of_more (Nat.not_lt.1 digit) small, List.length_append, one (Nat.mod_lt n (by decide))]
      omega

theorem decField?_dec {hi cap n : Nat} (some_ : 0 < hi) (fits : n < 10 ^ hi) (below : n < 2 ^ 48) (small : n ≤ cap) :
    decField? 1 hi cap (dec n) = some n :=
  decField?_of_reads (length_dec some_ fits below).1 (length_dec some_ fits below).2 (decFrom_dec below) small

/-! ### The fields -/

theorem subField?_decPad {sub : Nat} (small : sub < Config.subscriberLimit) : subField? (decPad 7 sub) = some sub :=
  decField?_decPad small (Nat.le_of_lt_succ small)

theorem priorityField?_priorityText (p : Priority) : priorityField? (priorityText p) = some p := by
  cases p <;> decide

theorem classField?_classText (k : PagerClass) : classField? (classText k) = some k := by
  cases k <;> decide

theorem eighthField?_dec (t : Fin 8) : eighthField? (dec t.val) = some t := by
  revert t
  decide

theorem zonesField?_zonesText {z : ZoneSet} (some_ : z ≠ 0) : zonesField? (zonesText z) = some z := by
  have value : 16 * (z.toNat / 16) + z.toNat % 16 = z.toNat := Nat.div_add_mod _ _
  have notZero : z.toNat ≠ 0 := fun zero => some_ (BitVec.eq_of_toNat_eq zero)
  have high : z.toNat / 16 < 16 := by omega
  have low : z.toNat % 16 < 16 := Nat.mod_lt _ (by decide)
  simp only [zonesText, zonesField?, hexDigit?_hexChar high, hexDigit?_hexChar low, value, if_neg notZero,
    BitVec.ofNat_toNat, BitVec.setWidth_eq]

theorem limitField?_quotaText (q : Option (BitVec 32)) : limitField? (quotaText q) = some q := by
  cases q with
  | none => rfl
  | some n =>
    have bound : n.toNat < 2 ^ 32 := n.isLt
    have below : n.toNat < 2 ^ 48 := by omega
    have number : dec n.toNat ≠ str "-" := by
      intro is
      have reads := decFrom_dec below
      have noNumber : decFrom 0 (str "-") = none := by decide
      rw [is, noNumber] at reads
      cases reads
    rw [quotaText, limitField?, if_neg number, decField?_dec (by decide) (by omega) below (by omega), Option.map_some,
      BitVec.ofNat_toNat, BitVec.setWidth_eq]

theorem addrField?_dec (addr : PagerAddr) : addrField? (dec addr.toNat) = some addr := by
  have bound : addr.toNat < 2 ^ 21 := addr.isLt
  rw [addrField?, decField?_dec (by decide) (by omega) (by omega) (by omega), Option.map_some, BitVec.ofNat_toNat,
    BitVec.setWidth_eq]

theorem receiptField?_receiptText (k : Station) (n : Serial) : receiptField? (receiptText k n) = some (k, n) := by
  have bound : n.toNat < 2 ^ 16 := n.isLt
  simp only [receiptText, receiptField?, if_true, hexDigit?_hexChar k.isLt,
    decField?_decPad (w := 5) (n := n.toNat) (cap := 65535) (by omega) (by omega), BitVec.ofNat_toNat, BitVec.setWidth_eq,
    Fin.ofNat_val_eq_self]

theorem groupField?_groupText {g : Group} (wf : groupWf g = true) : groupField? (groupText g) = some g := by
  cases g with
  | tariff t => exact congrArg (Option.map Group.tariff) (eighthField?_dec t)
  | plan p => exact congrArg (Option.map Group.plan) (eighthField?_dec p)
  | zones z => exact congrArg (Option.map Group.zones) (zonesField?_zonesText (of_decide_eq_true wf))
  | pagerClass k => exact congrArg (Option.map Group.pagerClass) (classField?_classText k)
  | quota q => exact congrArg (Option.map Group.quota) (limitField?_quotaText q)
  | threshold n => exact congrArg (Option.map Group.threshold) (limitField?_quotaText n)
  | clearLimit => rfl

theorem groupFields?_groupText {groups : List Group} (wf : groups.all groupWf = true) :
    groupFields? (groups.map groupText) = some groups := by
  induction groups with
  | nil => rfl
  | cons g groups ih =>
    obtain ⟨first, rest⟩ := Bool.and_eq_true_iff.1 wf
    simp only [List.map_cons, groupFields?, groupField?_groupText first, ih rest]

/-! ### No field but a body holds a separator -/

theorem decChar_ne_slash {d : Nat} (digit : d < 10) : decChar d ≠ slash := by
  have all : ∀ d : Fin 10, decChar d.val ≠ slash := by decide
  exact all ⟨d, digit⟩

theorem hexChar_ne_slash {d : Nat} (digit : d < 16) : hexChar d ≠ slash := by
  have all : ∀ d : Fin 16, hexChar d.val ≠ slash := by decide
  exact all ⟨d, digit⟩

theorem slash_notMem_decPad (w n : Nat) : slash ∉ decPad w n := by
  induction w with
  | zero => exact nofun
  | succ w ih => exact List.not_mem_cons_of_ne_of_not_mem (decChar_ne_slash (Nat.mod_lt _ (by decide))).symm ih

theorem slash_notMem_dec (n : Nat) : slash ∉ dec n := by
  have digits (fuel n : Nat) : slash ∉ decRev fuel n := by
    induction fuel generalizing n with
    | zero => exact nofun
    | succ fuel ih =>
      refine List.not_mem_cons_of_ne_of_not_mem (decChar_ne_slash (Nat.mod_lt _ (by decide))).symm ?_
      split
      · exact nofun
      · exact ih _
  rw [dec, List.mem_reverse]
  exact digits 20 n

theorem slash_notMem_priorityText (p : Priority) : slash ∉ priorityText p := by
  cases p <;> decide

theorem slash_notMem_classText (k : PagerClass) : slash ∉ classText k := by
  cases k <;> decide

theorem slash_notMem_zonesText (z : ZoneSet) : slash ∉ zonesText z := by
  have bound : z.toNat < 256 := z.isLt
  exact List.not_mem_cons_of_ne_of_not_mem (hexChar_ne_slash (by omega)).symm
    (List.not_mem_cons_of_ne_of_not_mem (hexChar_ne_slash (Nat.mod_lt _ (by decide))).symm nofun)

theorem slash_notMem_quotaText (q : Option (BitVec 32)) : slash ∉ quotaText q := by
  cases q with
  | none => decide
  | some n => exact slash_notMem_dec _

theorem slash_notMem_receiptText (k : Station) (n : Serial) : slash ∉ receiptText k n :=
  List.not_mem_cons_of_ne_of_not_mem (hexChar_ne_slash k.isLt).symm
    (List.not_mem_cons_of_ne_of_not_mem (by decide) (slash_notMem_decPad _ _))

theorem slash_notMem_groupText (g : Group) : slash ∉ groupText g := by
  cases g with
  | tariff t => exact List.mem_append.not.2 (not_or.2 ⟨by decide, slash_notMem_dec _⟩)
  | plan p => exact List.mem_append.not.2 (not_or.2 ⟨by decide, slash_notMem_dec _⟩)
  | zones z => exact List.mem_append.not.2 (not_or.2 ⟨by decide, slash_notMem_zonesText z⟩)
  | pagerClass k => exact List.mem_append.not.2 (not_or.2 ⟨by decide, slash_notMem_classText k⟩)
  | quota q => exact List.mem_append.not.2 (not_or.2 ⟨by decide, slash_notMem_quotaText q⟩)
  | threshold n => exact List.mem_append.not.2 (not_or.2 ⟨by decide, slash_notMem_quotaText n⟩)
  | clearLimit => decide

/-! ### The fields of joined fields -/

theorem splitFields_of_notMem {f : List Byte} (none : slash ∉ f) : splitFields f = [f] := by
  induction f with
  | nil => rfl
  | cons b f ih =>
    obtain ⟨other, rest⟩ := List.ne_and_not_mem_of_not_mem_cons none
    rw [splitFields, if_neg other.symm, ih rest]

theorem splitFields_append {f : List Byte} (none : slash ∉ f) (rest : List Byte) :
    splitFields (f ++ slash :: rest) = f :: splitFields rest := by
  induction f with
  | nil => rw [List.nil_append, splitFields, if_pos rfl]
  | cons b f ih =>
    obtain ⟨other, free⟩ := List.ne_and_not_mem_of_not_mem_cons none
    rw [List.cons_append, splitFields, if_neg other.symm, ih free]

theorem splitFields_joinFields {f : List Byte} {fs : List (List Byte)} (none : ∀ g ∈ f :: fs, slash ∉ g) :
    splitFields (joinFields (f :: fs)) = f :: fs := by
  induction fs generalizing f with
  | nil => exact splitFields_of_notMem (none f List.mem_cons_self)
  | cons g fs ih =>
    rw [joinFields, splitFields_append (none f List.mem_cons_self), ih fun x mem => none x (List.mem_cons_of_mem _ mem)]
    exact nofun

theorem span_append_slash {f : List Byte} (none : slash ∉ f) (rest : List Byte) :
    (f ++ slash :: rest).span (· ≠ slash) = (f, slash :: rest) := by
  have other (b : Byte) (mem : b ∈ f) : decide (b ≠ slash) = true := decide_eq_true (ne_of_mem_of_not_mem mem none)
  rw [List.span_eq_takeWhile_dropWhile, List.takeWhile_append_of_pos other, List.dropWhile_append_of_pos other]
  simp

end Sys2Proof.Machine
end


section
/-!
RESULT. The parse reads back every entry text (R83 to R85).
-/

namespace Sys2Proof.Machine

section
variable {sub : Nat}

/-! ### The fields of each form -/

theorem parseSubmit_text (small : sub < Config.subscriberLimit) (p : Priority) {body : List Byte}
    (length : 1 ≤ body.length ∧ body.length ≤ 200) :
    parseSubmit (decPad 7 sub ++ slash :: (priorityText p ++ slash :: body)) = .ok (.submit sub p body) := by
  simp only [parseSubmit, span_append_slash (slash_notMem_decPad 7 sub), span_append_slash (slash_notMem_priorityText p),
    subField?_decPad small, priorityField?_priorityText, if_pos length]

theorem parseSub_text (small : sub < Config.subscriberLimit) (make : Nat → Request) :
    parseSub make (splitFields (decPad 7 sub)) = some (make sub) := by
  rw [splitFields_of_notMem (slash_notMem_decPad 7 sub), parseSub, subField?_decPad small, Option.map_some]

theorem parseReceipt_text (make : Station → Serial → Request) (k : Station) (n : Serial) :
    parseReceipt make (splitFields (receiptText k n)) = some (make k n) := by
  rw [splitFields_of_notMem (slash_notMem_receiptText k n), parseReceipt, receiptField?_receiptText, Option.map_some]

theorem parseEnrol_text (small : sub < Config.subscriberLimit) (addr : PagerAddr) (cls : PagerClass) (t p : Fin 8)
    {z : ZoneSet} (zones : z ≠ 0) (q n : Option (BitVec 32)) :
    parseEnrol (splitFields (joinFields [decPad 7 sub, dec addr.toNat, classText cls, dec t.val, dec p.val, zonesText z,
      quotaText q, quotaText n])) = some (.enrol sub addr cls t p z q n) := by
  rw [splitFields_joinFields]
  · simp only [parseEnrol, subField?_decPad small, addrField?_dec, classField?_classText, eighthField?_dec,
      zonesField?_zonesText zones, limitField?_quotaText]
  · simp only [List.forall_mem_cons]
    exact ⟨slash_notMem_decPad _ _, slash_notMem_dec _, slash_notMem_classText _, slash_notMem_dec _, slash_notMem_dec _,
      slash_notMem_zonesText _, slash_notMem_quotaText _, slash_notMem_quotaText _, fun _ mem => nomatch mem⟩

theorem parseAmend_text (small : sub < Config.subscriberLimit) {groups : List Group} (wf : groupsWf groups = true) :
    parseAmend (splitFields (joinFields (decPad 7 sub :: groups.map groupText))) = some (.amend sub groups) := by
  obtain ⟨count, each⟩ := Bool.and_eq_true_iff.1 wf
  have bounds : 1 ≤ (groups.map groupText).length ∧ (groups.map groupText).length ≤ 8 := by
    rw [List.length_map]
    exact of_decide_eq_true count
  rw [splitFields_joinFields]
  · simp only [parseAmend, if_pos bounds, subField?_decPad small, groupFields?_groupText each]
  · rw [List.forall_mem_cons]
    refine ⟨slash_notMem_decPad _ _, fun text mem => ?_⟩
    obtain ⟨g, -, rfl⟩ := List.mem_map.1 mem
    exact slash_notMem_groupText g

end

/-! ### The entry -/

/-- An entry whose letter is followed by a separator, and then by fields that read as a request. -/
theorem parseEntry_of_fields {role : Role} {b : Byte} {k : Kind} (kind : kindOf b = some k) {rest : List Byte} {q : Request}
    (reads : parseFields k (some rest) = .ok q) :
    parseEntry role (b :: slash :: rest) = if k.permitted role = true then .ok q else .error .notPermitted := by
  simp only [parseEntry, kind, reads, if_true]

/-- The entry text of a request is read back on a line that may bring its kind; another line refuses it. -/
theorem parseEntry_requestText (role : Role) {q : Request} (wf : q.wf = true) : parseEntry role (requestText q) =
    if (requestKind q).permitted role = true then .ok q else .error .notPermitted := by
  cases q with
  | submit sub p body =>
    obtain ⟨small, bodyWf⟩ := Bool.and_eq_true_iff.1 wf
    have text : requestText (.submit sub p body) =
        0x53#8 :: slash :: (decPad 7 sub ++ slash :: (priorityText p ++ slash :: body)) := by
      simp [requestText, str, slash]
    rw [text]
    exact parseEntry_of_fields (k := .submit) rfl
      (parseSubmit_text (of_decide_eq_true small) p (of_decide_eq_true (Bool.and_eq_true_iff.1 bodyWf).1))
  | cancel k n =>
    exact parseEntry_of_fields (k := .cancel) rfl (congrArg orSyntax
      (parseReceipt_text .cancel k n))
  | query k n =>
    exact parseEntry_of_fields (k := .query) rfl (congrArg orSyntax
      (parseReceipt_text .query k n))
  | enrol sub addr cls t p z q n =>
    obtain ⟨small, zones⟩ := Bool.and_eq_true_iff.1 wf
    exact parseEntry_of_fields (k := .enrol) rfl (congrArg orSyntax
      (parseEnrol_text (of_decide_eq_true small) addr cls t p (of_decide_eq_true zones) q n))
  | amend sub groups =>
    obtain ⟨small, groupsWf⟩ := Bool.and_eq_true_iff.1 wf
    exact parseEntry_of_fields (k := .amend) rfl (congrArg orSyntax
      (parseAmend_text (of_decide_eq_true small) groupsWf))
  | suspend sub =>
    exact parseEntry_of_fields (k := .suspend) rfl (congrArg orSyntax
      (parseSub_text (of_decide_eq_true wf) .suspend))
  | resume sub =>
    exact parseEntry_of_fields (k := .resume) rfl (congrArg orSyntax
      (parseSub_text (of_decide_eq_true wf) .resume))
  | withdraw sub =>
    exact parseEntry_of_fields (k := .withdraw) rfl (congrArg orSyntax
      (parseSub_text (of_decide_eq_true wf) .withdraw))
  | meterRead sub =>
    exact parseEntry_of_fields (k := .meterRead) rfl (congrArg orSyntax
      (parseSub_text (of_decide_eq_true wf) .meterRead))
  | periodClose => cases role <;> rfl
  | status clear => cases clear <;> cases role <;> rfl

/-- Settles O11: form by form, each field read back from its text. -/
theorem parseReadsBackEveryEntryText : Obligations.ParseReadsBackEveryEntryText := by
  unfold Obligations.ParseReadsBackEveryEntryText
  refine ⟨fun q wf => parseEntry_requestText .operator wf, fun q wf => ?_⟩
  rw [parseEntry_requestText .caller wf]
  cases q <;> rfl

end Sys2Proof.Machine
end
